-- ==== Sys2Proof/Word.lean ====
section
/-! DEFINITION. The word types of the Oplenta 4800: bytes of a frame, values of the reserve clock, terminal
identities, converter codes, and the two index ranges (64 record slots, 48 ports). -/

namespace Sys2Proof

/-- One byte of an SPI frame or one character value of the riser link (R103, R174). -/
abbrev Byte := BitVec 8

/-- A value of the 32-bit reserve clock: a stamp or a due time (R149). Differences wrap modulo 2^32. -/
abbrev Stamp := BitVec 32

/-- A terminal's 64-bit serial (R2). The tag is its low 8 bits. -/
abbrev Identity := BitVec 64

/-- A 10-bit code of one converter channel (R65). -/
abbrev Code := BitVec 10

/-- A port of the array (R46): port P1 is 0, port P48 is 47. In frames the port is sent as this value plus 1. -/
abbrev Port := Fin 48

/-- A slot of the terminal table (R1): 0 to 63. -/
abbrev Idx := Fin 64

end Sys2Proof
end

