-- ==== Sys2Proof/Syntax.lean ====
section
/-! DEFINITION. The commands of the block: one constructor of `Instr` for each row of spec/opcode_table.json, with the
operands the row's event carries from outside the part. -/

namespace Sys2Proof

/-- The two link engines (R121). -/
inductive Engine where
  | a
  | b
deriving DecidableEq, Repr

/-- How a request frame was framed (R174, R175): the parameter length byte, and how many parameter bytes really
followed it. The parameter values themselves are the operands of the command. -/
structure Framing where
  declared : Byte
  sent : Nat
deriving DecidableEq, Repr

/-- The selector of a FIND (R14). `other` is a selector code outside 0..2. -/
inductive Selector where
  | index (i : Byte)
  | identity (v : Identity)
  | port (p : Byte)
  | other (code : Byte)
deriving DecidableEq, Repr

/-- One change of an AMEND frame (R16), with the codes 0x01 to 0x07 of the frame layouts. -/
inductive AmendChange where
  | cls (c : Byte)
  | ceiling (ma : BitVec 16)
  | cap (cu : BitVec 32)
  | removeCap
  | port (p : Byte)
  | unbind
  | clearFault
deriving DecidableEq, Repr

/-- The pair currents, in µA, at samples 7, 8 and 9 of one bit (R104). -/
structure BitSample where
  s7 : Nat
  s8 : Nat
  s9 : Nat
deriving DecidableEq, Repr

/-- One upstream character as the engine's comparator meets it: 11 bits (R103), each by its three judged samples. -/
structure RxChar where
  start : BitSample
  d0 : BitSample
  d1 : BitSample
  d2 : BitSample
  d3 : BitSample
  d4 : BitSample
  d5 : BitSample
  d6 : BitSample
  d7 : BitSample
  parity : BitSample
  stop : BitSample
deriving DecidableEq, Repr

/-- What one tick's converter and inputs give (R29, R55, R65): the 48 port codes, the bus and voltage codes, the mains
sense input (true: present), the 48 bias comparators (true: above 0.2 mA), and for each engine whether this tick's
sample of its port falls in a downstream space. -/
structure Scan where
  codes : Vector Code 48
  bus : Code
  volt : Code
  mains : Bool
  bias : Vector Bool 48
  spaceA : Bool
  spaceB : Bool
deriving DecidableEq, Repr

/-- An event that can be taken ahead of a step of a tick's meter work (R11, R38, R69, R133, R162: either may be taken
first): a cell's sample, a countdown's expiry, the expiry of the schedule, a trip of a port at a current, the completion
of an exchange that has ended. -/
inductive TickPart where
  | cell (p : Port)
  | expiry (i : Idx)
  | appointments
  | trip (p : Port) (current : Nat)
  | complete (e : Engine)
deriving DecidableEq, Repr

/-- How a tick's events stand to the meter's work of R66, where either may be taken first (R11, R69, R81, R162): `early`
ahead of the debit pass, `mid` between the debit pass and the supply controller's work, each in its order, and `late` the
cells whose samples stay due behind it. -/
structure TickOrder where
  early : List TickPart := []
  mid : List TickPart := []
  late : List Port := []
deriving DecidableEq, Repr

/-- The commands: one constructor for each row of spec/opcode_table.json. A host request carries its framing first. -/
inductive Instr where
  | enroll (fr : Framing) (identity : Identity) (cls : Byte) (port : Option Byte)
  | find (fr : Framing) (sel : Selector)
  | amendCeiling (fr : Framing) (index : Byte) (ma : Option (BitVec 16)) (also : List AmendChange)
  | amendCap (fr : Framing) (index : Byte) (cap : Option (BitVec 32)) (also : List AmendChange)
  | amendClass (fr : Framing) (index : Byte) (cls : Byte) (also : List AmendChange)
  | amendPort (fr : Framing) (index : Byte) (port : Byte) (also : List AmendChange)
  | unbind (fr : Framing) (index : Byte) (also : List AmendChange)
  | clearFault (fr : Framing) (index : Byte) (also : List AmendChange)
  | retire (fr : Framing) (index : Byte)
  | grant (fr : Framing) (index : Byte) (amount : BitVec 32)
  | apportion (fr : Framing)
  | book (fr : Framing) (kind : Byte) (target : Byte) (delay : BitVec 32) (period : BitVec 32)
  | cancel (fr : Framing) (kind : Byte) (target : Byte)
  | schedule (fr : Framing) (position : Byte)
  | sendWake (fr : Framing) (index : Byte) (arg : Byte)
  | sendQuery (fr : Framing) (index : Byte) (arg : Byte)
  | sendRest (fr : Framing) (index : Byte) (arg : Byte)
  | sendShed (fr : Framing) (index : Byte) (arg : Byte)
  | test (fr : Framing) (index : Byte)
  | setBusCap (fr : Framing) (value : BitVec 32)
  | setH (fr : Framing) (value : BitVec 32)
  | setK (fr : Framing) (value : BitVec 32)
  | setUndervoltageFloor (fr : Framing) (value : BitVec 32)
  | setMainsFailDebounce (fr : Framing) (value : BitVec 32)
  | setMainsReturnDebounce (fr : Framing) (value : BitVec 32)
  | setBitRateReload (fr : Framing) (value : BitVec 32)
  | setReplyWindowCode (fr : Framing) (value : BitVec 32)
  | setWakeWindow (fr : Framing) (value : BitVec 32)
  | setRetryLimit (fr : Framing) (value : BitVec 32)
  | setTestWindow (fr : Framing) (value : BitVec 32)
  | setDefaultCeiling (fr : Framing) (value : BitVec 32)
  | setAttentionMask (fr : Framing) (value : BitVec 32)
  | setClassPolicy (fr : Framing) (number : Byte) (value : BitVec 32)
  | get (fr : Framing) (number : Byte)
  | reserve (fr : Framing) (q : BitVec 32)
  | state (fr : Framing) (sect : Byte) (start : Byte)
  | port (fr : Framing) (port : Byte)
  | next (fr : Framing)
  | clear (fr : Framing)
  | read (bits : Nat)
  | statusPoll (bits : Nat)
  | powerOnReset (holding : Bool)
  | tick (scan : Scan) (order : TickOrder)
  | undervoltageLatch
  | mainsFailDebounce
  | mainsReturnDebounce
  | apportionment
  | queryIntervalExpiry (i : Idx)
  | wakePeriodExpiry (i : Idx)
  | coolingEnd (i : Idx)
  | testWindowExpiry (i : Idx)
  | appointmentExpiry
  | rampEnd (p : Port)
  | feedRunComplete (p : Port)
  | presenceSettle (p : Port)
  | callPulse (p : Port)
  | overCeilingShed (p : Port)
  | trip (p : Port) (current : Nat)
  | frameSent (e : Engine)
  | replyWindowTimeout (e : Engine)
  | reportReceived (e : Engine) (chars : List RxChar) (begun : Bool)
  | interCharacterGapTimeout (e : Engine)
  | guardEnd (e : Engine)
  | wakeComplete (e : Engine)
  | queryComplete (e : Engine)
  | restComplete (e : Engine)
  | shedComplete (e : Engine)
  | falseStart (e : Engine) (start : BitSample) (ranOut : Bool)
  | malformedRequestFrame (bytes : List Byte) (extra : Nat)
deriving DecidableEq, Repr

end Sys2Proof
end

