-- ==== Sys2Proof/Decode.lean ====
section
/-! DEFINITION. From wires to commands: the table gives its rows no bits (`decodeTableWord`), but the Host Port chapter
gives every request frame its bytes (R173 to R175, section 11.6), so an SPI transaction decodes to a command and every
wire command encodes to a transaction. -/

namespace Sys2Proof

/-! ### Bytes and words (section 11.6: the most significant byte first) -/

/-- The bytes of a 16-bit value. -/
def bytes16 (v : BitVec 16) : List Byte := [v.extractLsb' 8 8, v.extractLsb' 0 8]

/-- The bytes of a 32-bit value. -/
def bytes32 (v : BitVec 32) : List Byte :=
  [v.extractLsb' 24 8, v.extractLsb' 16 8, v.extractLsb' 8 8, v.extractLsb' 0 8]

/-- The bytes of a terminal identity. -/
def bytes64 (v : BitVec 64) : List Byte :=
  [v.extractLsb' 56 8, v.extractLsb' 48 8, v.extractLsb' 40 8, v.extractLsb' 32 8,
   v.extractLsb' 24 8, v.extractLsb' 16 8, v.extractLsb' 8 8, v.extractLsb' 0 8]

/-- The 16-bit value of two bytes. -/
def word16 (b1 b0 : Byte) : BitVec 16 := b1 ++ b0

/-- The 32-bit value of four bytes. -/
def word32 (b3 b2 b1 b0 : Byte) : BitVec 32 := b3 ++ b2 ++ b1 ++ b0

/-- The 64-bit value of eight bytes. -/
def word64 (b7 b6 b5 b4 b3 b2 b1 b0 : Byte) : BitVec 64 := b7 ++ b6 ++ b5 ++ b4 ++ b3 ++ b2 ++ b1 ++ b0

/-! ### Request codes and parameters (section 11.6) -/

/-- The request code of a row that is a host request, a SET, a SEND or an AMEND change, and of READ. -/
def Instr.requestCode : Instr → Option Byte
  | .enroll .. => some 0x01
  | .find .. => some 0x02
  | .amendCeiling .. => some 0x03
  | .amendCap .. => some 0x03
  | .amendClass .. => some 0x03
  | .amendPort .. => some 0x03
  | .unbind .. => some 0x03
  | .clearFault .. => some 0x03
  | .retire .. => some 0x04
  | .grant .. => some 0x05
  | .apportion .. => some 0x06
  | .book .. => some 0x07
  | .cancel .. => some 0x08
  | .schedule .. => some 0x09
  | .sendWake .. => some 0x0A
  | .sendQuery .. => some 0x0A
  | .sendRest .. => some 0x0A
  | .sendShed .. => some 0x0A
  | .test .. => some 0x0B
  | .setBusCap .. => some 0x0C
  | .setH .. => some 0x0C
  | .setK .. => some 0x0C
  | .setUndervoltageFloor .. => some 0x0C
  | .setMainsFailDebounce .. => some 0x0C
  | .setMainsReturnDebounce .. => some 0x0C
  | .setBitRateReload .. => some 0x0C
  | .setReplyWindowCode .. => some 0x0C
  | .setWakeWindow .. => some 0x0C
  | .setRetryLimit .. => some 0x0C
  | .setTestWindow .. => some 0x0C
  | .setDefaultCeiling .. => some 0x0C
  | .setAttentionMask .. => some 0x0C
  | .setClassPolicy .. => some 0x0C
  | .get .. => some 0x0D
  | .reserve .. => some 0x0E
  | .state .. => some 0x0F
  | .port .. => some 0x10
  | .next .. => some 0x11
  | .clear .. => some 0x12
  | .read .. => some 0x80
  | .statusPoll .. => none
  | .powerOnReset .. => none
  | .tick .. => none
  | .undervoltageLatch => none
  | .mainsFailDebounce => none
  | .mainsReturnDebounce => none
  | .apportionment => none
  | .queryIntervalExpiry .. => none
  | .wakePeriodExpiry .. => none
  | .coolingEnd .. => none
  | .testWindowExpiry .. => none
  | .appointmentExpiry => none
  | .rampEnd .. => none
  | .feedRunComplete .. => none
  | .presenceSettle .. => none
  | .callPulse .. => none
  | .overCeilingShed .. => none
  | .trip .. => none
  | .frameSent .. => none
  | .replyWindowTimeout .. => none
  | .reportReceived .. => none
  | .interCharacterGapTimeout .. => none
  | .guardEnd .. => none
  | .wakeComplete .. => none
  | .queryComplete .. => none
  | .restComplete .. => none
  | .shedComplete .. => none
  | .falseStart .. => none
  | .malformedRequestFrame .. => none

/-- The request codes of section 11.6, READ among them. -/
def requestCodes : List Byte :=
  [0x01, 0x02, 0x03, 0x04, 0x05, 0x06, 0x07, 0x08, 0x09, 0x0A, 0x0B, 0x0C, 0x0D, 0x0E, 0x0F, 0x10, 0x11, 0x12, 0x80]

/-- The bytes of one AMEND change: its code and its value. -/
def AmendChange.bytes : AmendChange → List Byte
  | .cls c => [0x01, c]
  | .ceiling ma => 0x02 :: bytes16 ma
  | .cap cu => 0x03 :: bytes32 cu
  | .removeCap => [0x04]
  | .port p => [0x05, p]
  | .unbind => [0x06]
  | .clearFault => [0x07]

/-- The code of an AMEND change. -/
def AmendChange.code : AmendChange → Byte
  | .cls _ => 0x01
  | .ceiling _ => 0x02
  | .cap _ => 0x03
  | .removeCap => 0x04
  | .port _ => 0x05
  | .unbind => 0x06
  | .clearFault => 0x07

/-- The change that an optional cap stands for: a value, or its removal. -/
def capChange : Option (BitVec 32) → AmendChange
  | some cu => .cap cu
  | none => .removeCap

/-- The changes of an AMEND frame whose leading change, if it has one, is a ceiling. -/
def ceilingChanges (ma : Option (BitVec 16)) (also : List AmendChange) : List AmendChange :=
  match ma with
  | some v => .ceiling v :: also
  | none => also

/-- The parameter bytes of an AMEND frame: the index and then each change. -/
def amendParams (index : Byte) (changes : List AmendChange) : List Byte :=
  index :: changes.flatMap AmendChange.bytes

/-- The parameter bytes of a FIND frame. -/
def Selector.params : Selector → List Byte
  | .index i => [0, i]
  | .identity v => 1 :: bytes64 v
  | .port p => [2, p]
  | .other c => [c]

/-- The parameter bytes of a request (section 11.6). Rows that are no request have none. -/
def Instr.params : Instr → List Byte
  | .enroll _ identity cls pt => bytes64 identity ++ cls :: pt.toList
  | .find _ sel => sel.params
  | .amendCeiling _ index ma also => amendParams index (ceilingChanges ma also)
  | .amendCap _ index cap also => amendParams index (capChange cap :: also)
  | .amendClass _ index cls also => amendParams index (.cls cls :: also)
  | .amendPort _ index pt also => amendParams index (.port pt :: also)
  | .unbind _ index also => amendParams index (.unbind :: also)
  | .clearFault _ index also => amendParams index (.clearFault :: also)
  | .retire _ index => [index]
  | .grant _ index amount => index :: bytes32 amount
  | .book _ kind target delay period => kind :: target :: (bytes32 delay ++ bytes32 period)
  | .cancel _ kind target => [kind, target]
  | .schedule _ position => [position]
  | .sendWake _ index arg => [index, 1, arg]
  | .sendQuery _ index arg => [index, 2, arg]
  | .sendRest _ index arg => [index, 3, arg]
  | .sendShed _ index arg => [index, 4, arg]
  | .test _ index => [index]
  | .setBusCap _ v => 1 :: bytes32 v
  | .setH _ v => 2 :: bytes32 v
  | .setK _ v => 3 :: bytes32 v
  | .setUndervoltageFloor _ v => 4 :: bytes32 v
  | .setMainsFailDebounce _ v => 5 :: bytes32 v
  | .setMainsReturnDebounce _ v => 6 :: bytes32 v
  | .setBitRateReload _ v => 7 :: bytes32 v
  | .setReplyWindowCode _ v => 8 :: bytes32 v
  | .setWakeWindow _ v => 9 :: bytes32 v
  | .setRetryLimit _ v => 10 :: bytes32 v
  | .setTestWindow _ v => 11 :: bytes32 v
  | .setDefaultCeiling _ v => 12 :: bytes32 v
  | .setAttentionMask _ v => 13 :: bytes32 v
  | .setClassPolicy _ number v => number :: bytes32 v
  | .get _ number => [number]
  | .reserve _ q => bytes32 q
  | .state _ sect start => [sect, start]
  | .port _ p => [p]
  | .apportion _ => []
  | .next _ => []
  | .clear _ => []
  | .read .. => []
  | .statusPoll .. => []
  | .powerOnReset .. => []
  | .tick .. => []
  | .undervoltageLatch => []
  | .mainsFailDebounce => []
  | .mainsReturnDebounce => []
  | .apportionment => []
  | .queryIntervalExpiry .. => []
  | .wakePeriodExpiry .. => []
  | .coolingEnd .. => []
  | .testWindowExpiry .. => []
  | .appointmentExpiry => []
  | .rampEnd .. => []
  | .feedRunComplete .. => []
  | .presenceSettle .. => []
  | .callPulse .. => []
  | .overCeilingShed .. => []
  | .trip .. => []
  | .frameSent .. => []
  | .replyWindowTimeout .. => []
  | .reportReceived .. => []
  | .interCharacterGapTimeout .. => []
  | .guardEnd .. => []
  | .wakeComplete .. => []
  | .queryComplete .. => []
  | .restComplete .. => []
  | .shedComplete .. => []
  | .falseStart .. => []
  | .malformedRequestFrame .. => []

/-- The framing of a command, for the rows that carry one. -/
def Instr.framing : Instr → Option Framing
  | .enroll fr .. => some fr
  | .find fr .. => some fr
  | .amendCeiling fr .. => some fr
  | .amendCap fr .. => some fr
  | .amendClass fr .. => some fr
  | .amendPort fr .. => some fr
  | .unbind fr .. => some fr
  | .clearFault fr .. => some fr
  | .retire fr .. => some fr
  | .grant fr .. => some fr
  | .apportion fr => some fr
  | .book fr .. => some fr
  | .cancel fr .. => some fr
  | .schedule fr .. => some fr
  | .sendWake fr .. => some fr
  | .sendQuery fr .. => some fr
  | .sendRest fr .. => some fr
  | .sendShed fr .. => some fr
  | .test fr .. => some fr
  | .setBusCap fr .. => some fr
  | .setH fr .. => some fr
  | .setK fr .. => some fr
  | .setUndervoltageFloor fr .. => some fr
  | .setMainsFailDebounce fr .. => some fr
  | .setMainsReturnDebounce fr .. => some fr
  | .setBitRateReload fr .. => some fr
  | .setReplyWindowCode fr .. => some fr
  | .setWakeWindow fr .. => some fr
  | .setRetryLimit fr .. => some fr
  | .setTestWindow fr .. => some fr
  | .setDefaultCeiling fr .. => some fr
  | .setAttentionMask fr .. => some fr
  | .setClassPolicy fr .. => some fr
  | .get fr .. => some fr
  | .reserve fr .. => some fr
  | .state fr .. => some fr
  | .port fr .. => some fr
  | .next fr => some fr
  | .clear fr => some fr
  | .read .. => none
  | .statusPoll .. => none
  | .powerOnReset .. => none
  | .tick .. => none
  | .undervoltageLatch => none
  | .mainsFailDebounce => none
  | .mainsReturnDebounce => none
  | .apportionment => none
  | .queryIntervalExpiry .. => none
  | .wakePeriodExpiry .. => none
  | .coolingEnd .. => none
  | .testWindowExpiry .. => none
  | .appointmentExpiry => none
  | .rampEnd .. => none
  | .feedRunComplete .. => none
  | .presenceSettle .. => none
  | .callPulse .. => none
  | .overCeilingShed .. => none
  | .trip .. => none
  | .frameSent .. => none
  | .replyWindowTimeout .. => none
  | .reportReceived .. => none
  | .interCharacterGapTimeout .. => none
  | .guardEnd .. => none
  | .wakeComplete .. => none
  | .queryComplete .. => none
  | .restComplete .. => none
  | .shedComplete .. => none
  | .falseStart .. => none
  | .malformedRequestFrame .. => none

/-- The framing check of R175 and the length check that opens every owner's checks: the declared length is 24 or
less, as many bytes followed, and the length is `n`, the length of the request's parameters. -/
def Framing.fits (fr : Framing) (n : Nat) : Bool :=
  decide (fr.declared.toNat ≤ 24) && decide (fr.sent = fr.declared.toNat) && decide (fr.declared.toNat = n)

/-- The framing of a frame that carries exactly `n` parameter bytes. -/
def Framing.exactly (n : Nat) : Framing := ⟨BitVec.ofNat 8 n, n⟩

/-! ### From an SPI transaction to a command -/

/-- The changes of an AMEND frame, in the order sent. `none` where the bytes are not a sequence of changes. -/
def parseChanges : List Byte → Option (List AmendChange)
  | [] => some []
  | c :: rest =>
    if c = 0x01 then
      match rest with
      | v :: more => (parseChanges more).map (.cls v :: ·)
      | _ => none
    else if c = 0x02 then
      match rest with
      | b1 :: b0 :: more => (parseChanges more).map (.ceiling (word16 b1 b0) :: ·)
      | _ => none
    else if c = 0x03 then
      match rest with
      | b3 :: b2 :: b1 :: b0 :: more => (parseChanges more).map (.cap (word32 b3 b2 b1 b0) :: ·)
      | _ => none
    else if c = 0x04 then (parseChanges rest).map (.removeCap :: ·)
    else if c = 0x05 then
      match rest with
      | v :: more => (parseChanges more).map (.port v :: ·)
      | _ => none
    else if c = 0x06 then (parseChanges rest).map (.unbind :: ·)
    else if c = 0x07 then (parseChanges rest).map (.clearFault :: ·)
    else none

/-- The AMEND command of an index and its changes: the row of the leading change. -/
def amendCommand (fr : Framing) (index : Byte) : List AmendChange → Instr
  | .ceiling ma :: also => .amendCeiling fr index (some ma) also
  | .cap cu :: also => .amendCap fr index (some cu) also
  | .removeCap :: also => .amendCap fr index none also
  | .cls c :: also => .amendClass fr index c also
  | .port p :: also => .amendPort fr index p also
  | .unbind :: also => .unbind fr index also
  | .clearFault :: also => .clearFault fr index also
  | [] => .amendCeiling fr index none []

/-- The SET command of a setting number (R178). Numbers 1 to 13 have rows of their own. -/
def setCommand (fr : Framing) (number : Byte) (v : BitVec 32) : Instr :=
  match number.toNat with
  | 1 => .setBusCap fr v
  | 2 => .setH fr v
  | 3 => .setK fr v
  | 4 => .setUndervoltageFloor fr v
  | 5 => .setMainsFailDebounce fr v
  | 6 => .setMainsReturnDebounce fr v
  | 7 => .setBitRateReload fr v
  | 8 => .setReplyWindowCode fr v
  | 9 => .setWakeWindow fr v
  | 10 => .setRetryLimit fr v
  | 11 => .setTestWindow fr v
  | 12 => .setDefaultCeiling fr v
  | 13 => .setAttentionMask fr v
  | _ => .setClassPolicy fr number v

/-- The request of a code, its framing and its parameter bytes. Parameters that do not have the request's length leave
the operands 0: the framing then fails its check and the operands are not looked at. A SEND that names no kind of the
table, and a SET without a setting number, belong to no row and are taken as malformed (they are answered alike). -/
def parseRequest (raw : List Byte) (code : Byte) (fr : Framing) (ps : List Byte) : Instr :=
  match code.toNat with
  | 0x01 =>
    match ps with
    | [b7, b6, b5, b4, b3, b2, b1, b0, c] => .enroll fr (word64 b7 b6 b5 b4 b3 b2 b1 b0) c none
    | [b7, b6, b5, b4, b3, b2, b1, b0, c, p] => .enroll fr (word64 b7 b6 b5 b4 b3 b2 b1 b0) c (some p)
    | _ => .enroll fr 0 0 none
  | 0x02 =>
    match ps with
    | [] => .find fr (.other 3)
    | sel :: rest =>
      match sel.toNat, rest with
      | 0, [i] => .find fr (.index i)
      | 0, _ => .find fr (.index 0)
      | 1, [b7, b6, b5, b4, b3, b2, b1, b0] => .find fr (.identity (word64 b7 b6 b5 b4 b3 b2 b1 b0))
      | 1, _ => .find fr (.identity 0)
      | 2, [p] => .find fr (.port p)
      | 2, _ => .find fr (.port 0)
      | _, _ => .find fr (.other sel)
  | 0x03 =>
    match ps with
    | [] => .amendCeiling fr 0 none []
    | i :: rest =>
      match parseChanges rest with
      | some changes => amendCommand fr i changes
      | none => .amendCeiling fr i none []
  | 0x04 => .retire fr (ps.headD 0)
  | 0x05 =>
    match ps with
    | [i, b3, b2, b1, b0] => .grant fr i (word32 b3 b2 b1 b0)
    | _ => .grant fr 0 0
  | 0x06 => .apportion fr
  | 0x07 =>
    match ps with
    | [k, t, d3, d2, d1, d0, p3, p2, p1, p0] => .book fr k t (word32 d3 d2 d1 d0) (word32 p3 p2 p1 p0)
    | _ => .book fr 0 0 0 0
  | 0x08 =>
    match ps with
    | [k, t] => .cancel fr k t
    | _ => .cancel fr 0 0
  | 0x09 => .schedule fr (ps.headD 0)
  | 0x0A =>
    match ps with
    | [i, k, x] =>
      match k.toNat with
      | 1 => .sendWake fr i x
      | 2 => .sendQuery fr i x
      | 3 => .sendRest fr i x
      | 4 => .sendShed fr i x
      | _ => .malformedRequestFrame raw 0
    | _ => .malformedRequestFrame raw 0
  | 0x0B => .test fr (ps.headD 0)
  | 0x0C =>
    match ps with
    | [n, b3, b2, b1, b0] => setCommand fr n (word32 b3 b2 b1 b0)
    | n :: _ => setCommand fr n 0
    | [] => .malformedRequestFrame raw 0
  | 0x0D => .get fr (ps.headD 0)
  | 0x0E =>
    match ps with
    | [b3, b2, b1, b0] => .reserve fr (word32 b3 b2 b1 b0)
    | _ => .reserve fr 0
  | 0x0F =>
    match ps with
    | [x, y] => .state fr x y
    | _ => .state fr 0 0
  | 0x10 => .port fr (ps.headD 0)
  | 0x11 => .next fr
  | 0x12 => .clear fr
  | _ => .malformedRequestFrame raw 0

/-- The command of one SPI transaction (R173): the whole bytes the host shifted in, and how many bits of a further byte
followed them. -/
def decodeTransaction (bytes : List Byte) (extra : Nat) : Instr :=
  match bytes with
  | [] => .statusPoll extra
  | code :: rest =>
    if rest = [] ∧ extra = 0 then .statusPoll 8
    else if code = 0x80 then .read (8 * bytes.length + extra)
    else if extra ≠ 0 then .malformedRequestFrame bytes extra
    else
      match rest with
      | [] => .malformedRequestFrame bytes extra
      | len :: ps => parseRequest bytes code ⟨len, ps.length⟩ ps

/-- The transaction that carries a command: whole bytes and the bits of a further one. Rows that are no SPI transaction
have none. -/
def encodeTransaction (i : Instr) : Option (List Byte × Nat) :=
  match i with
  | .statusPoll bits => some (if bits = 8 then ([0], 0) else ([], bits))
  | .read bits => some (0x80 :: List.replicate (bits / 8 - 1) 0, bits % 8)
  | .malformedRequestFrame bytes extra => some (bytes, extra)
  | i =>
    match i.requestCode, i.framing with
    | some code, some fr => some (code :: fr.declared :: i.params, 0)
    | _, _ => none

/-- The command that a word spells by the opcode table's bits. The table gives bits to none of its rows, so no word
spells one. -/
def decodeTableWord (_nbits _w : Nat) : Option Instr := none

end Sys2Proof
end

