-- ==== Sys2Proof/Config.lean ====
section
/-! DEFINITION. What the pairs and the bit clocks give the block and no command of the table carries: free values. -/

namespace Sys2Proof

/-- FREE VALUE. The pair current, in µA, that an engine's comparator reads at the n-th moment it takes a baseline
(R101). The command that makes the engine take an exchange does not carry it, so nothing constrains it.
Assumption log entry 11. -/
opaque Config.pairReading : Nat → Nat

/-- FREE VALUE. How many of its remaining bits an engine has begun to send at the n-th moment its sending changes form or
is cut (R113, R115): the instant of the change within the frame is carried by no command, so nothing constrains it. It
is taken modulo the number of bits that can stand. Assumption log entry 11. -/
opaque Config.bitsOut : Nat → Nat

end Sys2Proof
end

