-- ==== Sys2Proof/Machine/State.lean ====
section
/-! DEFINITION. The state of the Oplenta 4800: everything chapters 1 to 11 give the part, grouped by the block that
holds it, and the queue of waiting commands. -/

namespace Sys2Proof.Machine

open Sys2Proof

/-! ### Names of the manual -/

/-- The three classes of service, in class order. -/
inductive Cls where
  | lifeline
  | standard
  | deferred
deriving DecidableEq, Repr

/-- The ten record states (R6). -/
inductive RState where
  | idle
  | waking
  | carrying
  | resting
  | waiting
  | fed
  | testing
  | lapsed
  | silent
  | faulted
deriving DecidableEq, Repr

/-- The supply modes (R28). -/
inductive Mode where
  | mains
  | outage
  | critical
  | depleted
deriving DecidableEq, Repr

/-- The drive levels of a port cell (R46). -/
inductive Drive where
  | off
  | sense
  | ramp
  | feed
deriving DecidableEq, Repr

/-- The level of a pair, as the cell drives it (R100): nothing in OFF, the 5 V bias or its notch in SENSE, the reserve
voltage or its notch of 60 % in RAMP and FEED. -/
inductive LineLevel where
  | nothing
  | bias
  | biasRemoved
  | reserve
  | dropped
deriving DecidableEq, Repr

/-- A settled presence value (R46). -/
inductive Presence where
  | unknown
  | present
  | absent
deriving DecidableEq, Repr

/-- One presence reading, or a presence candidate (R57). -/
inductive Reading where
  | present
  | absent
deriving DecidableEq, Repr

/-- The exchange kinds (R5). -/
inductive ExKind where
  | wake
  | query
  | rest
  | shed
deriving DecidableEq, Repr

/-- The origins of an exchange (R116). -/
inductive Origin where
  | request
  | policy
  | appointment
  | test
deriving DecidableEq, Repr

/-- The outcomes of an exchange (R124). -/
inductive ExOutcome where
  | ok
  | timeout
  | badReply
  | aborted
  | line
deriving DecidableEq, Repr

/-- The phases of an attempt (R110). -/
inductive ExPhase where
  | sending
  | listening
  | guarding
deriving DecidableEq, Repr

/-- The phases of a battery test (R163). -/
inductive TestPhase where
  | q0
  | window
  | q1
deriving DecidableEq, Repr

/-- The outcomes of a battery test (R26). -/
inductive TestOutcome where
  | graded
  | failed
  | abandoned
  | skipped
deriving DecidableEq, Repr

/-- The record flags (R25), in the order of the NEXT flags byte from bit 0. -/
inductive RecFlag where
  | presence
  | call
  | linkfail
  | trip
  | faulted
  | lapsed
  | tested
  | sent
deriving DecidableEq, Repr

/-- The kinds of an appointment (R150). -/
inductive ApptKind where
  | wake
  | query
  | rest
  | test
  | apportion
deriving DecidableEq, Repr

/-- The target of an appointment (R150). -/
inductive Target where
  | record (i : Idx)
  | all
  | none
deriving DecidableEq, Repr

/-- The pending-apportionment mark (R74): clear, set, or set with an APPORTION request awaiting it. -/
inductive ApMark where
  | clear
  | set
  | awaited
deriving DecidableEq, Repr

/-- The reply statuses of section 11.6. -/
inductive ReplyStatus where
  | done
  | clamped
  | merged
  | none
  | badRequest
  | noRecord
  | tableFull
  | dupIdentity
  | portTaken
  | badPort
  | badState
  | scheduleFull
  | noAppointment
  | notSet
deriving DecidableEq, Repr

/-! ### The terminal table (chapter 1) -/

/-- A record's countdown (R9). -/
structure Countdown where
  remaining : Nat
  reload : Nat
  repeats : Bool
  running : Bool
deriving DecidableEq, Repr

/-- An exchange as it is asked for (R116). -/
structure Exchange where
  kind : ExKind
  arg : Nat
  origin : Origin
deriving DecidableEq, Repr

/-- The context of a running test (R163). -/
structure TestCtx where
  phase : TestPhase
  soc0 : Option Nat
  faultMark : Bool
deriving DecidableEq, Repr

/-- One record of the terminal table (R3). Its in-flight exchange is held by the engine that carries it. The flag set
holds the eight flags at their positions of the NEXT flags byte; `rep` is REPEAT (R25). -/
structure Record where
  identity : Identity
  port : Option Port
  cls : Cls
  st : RState
  entered : Stamp
  ceiling : Nat
  admitted : Option Nat
  allowance : Nat
  cap : Option Nat
  soc : Option Nat
  load : Option Nat
  call : Bool
  batteryFault : Bool
  selfMinutes : Option Nat
  lastSeen : Option Stamp
  cd : Countdown
  pend : Option Exchange
  test : Option TestCtx
  lastOutcome : Option (ExKind × ExOutcome)
  flags : BitVec 8
  rep : Bool
  testOutcome : Option TestOutcome
deriving DecidableEq, Repr

/-- The device flags (R27). -/
structure DevFlags where
  mode : Bool
  poolEmpty : Bool
  capshed : Bool
  outagePending : Bool
deriving DecidableEq, Repr

/-! ### The port array (chapter 3) -/

/-- One port cell (R46). -/
structure Cell where
  drive : Drive
  rampCount : Nat
  trip : Option Nat
  presence : Presence
  stamp : Option Stamp
  cand : Option Reading
  presRun : Nat
  faultCount : Nat
  feedRun : Nat
  overRun : Nat
  callBase : Option Nat
  callRun : Nat
  callHeld : Bool
  lastScan : Nat
deriving DecidableEq, Repr

/-- The values of a port cell after power-on reset (R46). -/
def Cell.reset : Cell where
  drive := .off
  rampCount := 0
  trip := none
  presence := .unknown
  stamp := none
  cand := none
  presRun := 0
  faultCount := 0
  feedRun := 0
  overRun := 0
  callBase := none
  callRun := 0
  callHeld := false
  lastScan := 0

/-! ### Supply controller, meter, arbiter, schedule -/

/-- The supply controller's state (R28), without its settings. `held` is the outage hold of R30. -/
structure Supply where
  mode : Mode
  q : Option Nat
  latch : Bool
  uvRun : Nat
  failCount : Nat
  returnCount : Nat
  lastMains : Option Bool
  held : Bool
deriving DecidableEq, Repr

/-- The meter's state (R65, R70, R74). `now` is the mark that the tick in progress has taken up (R75); the scan's port
codes stand in the cells. -/
structure Meter where
  lastBus : Nat
  lastVolt : Nat
  pool : Nat
  mark : ApMark
  now : ApMark
deriving DecidableEq, Repr

/-- The arbiter's collections (R84, R85). The budget is the sum of the admitted currents on the feed list. -/
structure Arbiter where
  feedList : List Idx
  queue : List Idx
deriving DecidableEq, Repr

/-- An appointment (R150). -/
structure Appointment where
  due : Stamp
  kind : ApptKind
  target : Target
  period : Nat
deriving DecidableEq, Repr

/-! ### Link scheduler and engines (chapters 6 and 7) -/

/-- The four fields of an accepted REPORT (R109). -/
structure Report where
  soc : Nat
  load : Nat
  call : Bool
  batteryFault : Bool
deriving DecidableEq, Repr

/-- What an engaged engine holds (R121): the record, its port and exchange, the attempts used, the phase, the copied
settings (reload N, window in ms, retry limit), the tag, the upstream baseline and threshold in µA, the line levels that
a change of drive level has left of this attempt's first bits (R113), the characters received in this attempt, whether
a character is being received, whether the window or the gap ran out while its start bit was unconfirmed (R111, R112),
and, once the last attempt has ended, the final outcome whose completion is still to be taken (R124). -/
structure Engagement where
  idx : Idx
  port : Option Port
  ex : Exchange
  attempts : Nat
  phase : ExPhase
  reloadN : Nat
  windowMs : Nat
  retryLimit : Nat
  tag : Byte
  baseline : Nat
  threshold : Nat
  sent : List LineLevel
  rx : List Byte
  midChar : Bool
  ranOut : Bool
  outcome : Option (ExOutcome × Option Report)
deriving DecidableEq, Repr

/-- The link scheduler (R118, R121). `lineA` and `lineB` are the levels, bit by bit, that each engine put on its pair in
the last attempt it sent in full or that was cut in its sending (R100, R103, R105, R106, R113, R115). `readings` counts
the free values taken so far, baselines and bits at a change or cut: it selects the next one. -/
structure Link where
  queue : List Idx
  engA : Option Engagement
  engB : Option Engagement
  lineA : List LineLevel
  lineB : List LineLevel
  readings : Nat
deriving DecidableEq, Repr

/-! ### Settings (R178) and class policies (R134) -/

/-- One row of the class policy table (R134). -/
structure Policy where
  weight : Nat
  socFloor : Nat
  releaseLevel : Nat
  queryInterval : Nat
  restAfter : Nat
  wakePeriod : Nat
  shedLevel : Nat
  selfSufficient : Nat
  topUp : Nat
deriving DecidableEq, Repr

/-- Every setting of R178, under its owner's name. -/
structure Settings where
  busCap : Nat
  holdBack : Nat
  cutoff : Nat
  uvFloor : Nat
  failDebounce : Nat
  returnDebounce : Nat
  reloadN : Nat
  windowCode : Nat
  wakeWindow : Nat
  retryLimit : Nat
  testWindow : Nat
  defaultCeiling : Nat
  mask : BitVec 8
  lifeline : Policy
  standard : Policy
  deferred : Policy
deriving DecidableEq, Repr

/-- The power-on values of the settings (R4, R27, R28, R83, R98, R121, R134, R163). -/
def Settings.reset : Settings where
  busCap := 4000
  holdBack := 0
  cutoff := 0
  uvFloor := 200
  failDebounce := 5
  returnDebounce := 60
  reloadN := 319
  windowCode := 1
  wakeWindow := 5
  retryLimit := 2
  testWindow := 120
  defaultCeiling := 400
  mask := 0
  lifeline := ⟨8, 50, 90, 300, 0, 0, 1, 480, 18000000⟩
  standard := ⟨4, 30, 90, 600, 1800, 3600, 2, 240, 0⟩
  deferred := ⟨1, 20, 80, 900, 600, 7200, 3, 120, 0⟩

/-! ### Host port (chapter 11) -/

/-- A reply as the reply buffer holds it (R176). -/
structure Reply where
  status : ReplyStatus
  data : List Byte
deriving DecidableEq, Repr

/-- The host port (R173 to R177). READY is shown while `reply` holds one. `request` is the request buffer: the frame of
the request that is taken and not yet completed. `miso` is what the data output carried in the last transaction, its
bits in the order shifted out. -/
structure HostPort where
  request : List Byte
  reply : Option Reply
  busy : Bool
  refused : Bool
  miso : List Bool
deriving DecidableEq, Repr

/-! ### The model's own agenda -/

/-- An event of the part that is due and still to be taken. An expiry is one row of four by the state the record holds; a
cell's sample is one event (R46), with a row of the table for each of the works it can bring; each other event is a
row. -/
inductive Event where
  | expiry (i : Idx)
  | appointments
  | sample (p : Port)
  | latch
  | failDebounce
  | returnDebounce
  | apportion
  | complete (e : Engine)
deriving DecidableEq, Repr

/-- The model's own fields: the events due, in the order they are taken when no command takes them sooner, and the two
notes of one event's work: it calls for an admission decision (R88), it calls for a pick (R122). -/
structure Agenda where
  due : List Event
  decision : Bool
  pick : Bool
deriving DecidableEq, Repr

/-- The model's own fields: what a tick's scan found, for the events of the tick that are taken later. `bias` holds the
bias comparators (R55), `spaces` the ports whose sample fell in a downstream space (R55), and `calls` the ports of records
in a test window whose call detector, as the tick found it, recognises a call at its sample (R61, R172). -/
structure TickFacts where
  bias : Vector Bool 48
  spaces : List Port
  calls : List Port
deriving DecidableEq, Repr

/-! ### The state -/

/-- The state of the part. `inReset` is set while NRST or the brown-out monitor holds the part (R183). `pending` is the
queue of the commands that wait, first in, first out. -/
structure State where
  slots : Vector (Option Record) 64
  dev : DevFlags
  cells : Vector Cell 48
  supply : Supply
  meter : Meter
  arbiter : Arbiter
  link : Link
  clock : Stamp
  schedule : List Appointment
  cfg : Settings
  host : HostPort
  inReset : Bool
  agenda : Agenda
  tick : TickFacts
  pending : List Instr
deriving DecidableEq, Repr

/-- The part right after power-on reset (R183). -/
def State.reset : State where
  slots := Vector.replicate 64 none
  dev := ⟨false, false, false, false⟩
  cells := Vector.replicate 48 Cell.reset
  supply := ⟨.mains, none, false, 0, 0, 0, none, false⟩
  meter := ⟨0, 0, 0, .clear, .clear⟩
  arbiter := ⟨[], []⟩
  link := ⟨[], none, none, [], [], 0⟩
  clock := 0
  schedule := []
  cfg := Settings.reset
  host := ⟨[], none, false, false, []⟩
  inReset := false
  agenda := ⟨[], false, false⟩
  tick := ⟨Vector.replicate 48 false, [], []⟩
  pending := []

/-- No command of this block stops with a fault: every event the manual describes leaves the part running. -/
inductive Fault where
deriving DecidableEq, Repr

/-- Why a command is refused by the model. -/
inductive Refusal where
  /-- Raised by `exec` for a row that has no meaning yet. Safe: nothing is claimed of the row. No row is left so. -/
  | notModelled (mnemonic : String)
deriving DecidableEq, Repr

end Sys2Proof.Machine
end

