-- ==== Sys2Proof/Machine/Operands.lean ====
section
/-! DEFINITION. The operand forms of the requests: clamping, the codes of section 11.6 in both directions, the bytes of
reply fields, and the bit forms of the riser link's characters. -/

namespace Sys2Proof.Machine

open Sys2Proof

/-! ### Clamping (conventions of the manual, R135, R152) -/

/-- The value taken into the range `lo..hi`. -/
def clampTo (lo hi v : Nat) : Nat := max lo (min hi v)

/-- The rest after and the wake period: 0, or clamped to 60..86400 (R135). -/
def clampRest (v : Nat) : Nat := if v = 0 then 0 else clampTo 60 86400 v

/-- The delay of a BOOK in ticks (R152). -/
def clampDelay (v : Nat) : Nat := clampTo 1 2147483647 v

/-- The period of a BOOK in ticks (R152). -/
def clampPeriod (v : Nat) : Nat := if v = 0 then 0 else clampTo 600 864000 v

/-! ### Codes read from a request -/

/-- An index byte (R14, R16): 0..63. -/
def idxOf (b : Byte) : Option Idx := if h : b.toNat < 64 then some ⟨b.toNat, h⟩ else none

/-- A port byte: 1..48. -/
def portOfByte (b : Byte) : Option Port :=
  if h : 1 ≤ b.toNat ∧ b.toNat ≤ 48 then some ⟨b.toNat - 1, by omega⟩ else none

/-- A class byte (section 11.6). -/
def clsOf (b : Byte) : Option Cls :=
  match b.toNat with
  | 0 => some .lifeline
  | 1 => some .standard
  | 2 => some .deferred
  | _ => none

/-- An appointment kind byte (section 11.6). SHED, 4, is no kind of appointment (R150). -/
def apptKindOf (b : Byte) : Option ApptKind :=
  match b.toNat with
  | 1 => some .wake
  | 2 => some .query
  | 3 => some .rest
  | 5 => some .test
  | 6 => some .apportion
  | _ => none

/-- A target byte (section 11.6): 0..63, 0xFE for ALL, 0xFF for none. -/
def targetOf (b : Byte) : Option Target :=
  match idxOf b with
  | some i => some (.record i)
  | none => if b = 0xFE then some .all else if b = 0xFF then some .none else none

/-- Check 1 of R152: the target is none for APPORTION, and ALL or an index for the other kinds. -/
def targetSuits (k : ApptKind) (t : Target) : Bool :=
  match k, t with
  | .apportion, .none => true
  | .apportion, _ => false
  | _, .none => false
  | _, _ => true

/-! ### Codes and bytes of a reply -/

/-- The low `n` bytes of a number, most significant first. -/
def beBytes (n v : Nat) : List Byte :=
  match n with
  | 0 => []
  | k + 1 => BitVec.ofNat 8 (v / 256 ^ k) :: beBytes k v

/-- One byte. -/
def byteOf (v : Nat) : Byte := BitVec.ofNat 8 v

/-- A yes-or-no field. -/
def boolByte (b : Bool) : Byte := if b then 1 else 0

/-- An optional field: its presence byte, then its value bytes when present. -/
def optBytes {α : Type} (f : α → List Byte) : Option α → List Byte
  | none => [0]
  | some a => 1 :: f a

/-- The index of a slot as a byte. -/
def idxByte (i : Idx) : Byte := byteOf i.val

/-- A port as its number 1..48. -/
def portByte (p : Port) : Byte := byteOf (p.val + 1)

/-- The class code. -/
def Cls.byte : Cls → Byte
  | .lifeline => 0
  | .standard => 1
  | .deferred => 2

/-- The record-state code. -/
def RState.byte : RState → Byte
  | .idle => 0
  | .waking => 1
  | .carrying => 2
  | .resting => 3
  | .waiting => 4
  | .fed => 5
  | .testing => 6
  | .lapsed => 7
  | .silent => 8
  | .faulted => 9

/-- The mode code. -/
def Mode.byte : Mode → Byte
  | .mains => 0
  | .outage => 1
  | .critical => 2
  | .depleted => 3

/-- The drive-level code. -/
def Drive.byte : Drive → Byte
  | .off => 0
  | .sense => 1
  | .ramp => 2
  | .feed => 3

/-- The presence code. -/
def Presence.byte : Presence → Byte
  | .unknown => 0
  | .present => 1
  | .absent => 2

/-- The code of a presence candidate. -/
def Reading.byte : Reading → Byte
  | .present => 1
  | .absent => 2

/-- The exchange-kind code. -/
def ExKind.byte : ExKind → Byte
  | .wake => 1
  | .query => 2
  | .rest => 3
  | .shed => 4

/-- The origin code. -/
def Origin.byte : Origin → Byte
  | .request => 0
  | .policy => 1
  | .appointment => 2
  | .test => 3

/-- The exchange-outcome code. -/
def ExOutcome.byte : ExOutcome → Byte
  | .ok => 0
  | .timeout => 1
  | .badReply => 2
  | .aborted => 3
  | .line => 4

/-- The exchange-phase code. -/
def ExPhase.byte : ExPhase → Byte
  | .sending => 0
  | .listening => 1
  | .guarding => 2

/-- The engine code. -/
def engineByte : Engine → Byte
  | .a => 0
  | .b => 1

/-- The test-phase code. -/
def TestPhase.byte : TestPhase → Byte
  | .q0 => 0
  | .window => 1
  | .q1 => 2

/-- The test-outcome code. -/
def TestOutcome.byte : TestOutcome → Byte
  | .graded => 0
  | .failed => 1
  | .abandoned => 2
  | .skipped => 3

/-- The appointment-kind code. -/
def ApptKind.byte : ApptKind → Byte
  | .wake => 1
  | .query => 2
  | .rest => 3
  | .test => 5
  | .apportion => 6

/-- The target code. -/
def Target.byte : Target → Byte
  | .record i => idxByte i
  | .all => 0xFE
  | .none => 0xFF

/-- The mark's code in STATE section 0. -/
def ApMark.byte : ApMark → Byte
  | .clear => 0
  | .set => 1
  | .awaited => 2

/-- The reply-status code. -/
def ReplyStatus.byte : ReplyStatus → Byte
  | .done => 0x00
  | .clamped => 0x01
  | .merged => 0x02
  | .none => 0x03
  | .badRequest => 0x10
  | .noRecord => 0x11
  | .tableFull => 0x12
  | .dupIdentity => 0x13
  | .portTaken => 0x14
  | .badPort => 0x15
  | .badState => 0x16
  | .scheduleFull => 0x17
  | .noAppointment => 0x18
  | .notSet => 0x19

/-- The countdown's mode and running byte (section 11.6): bit 0 repeat, bit 1 running. -/
def Countdown.modeByte (c : Countdown) : Byte := byteOf ((if c.repeats then 1 else 0) + (if c.running then 2 else 0))

/-! ### Bits on the SPI data output (R173) -/

/-- The bits of a byte, most significant first. -/
def msbFirst (b : Byte) : List Bool := (List.range 8).map fun k => b.getLsbD (7 - k)

/-- The bits of a run of bytes as they are shifted out. -/
def shiftBits (bs : List Byte) : List Bool := bs.flatMap msbFirst

/-! ### Characters of the riser link (R103 to R106) -/

/-- How many of the eight data bits are 1. -/
def onesOf (b : Byte) : Nat := ((List.range 8).filter fun k => b.getLsbD k).length

/-- The odd parity bit of a character (R103). -/
def oddParity (b : Byte) : Bool := onesOf b % 2 == 0

/-- The 11 bits of a character, true for mark: start, eight data bits least significant first, parity, stop (R103). -/
def charBits (b : Byte) : List Bool :=
  false :: ((List.range 8).map fun k => b.getLsbD k) ++ [oddParity b, true]

/-- The downstream character of an exchange kind (section 11.6). -/
def ExKind.linkChar : ExKind → Byte
  | .wake => 0xA1
  | .query => 0xA2
  | .rest => 0xA3
  | .shed => 0xA4

/-- The four characters of a downstream frame (R105): kind, tag, argument, check. -/
def downFrame (k : ExKind) (tag : Byte) (arg : Nat) : List Byte :=
  [k.linkChar, tag, byteOf arg, k.linkChar ^^^ tag ^^^ byteOf arg]

/-- The wake notch (R106): space for 30 bit times, then mark for 10. -/
def wakeNotch : List Bool := List.replicate 30 false ++ List.replicate 10 true

/-- All that an attempt puts on the pair, bit by bit (R105, R106). -/
def downBits (k : ExKind) (tag : Byte) (arg : Nat) : List Bool :=
  (if k = .wake then wakeNotch else []) ++ (downFrame k tag arg).flatMap charBits

/-- The line level of a bit at a drive level (R100): true for mark, false for the notch. -/
def lineForm : Drive → Bool → LineLevel
  | .off, _ => .nothing
  | .sense, true => .bias
  | .sense, false => .biasRemoved
  | .ramp, true => .reserve
  | .ramp, false => .dropped
  | .feed, true => .reserve
  | .feed, false => .dropped

/-- The pair current, in µA, that a comparator meets of what the terminal would draw: nothing in OFF, and at most the
cell's 10 mA limit in SENSE (R101, R110). -/
def pairCurrent (d : Drive) (v : Nat) : Nat :=
  match d with
  | .off => 0
  | .sense => min 10000 v
  | .ramp => v
  | .feed => v

/-- A bit judged by the majority of its samples 7, 8 and 9 (R104): true for mark. A sample is space at or above the
threshold (R101). -/
def judgeMark (d : Drive) (threshold : Nat) (s : BitSample) : Bool :=
  let space := fun v : Nat => decide (threshold ≤ pairCurrent d v)
  !((space s.s7 && space s.s8) || (space s.s7 && space s.s9) || (space s.s8 && space s.s9))

/-- What the receiver makes of one upstream character (R104). -/
inductive RxVerdict where
  | falseStart
  | framingError
  | parityError
  | received (v : Byte)
deriving DecidableEq, Repr

/-- The data value of a character, least significant bit first (R103, R104). -/
def rxValue (d : Drive) (threshold : Nat) (c : RxChar) : Byte :=
  let bit := fun (s : BitSample) (k : Nat) => if judgeMark d threshold s then BitVec.ofNat 8 (2 ^ k) else 0#8
  bit c.d0 0 ||| bit c.d1 1 ||| bit c.d2 2 ||| bit c.d3 3 ||| bit c.d4 4 ||| bit c.d5 5 ||| bit c.d6 6 ||| bit c.d7 7

/-- The judgement of one character: its start bit, then at its stop bit the framing and then the parity (R104). -/
def judgeChar (d : Drive) (threshold : Nat) (c : RxChar) : RxVerdict :=
  if judgeMark d threshold c.start then .falseStart
  else if !judgeMark d threshold c.stop then .framingError
  else if (onesOf (rxValue d threshold c) + (if judgeMark d threshold c.parity then 1 else 0)) % 2 = 0 then .parityError
  else .received (rxValue d threshold c)

/-- The character a REPORT begins with (section 11.6). -/
def reportKind : Byte := 0x5C

/-- The fields of a REPORT's soc and flags characters (R109, section 11.6). -/
def reportOf (soc flags : Byte) : Report where
  soc := min soc.toNat 100
  load := (flags.extractLsb' 1 2).toNat
  call := flags.getLsbD 0
  batteryFault := flags.getLsbD 3

end Sys2Proof.Machine
end

