-- ==== Sys2Proof/Machine/Flags.lean ====
section
/-! DEFINITION. Record flags, device flags, the attention set and the status byte (R25 to R27, R173, R180). -/

namespace Sys2Proof.Machine

open Sys2Proof

/-- The position of a record flag in the NEXT flags byte (section 11.6). -/
def RecFlag.bit : RecFlag → Nat
  | .presence => 0
  | .call => 1
  | .linkfail => 2
  | .trip => 3
  | .faulted => 4
  | .lapsed => 5
  | .tested => 6
  | .sent => 7

/-- The record's set holds the flag. -/
def Record.has (r : Record) (f : RecFlag) : Bool := r.flags.getLsbD f.bit

/-- Setting a flag (R25): a flag not in the set is added; one already there adds REPEAT. -/
def Record.raise (f : RecFlag) (r : Record) : Record :=
  if r.has f then { r with rep := true } else { r with flags := r.flags ||| BitVec.ofNat 8 (2 ^ f.bit) }

/-- Setting TESTED with an outcome (R26). -/
def Record.tested (o : TestOutcome) (r : Record) : Record := { r.raise .tested with testOutcome := some o }

/-- Setting SENT with the exchange's kind and outcome (R131). -/
def Record.sentWith (k : ExKind) (o : ExOutcome) (r : Record) : Record :=
  { r.raise .sent with lastOutcome := some (k, o) }

/-- No device flag is set. -/
def DevFlags.clear : DevFlags := ⟨false, false, false, false⟩

/-- Some device flag is set. -/
def DevFlags.any (d : DevFlags) : Bool := d.mode || d.poolEmpty || d.capshed || d.outagePending

/-- The device flags in the positions of the NEXT flags byte. -/
def DevFlags.byte (d : DevFlags) : Byte :=
  byteOf ((if d.mode then 1 else 0) + (if d.poolEmpty then 2 else 0) + (if d.capshed then 4 else 0)
    + (if d.outagePending then 8 else 0))

/-- The record is in the attention set (R27): it holds a flag that is not in the mask. REPEAT is not counted. -/
def Record.attention (mask : BitVec 8) (r : Record) : Bool := decide (r.flags &&& ~~~mask ≠ 0)

/-- The 64 slots in ascending order. -/
def allIdx : List Idx := List.finRange 64

/-- The 48 ports, P1 to P48. -/
def allPorts : List Port := List.finRange 48

/-- The record in a slot. -/
def State.rec? (s : State) (i : Idx) : Option Record := s.slots[i]

/-- The slot holds a record of the attention set. -/
def State.inAttention (s : State) (i : Idx) : Bool :=
  match s.rec? i with
  | some r => r.attention s.cfg.mask
  | none => false

/-- The lowest index of the attention set (R181). -/
def State.firstAttention (s : State) : Option Idx := allIdx.find? s.inAttention

/-- ATTN is asserted (R27, R180). While the part is held in reset it is released. -/
def State.attn (s : State) : Bool := !s.inReset && (s.dev.any || s.firstAttention.isSome)

/-- The status byte (R173, section 11.6): READY, BUSY, ATTN, REFUSED and the marker 0101. -/
def State.statusByte (s : State) : Byte :=
  byteOf ((if s.host.reply.isSome then 128 else 0) + (if s.host.busy then 64 else 0) + (if s.attn then 32 else 0)
    + (if s.host.refused then 16 else 0) + 5)

end Sys2Proof.Machine
end

