-- ==== Sys2Proof/Machine/Ops.lean ====
section
/-! DEFINITION. The named operations the meanings share: records and cells, countdowns, drive levels, exchanges and
engines, the admission queue and the feed list, allowances and the pool. -/

namespace Sys2Proof.Machine

open Sys2Proof

/-! ### Records and cells -/

/-- Puts a record, or no record, into a slot. -/
def setRec (i : Idx) (r : Option Record) (s : State) : State := { s with slots := s.slots.set i r }

/-- Changes the record of an occupied slot; a free slot stays free. -/
def updRec (i : Idx) (f : Record → Record) (s : State) : State :=
  match s.rec? i with
  | some r => setRec i (some (f r)) s
  | none => s

/-- Changes one port cell. -/
def updCell (p : Port) (f : Cell → Cell) (s : State) : State := { s with cells := s.cells.set p (f s.cells[p]) }

/-- The port a record is bound to. -/
def State.portOf (s : State) (i : Idx) : Option Port := (s.rec? i).bind (·.port)

/-- The state of the record in a slot. -/
def State.stOf (s : State) (i : Idx) : Option RState := (s.rec? i).map (·.st)

/-- The slot's record is in the state. -/
def State.isIn (s : State) (st : RState) (i : Idx) : Bool := decide (s.stOf i = some st)

/-- The slot's record is bound to the port. -/
def State.bindsPort (s : State) (p : Port) (i : Idx) : Bool := decide (s.portOf i = some p)

/-- The record bound to a port (R2: at most one). -/
def State.boundAt (s : State) (p : Port) : Option Idx := allIdx.find? (s.bindsPort p)

/-- The slot's record holds the identity. -/
def State.holdsIdentity (s : State) (v : Identity) (i : Idx) : Bool :=
  decide ((s.rec? i).map (·.identity) = some v)

/-- The record of an identity (R2: at most one). -/
def State.withIdentity (s : State) (v : Identity) : Option Idx := allIdx.find? (s.holdsIdentity v)

/-- The lowest free slot (R1). -/
def State.freeSlot (s : State) : Option Idx := allIdx.find? fun i => (s.rec? i).isNone

/-- The slot's record has the class. -/
def State.ofClass (s : State) (c : Cls) (i : Idx) : Bool := decide ((s.rec? i).map (·.cls) = some c)

/-- The occupied slots in class order, each class by ascending index (R39, R80). -/
def State.classOrder (s : State) : List Idx :=
  allIdx.filter (s.ofClass .lifeline) ++ allIdx.filter (s.ofClass .standard) ++ allIdx.filter (s.ofClass .deferred)

/-- The slot's record is LIFELINE. -/
def State.lifeline (s : State) (i : Idx) : Bool := s.ofClass .lifeline i

/-- The policy row of a class (R134). -/
def Settings.policy (g : Settings) : Cls → Policy
  | .lifeline => g.lifeline
  | .standard => g.standard
  | .deferred => g.deferred

/-- Sets a record flag on a slot's record (R25). -/
def raiseFlag (i : Idx) (f : RecFlag) (s : State) : State := updRec i (Record.raise f) s

/-- Sets TESTED with an outcome on a slot's record (R26). -/
def setTested (i : Idx) (o : TestOutcome) (s : State) : State := updRec i (Record.tested o) s

/-! ### What one event's work calls for (R88, R122) -/

/-- The event calls for an admission decision (R88). -/
def callDecision (s : State) : State := { s with agenda := { s.agenda with decision := true } }

/-- The event calls for a pick (R122). -/
def callPick (s : State) : State := { s with agenda := { s.agenda with pick := true } }

/-- Makes an event due, behind those already due. -/
def makeDue (ev : Event) (s : State) : State := { s with agenda := { s.agenda with due := s.agenda.due ++ [ev] } }

/-- Takes an event off the agenda. -/
def dropDue (ev : Event) (s : State) : State :=
  { s with agenda := { s.agenda with due := s.agenda.due.filter (· ≠ ev) } }

/-- The event is due. -/
def State.isDue (s : State) (ev : Event) : Bool := s.agenda.due.contains ev

/-! ### The countdown (R9, R10) -/

/-- Stop: remaining count 0, stopped; the reload value is kept. -/
def Countdown.stop (c : Countdown) : Countdown := { c with remaining := 0, running := false }

/-- Load: a figure and a mode, running. A figure of 0 is a stopped load, in the mode of its row (R9). -/
def Countdown.load (c : Countdown) (n : Nat) (repeats : Bool) : Countdown :=
  if n = 0 then { c.stop with repeats := repeats } else ⟨n, n, repeats, true⟩

/-- Reload: remaining count from the reload value, running in its mode. A figure of 0 stops it. -/
def Countdown.again (c : Countdown) : Countdown :=
  if c.reload = 0 then c.stop else { c with remaining := c.reload, running := true }

/-- The load of a state entry, from the class row at the entry (R9). `byTrip` marks a WAITING entry caused by a trip. A
row that R9 gives a mode sets it even where the load is a stopped one; a row whose mode is a dash keeps the mode (log
entry 16). -/
def Countdown.forEntry (c : Countdown) (mode : Mode) (row : Policy) (byTrip : Bool) : RState → Countdown
  | .carrying => c.load (row.queryInterval * 10) true
  | .fed => c.load (row.queryInterval * 10) true
  | .resting => c.load (row.wakePeriod * 10) false
  | .silent => c.load (if mode = .depleted then 0 else row.wakePeriod * 10) false
  | .waiting => if byTrip then c.load 50 false else c.stop
  | .testing => c.load 0 false
  | .idle => c.stop
  | .waking => c.stop
  | .lapsed => c.stop
  | .faulted => c.stop

/-- Loads or stops a record's countdown; an expiry of the old figure is no longer due (R11). -/
def setCountdown (i : Idx) (f : Countdown → Countdown) (s : State) : State :=
  dropDue (.expiry i) (updRec i (fun r => { r with cd := f r.cd }) s)

/-- The member is cooling (R11): WAITING with its countdown running. A countdown that this tick has brought to 0 still
counts as running until its expiry is taken (R93). -/
def State.cooling (s : State) (i : Idx) : Bool :=
  match s.rec? i with
  | some r => decide (r.st = .waiting) && (r.cd.running || s.isDue (.expiry i))
  | none => false

/-! ### Drive levels of a cell (R47, R49) -/

/-- The call detector cleared (R60). -/
def Cell.clearCall (c : Cell) : Cell := { c with callBase := none, callRun := 0, callHeld := false }

/-- Any level to OFF (R47). The fault count is kept. -/
def Cell.toOff (c : Cell) : Cell :=
  { c with drive := .off, trip := none, rampCount := 0, presence := .unknown, stamp := none, cand := none,
           presRun := 0, feedRun := 0, overRun := 0, callBase := none, callRun := 0, callHeld := false }

/-- To SENSE: from OFF presence starts from UNKNOWN; from RAMP or FEED presence, candidate and run are kept (R47). -/
def Cell.toSense (c : Cell) : Cell :=
  match c.drive with
  | .off =>
    { c.clearCall with drive := .sense, presence := .unknown, stamp := none, cand := none, presRun := 0 }
  | _ => { c.clearCall with drive := .sense, trip := none, rampCount := 0, feedRun := 0, overRun := 0 }

/-- To RAMP (R47, R49): the trip level is armed at 3 × admitted, the RAMP count is 2, the call detector is cleared. -/
def Cell.toRamp (admitted : Nat) (c : Cell) : Cell :=
  { c.clearCall with drive := .ramp, trip := some (3 * admitted), rampCount := 2 }

/-- RAMP to FEED (R47, R49): the trip level falls to floor(admitted × 3 / 2); both runs start from 0. -/
def Cell.toFeed (admitted : Nat) (c : Cell) : Cell :=
  { c with drive := .feed, trip := some (admitted * 3 / 2), rampCount := 0, feedRun := 0, overRun := 0 }

/-- A change of level (R47). A level to itself changes nothing; RAMP is reached through SENSE. -/
def Cell.toLevel (admitted : Nat) (lvl : Drive) (c : Cell) : Cell :=
  if c.drive = lvl then c
  else
    match lvl with
    | .off => c.toOff
    | .sense => c.toSense
    | .ramp => if c.drive = .sense then c.toRamp admitted else c.toSense.toRamp admitted
    | .feed => c.toFeed admitted

/-- The drive a record's state orders (R6). -/
def driveFor (mode : Mode) : RState → Drive
  | .idle => .off
  | .waking => .sense
  | .carrying => .sense
  | .resting => .sense
  | .waiting => .sense
  | .fed => .ramp
  | .testing => .sense
  | .lapsed => .sense
  | .silent => if mode = .depleted then .off else .sense
  | .faulted => .off

/-! ### Engines (R121) -/

/-- What an engine holds. -/
def State.engine (s : State) : Engine → Option Engagement
  | .a => s.link.engA
  | .b => s.link.engB

/-- Sets what an engine holds. -/
def setEngine (e : Engine) (g : Option Engagement) (s : State) : State :=
  match e with
  | .a => { s with link := { s.link with engA := g } }
  | .b => { s with link := { s.link with engB := g } }

/-- Changes what an engaged engine holds. -/
def updEngine (e : Engine) (f : Engagement → Engagement) (s : State) : State :=
  match s.engine e with
  | some g => setEngine e (some (f g)) s
  | none => s

/-- The engine carries an exchange of the record. -/
def State.carries (s : State) (i : Idx) (e : Engine) : Bool :=
  match s.engine e with
  | some g => decide (g.idx = i)
  | none => false

/-- The engine that carries a record's in-flight exchange. -/
def State.inFlight (s : State) (i : Idx) : Option Engine := [Engine.a, Engine.b].find? (s.carries i)

/-- The engine is engaged on the port. -/
def State.engagedOn (s : State) (p : Port) (e : Engine) : Bool :=
  match s.engine e with
  | some g => decide (g.port = some p)
  | none => false

/-- The engine engaged on a port (R46: at most one). -/
def State.engineOn (s : State) (p : Port) : Option Engine := [Engine.a, Engine.b].find? (s.engagedOn p)

/-- Half the upstream step, in µA, above the baseline (R101). -/
def upstreamStep : Drive → Nat
  | .off => 2000
  | .sense => 2000
  | .ramp => 15000
  | .feed => 15000

/-- The drive level on an engagement's port. -/
def State.driveOn (s : State) (p : Option Port) : Drive :=
  match p with
  | some p => s.cells[p].drive
  | none => .off

/-- The engine takes its baseline anew, and its threshold for the port's present level (R101). The reading is a free
value, within the cell's limit. -/
def takeBaseline (e : Engine) (s : State) : State :=
  match s.engine e with
  | some g =>
    let base := pairCurrent (s.driveOn g.port) (Config.pairReading s.link.readings)
    let s := setEngine e (some { g with baseline := base, threshold := base + upstreamStep (s.driveOn g.port) }) s
    { s with link := { s.link with readings := s.link.readings + 1 } }
  | none => s

/-- The attempt's own fields as an attempt begins them: nothing sent, nothing received. -/
def Engagement.fresh (g : Engagement) : Engagement := { g with sent := [], rx := [], midChar := false, ranOut := false }

/-- The levels an engine has put on its pair. -/
def State.lineOf (s : State) : Engine → List LineLevel
  | .a => s.link.lineA
  | .b => s.link.lineB

/-- Sets the levels an engine has put on its pair. -/
def setLine (e : Engine) (l : List LineLevel) (s : State) : State :=
  match e with
  | .a => { s with link := { s.link with lineA := l } }
  | .b => { s with link := { s.link with lineB := l } }

/-- The bits of the attempt that have not gone out, in the form of a drive level (R100, R105, R106). -/
def Engagement.bitsLeft (d : Drive) (g : Engagement) : List LineLevel :=
  ((downBits g.ex.kind g.tag g.ex.arg).drop g.sent.length).map (lineForm d)

/-- A sending engine's bits up to this moment have gone out in the form of the port's present level; how many those are
is a free value (R113, R115). -/
def sendPart (e : Engine) (s : State) : State :=
  match s.engine e with
  | some g =>
    let d := s.driveOn g.port
    if g.phase = .sending ∧ d ≠ .off then
      let left := g.bitsLeft d
      let n := Config.bitsOut s.link.readings % (left.length + 1)
      let s := setEngine e (some { g with sent := g.sent ++ left.take n }) s
      { s with link := { s.link with readings := s.link.readings + 1 } }
    else s
  | none => s

/-- The engine on a port, before the port's level changes (R113). -/
def sendPartOn (p : Port) (s : State) : State :=
  match s.engineOn p with
  | some e => sendPart e s
  | none => s

/-- An engine that stops sending leaves its bits up to the cut (R115). The cell restores mark at once, since
`State.lineLevel` is mark from then on: the engine is freed, and no engine sends on the port. -/
def cutLine (e : Engine) (s : State) : State :=
  let s := sendPart e s
  match s.engine e with
  | some g => if g.phase = .sending then setLine e g.sent s else s
  | none => s

/-- The attempt in progress ends TIMEOUT or BADREPLY (R123): attempts at or below the copied limit enter GUARD, and
otherwise the exchange ends with that outcome and its completion is due. -/
def failAttempt (e : Engine) (o : ExOutcome) (s : State) : State :=
  match s.engine e with
  | some g =>
    if g.attempts ≤ g.retryLimit then
      setEngine e (some { g.fresh with phase := .guarding }) s
    else makeDue (.complete e) (setEngine e (some { g with midChar := false, outcome := some (o, none) }) s)
  | none => s

/-- The attempt in progress ends OK with its REPORT; the completion is due (R123, R124). -/
def succeedAttempt (e : Engine) (r : Report) (s : State) : State :=
  match s.engine e with
  | some g => makeDue (.complete e) (setEngine e (some { g with midChar := false, outcome := some (.ok, some r) }) s)
  | none => s

/-- What a change of drive level does to the exchange on the port (R113): the baseline is taken anew, and a character
in progress is lost, so that the attempt ends BADREPLY. A change to OFF ends the exchange by its own rule. -/
def linkAtLevelChange (p : Port) (lvl : Drive) (s : State) : State :=
  if lvl = .off then s
  else
    match s.engineOn p with
    | none => s
    | some e =>
      let mid := (s.engine e).any fun g => g.midChar && decide (g.phase = .listening)
      let s := takeBaseline e s
      if mid then failAttempt e .badReply s else s

/-- Orders a cell to a drive level, for the record bound to it (R6, R47). A sending engine's bits from the change on go
out in the new level's form (R113). -/
def orderLevel (p : Port) (admitted : Nat) (lvl : Drive) (s : State) : State :=
  if s.cells[p].drive = lvl then s
  else linkAtLevelChange p lvl (updCell p (Cell.toLevel admitted lvl) (sendPartOn p s))

/-! ### Exchanges (R117 to R125) -/

/-- The merge rule drops the arriving exchange (R119). -/
def mergeDrops (held : Option Exchange) (x : Exchange) : Bool :=
  match held with
  | none => false
  | some y =>
    (decide (y.kind = .wake) && decide (x.kind = .query) && decide (x.origin ≠ .test)) ||
    (decide (y.kind = x.kind) && decide (y.arg = x.arg) && decide (x.origin ≠ .test))

/-- An exchange is asked for a record and placed by the merge rule (R118, R119). -/
def ask (i : Idx) (x : Exchange) (s : State) : State :=
  match s.rec? i with
  | none => s
  | some r =>
    if mergeDrops r.pend x then s
    else
      let s := setRec i (some { r with pend := some x }) s
      if r.pend.isNone then callPick { s with link := { s.link with queue := s.link.queue ++ [i] } } else s

/-- A record's pending exchange is dropped and the record leaves the exchange queue (R120). -/
def dropPending (i : Idx) (s : State) : State :=
  let s := updRec i (fun r => { r with pend := none }) s
  { s with link := { s.link with queue := s.link.queue.filter (· ≠ i) } }

/-- The call detector of an engagement's port starts again as on entering SENSE (R60, R124). -/
def restartCall (p : Option Port) (s : State) : State :=
  match p with
  | some p => updCell p Cell.clearCall s
  | none => s

/-- The engine is freed (R124, R125): its slot is empty, a completion of it is no longer due, and a pick is called
for. -/
def freeEngine (e : Engine) (s : State) : State :=
  match s.engine e with
  | none => s
  | some g => callPick (restartCall g.port (dropDue (.complete e) (setEngine e none s)))

/-- SENT and the last outcome, for an exchange of origin REQUEST (R131). -/
def noteSent (i : Idx) (x : Exchange) (o : ExOutcome) (s : State) : State :=
  if x.origin = .request then updRec i (Record.sentWith x.kind o) s else s

/-- The exchange an engine carries is aborted (R125), and its sending is cut (R115). -/
def abortEngine (o : ExOutcome) (e : Engine) (s : State) : State :=
  match s.engine e with
  | none => s
  | some g => noteSent g.idx g.ex o (freeEngine e (cutLine e s))

/-- A record's in-flight exchange is aborted (R125). -/
def abortInFlight (o : ExOutcome) (i : Idx) (s : State) : State :=
  match s.inFlight i with
  | none => s
  | some e => abortEngine o e s

/-- The reply window, in ms, that an engine copies (R98, R111). -/
def windowFor (g : Settings) : ExKind → Nat
  | .wake => g.wakeWindow * 1000
  | .query => if g.windowCode = 0 then 50 else if g.windowCode = 1 then 100 else if g.windowCode = 2 then 200 else 500
  | .rest => if g.windowCode = 0 then 50 else if g.windowCode = 1 then 100 else if g.windowCode = 2 then 200 else 500
  | .shed => if g.windowCode = 0 then 50 else if g.windowCode = 1 then 100 else if g.windowCode = 2 then 200 else 500

/-- An engine takes a record's pending exchange (R122) and begins its first attempt. -/
def engage (e : Engine) (i : Idx) (s : State) : State :=
  match s.rec? i with
  | none => s
  | some r =>
    match r.pend with
    | none => s
    | some x =>
      let s := restartCall r.port (dropPending i s)
      takeBaseline e (setEngine e (some {
        idx := i, port := r.port, ex := x, attempts := 1, phase := .sending, reloadN := s.cfg.reloadN,
        windowMs := windowFor s.cfg x.kind, retryLimit := s.cfg.retryLimit, tag := r.identity.setWidth 8,
        baseline := 0, threshold := 0, sent := [], rx := [], midChar := false, ranOut := false, outcome := none }) s)

/-! ### An exchange that two events of one tick ask for (R146, R162) -/

/-- The appointment has expired (R156): the clock less the due time, modulo 2^32, is below 2^31. -/
def Appointment.expired (now : Stamp) (a : Appointment) : Bool := decide ((now - a.due).toNat < 2147483648)

/-- The records an action is taken for (R159): every bound record in ascending index order, or the one named. -/
def State.targets (s : State) : Target → List Idx
  | .all => allIdx.filter fun i => (s.portOf i).isSome
  | .record i => [i]
  | .none => []

/-- The kind of the exchange that an expiry in CARRYING or FED asks for (R144): in CRITICAL a REST for a non-LIFELINE
record in CARRYING, and otherwise a QUERY. -/
def State.intervalKind (s : State) (i : Idx) : ExKind :=
  if s.supply.mode = .critical ∧ s.lifeline i = false ∧ s.isIn .carrying i = true then .rest else .query

/-- An expired QUERY appointment reaches the slot's record (R158, R159). -/
def State.queryBooked (s : State) (i : Idx) : Bool :=
  decide (s.supply.mode = .outage ∨ s.supply.mode = .critical) &&
    (s.schedule.takeWhile (Appointment.expired s.clock)).any fun a =>
      decide (a.kind = .query) && (s.targets a.target).contains i

/-- Another event of the tick is due that asks for the exchange which the CARRYING or FED record holds pending: the expiry
behind CRITICAL entry's REST (R146) or behind an appointment's QUERY, and the appointment behind an expiry's QUERY (R162).
R146 and R162 have that event meet the exchange pending, so that the pick leaves the record for the next one, as R133
gives for a pick taken first (log entry 22). -/
def State.held (s : State) (i : Idx) : Bool :=
  (s.isIn .carrying i || s.isIn .fed i) &&
    ((s.rec? i).bind (·.pend)).any fun x => decide (x.arg = 0) &&
      (s.isDue (.expiry i) &&
          decide (x.kind = s.intervalKind i ∧ x.origin = (if x.kind = .rest then .policy else .appointment)) ||
        s.isDue .appointments && decide (x.kind = .query ∧ x.origin = .policy) && s.queryBooked i)

/-- A record of the queue that an engine may take: it has no exchange in flight (R122), and no event of the tick is due
that is to meet its exchange pending. -/
def State.eligible (s : State) (i : Idx) : Bool :=
  (s.inFlight i).isNone && ((s.rec? i).bind (·.pend)).isSome && !s.held i

/-- A free engine takes the eligible record nearest the head of the queue (R122). -/
def pickFor (e : Engine) (s : State) : State :=
  match s.engine e with
  | some _ => s
  | none =>
    match s.link.queue.find? s.eligible with
    | some i => engage e i s
    | none => s

/-- The pick (R122): engine A first, then engine B from what A left. -/
def pickBoth (s : State) : State := pickFor .b (pickFor .a s)

/-! ### The admission queue and the feed list (R84 to R95) -/

/-- The rank of a class in class order. -/
def Cls.rank : Cls → Nat
  | .lifeline => 0
  | .standard => 1
  | .deferred => 2

/-- The class rank of a slot's record. -/
def State.rankOf (s : State) (i : Idx) : Nat :=
  match s.rec? i with
  | some r => r.cls.rank
  | none => 3

/-- A member joins the admission queue at the tail of its class group (R86). -/
def joinTail (i : Idx) (s : State) : State :=
  let q := s.arbiter.queue
  let ahead := fun j : Idx => decide (s.rankOf j ≤ s.rankOf i)
  callDecision { s with arbiter := { s.arbiter with queue := q.takeWhile ahead ++ i :: q.dropWhile ahead } }

/-- A member joins the admission queue at the head of its class group (R95). -/
def joinHead (i : Idx) (s : State) : State :=
  let q := s.arbiter.queue
  let ahead := fun j : Idx => decide (s.rankOf j < s.rankOf i)
  callDecision { s with arbiter := { s.arbiter with queue := q.takeWhile ahead ++ i :: q.dropWhile ahead } }

/-- A member leaves the admission queue other than by admission (R87). -/
def leaveQueue (i : Idx) (s : State) : State :=
  callDecision { s with arbiter := { s.arbiter with queue := s.arbiter.queue.filter (· ≠ i) } }

/-- Feed is released (R92): the record leaves the feed list, and admitted becomes absent. The budget falls with it. -/
def releaseFeed (i : Idx) (s : State) : State :=
  let s := updRec i (fun r => { r with admitted := none }) s
  callDecision { s with arbiter := { s.arbiter with feedList := s.arbiter.feedList.filter (· ≠ i) } }

/-- The admitted current of a slot's record, 0 where it is absent. -/
def State.admittedOf (s : State) (i : Idx) : Nat :=
  match s.rec? i with
  | some r => r.admitted.getD 0
  | none => 0

/-- The budget (R84): the sum of the admitted currents of the records on the feed list. -/
def State.budget (s : State) : Nat := (s.arbiter.feedList.map s.admittedOf).sum

/-! ### State entries (R7) -/

/-- A record enters a state (R7): the stamp, the countdown load of R9, the drive order of R6. A record already in the
state makes no entry. TESTING creates its context and every other state discards one (R5); a FAULTED entry drops the
pending exchange (R120). -/
def enterState (byTrip : Bool) (st : RState) (i : Idx) (s : State) : State :=
  match s.rec? i with
  | none => s
  | some r =>
    if r.st = st then s
    else
      let r' := { r with
        st := st
        entered := s.clock
        cd := r.cd.forEntry s.supply.mode (s.cfg.policy r.cls) byTrip st
        test := if st = .testing then some ⟨.q0, none, false⟩ else none }
      let s := dropDue (.expiry i) (setRec i (some r') s)
      let s := if st = .faulted then dropPending i s else s
      match r.port with
      | none => s
      | some p => orderLevel p (r.admitted.getD 0) (driveFor s.supply.mode st) s

/-- A state entry by any cause but a trip. -/
def enter (st : RState) (i : Idx) (s : State) : State := enterState false st i s

/-- A record gives up what its state holds of the arbiter's: feed if FED, membership of the queue if WAITING. -/
def leaveService (i : Idx) (s : State) : State :=
  match s.stOf i with
  | some .fed => releaseFeed i s
  | some .waiting => leaveQueue i s
  | _ => s

/-! ### Allowances and the pool (R67 to R73) -/

/-- What a grant of `amount` moves (R72): the least of the amount, the pool and the record's room. -/
def grantMoves (r : Record) (pool amount : Nat) : Nat :=
  match r.cap with
  | some c => min (min amount pool) (c - r.allowance)
  | none => min amount pool

/-- A LAPSED record whose allowance is above 0 leaves LAPSED (R71). -/
def leaveLapsed (i : Idx) (s : State) : State :=
  match s.rec? i with
  | none => s
  | some r =>
    if r.st = .lapsed ∧ 0 < r.allowance then
      match s.supply.mode with
      | .outage => joinTail i (enter .waiting i s)
      | .critical => if r.cls = .lifeline then joinTail i (enter .waiting i s) else enter .carrying i s
      | .mains => s
      | .depleted => s
    else s

/-- Steps 2 to 4 of a grant (R72), for an occupied slot. -/
def grantTo (i : Idx) (amount : Nat) (s : State) : State :=
  match s.rec? i with
  | none => s
  | some r =>
    let moved := grantMoves r s.meter.pool amount
    let s := { s with meter := { s.meter with pool := s.meter.pool - moved } }
    leaveLapsed i (updRec i (fun r => { r with allowance := r.allowance + moved }) s)

/-- The automatic top-up of a LAPSED entry (R73). -/
def topUp (i : Idx) (s : State) : State :=
  match s.rec? i with
  | none => s
  | some r =>
    let amount := (s.cfg.policy r.cls).topUp
    if amount = 0 then s
    else if s.meter.pool = 0 then { s with dev := { s.dev with poolEmpty := true } }
    else grantTo i amount s

/-- A record lapses (R68, R80, R18, R139): it gives up feed or its place in the queue, enters LAPSED, sets LAPSED, and
its class top-up is applied. -/
def lapse (i : Idx) (s : State) : State :=
  topUp i (raiseFlag i .lapsed (enter .lapsed i (leaveService i s)))

/-- A record that wants feed (R139, R169, R170): WAITING at the tail of its class group with an allowance above 0,
LAPSED otherwise. -/
def wantFeed (i : Idx) (s : State) : State :=
  match s.rec? i with
  | none => s
  | some r => if 0 < r.allowance then joinTail i (enter .waiting i s) else lapse i s

/-! ### Tests (R165, R170) -/

/-- The test is abandoned with TESTED (R41, R43, R45, R58, R20, R129). The context goes with the next state entry. -/
def abandonTest (i : Idx) (s : State) : State :=
  match s.stOf i with
  | some .testing => setTested i .abandoned s
  | _ => s

/-- A record enters a test (R165). -/
def enterTest (i : Idx) (s : State) : State :=
  ask i ⟨.query, 0, .test⟩ (enter .testing i (leaveService i s))

/-- The record is eligible for a test (R164). -/
def State.testEligible (s : State) (i : Idx) : Bool :=
  match s.rec? i with
  | none => false
  | some r =>
    match r.port with
    | none => false
    | some p =>
      decide (r.st = .fed ∨ r.st = .carrying) && decide (s.cells[p].presence = .present) && !r.call
        && decide (s.supply.mode = .outage)

/-- A test is abandoned for a call (R170). -/
def abandonForCall (i : Idx) (s : State) : State :=
  let s := setTested i .abandoned s
  let s :=
    match (s.rec? i).bind (·.pend) with
    | some x => if x.origin = .test ∧ x.kind = .query then dropPending i s else s
    | none => s
  wantFeed i s

/-! ### Admission (R88 to R91) -/

/-- A member is admitted (R90, R91). -/
def admitMember (i : Idx) (s : State) : State :=
  match s.rec? i with
  | none => s
  | some r =>
    let s := { s with arbiter := ⟨s.arbiter.feedList ++ [i], s.arbiter.queue.filter (· ≠ i)⟩ }
    let s := enter .fed i (updRec i (fun r => { r with admitted := some r.ceiling }) s)
    let level := (s.cfg.policy r.cls).shedLevel
    if level = 0 then s else ask i ⟨.shed, level, .policy⟩ s

/-- The ceiling of a slot's record. -/
def State.ceilingOf (s : State) (i : Idx) : Nat :=
  match s.rec? i with
  | some r => r.ceiling
  | none => 0

/-- The candidate of a decision (R89): the first member in queue order that is not cooling. -/
def State.candidate (s : State) : Option Idx := s.arbiter.queue.find? fun i => !s.cooling i

/-- The decision goes on from candidate to candidate until one does not fit (R89); `n` bounds the members it can
admit. -/
def decideLoop : Nat → State → State
  | 0, s => s
  | n + 1, s =>
    match s.candidate with
    | none => s
    | some i => if s.ceilingOf i + s.budget ≤ s.cfg.busCap then decideLoop n (admitMember i s) else s

/-- The admission decision (R88, R89). In MAINS and DEPLETED it admits none. -/
def decideAdmission (s : State) : State :=
  if s.supply.mode = .mains ∨ s.supply.mode = .depleted then s else decideLoop s.arbiter.queue.length s

/-! ### One event -/

/-- The notes of an event's work cleared. -/
def clearNotes (s : State) : State := { s with agenda := { s.agenda with decision := false, pick := false } }

/-- The pick that a record was left for: it was held in `s` and is held no longer in `t`. -/
def releasesPick (s t : State) : Bool := allIdx.any fun i => s.held i && !t.held i

/-- The end of an event that began in `s` (R88, R122): the decision it called for, then the pick it or the decision called
for, or a record was left for. -/
def finishEvent (s t : State) : State :=
  let t := if t.agenda.decision then decideAdmission t else t
  let t := if t.agenda.pick || releasesPick s t then pickBoth t else t
  clearNotes t

/-- One event: its work, then its one admission decision and its one pick (R88, R122). -/
def event (f : State → State) (s : State) : State := finishEvent s (f (clearNotes s))

end Sys2Proof.Machine
end

