-- ==== Sys2Proof/Machine/Cells.lean ====
section
/-! DEFINITION. The port cells: the work of one tick's sample (R46, R49, R54 to R57, R60, R61, R63) and the events it can
make due, and the trip (R50 to R53). -/

namespace Sys2Proof.Machine

open Sys2Proof

/-! ### The sample -/

/-- The presence reading of a sample (R55), by the level the pair is at: the bias comparator under the bias, the scan
sample under the reserve voltage, none in OFF and none in a downstream space. -/
def readingOf (level : LineLevel) (bias : Bool) (c : Nat) : Option Reading :=
  match level with
  | .nothing => none
  | .bias => some (if bias then .present else .absent)
  | .biasRemoved => none
  | .reserve => some (if 2 ≤ c then .present else .absent)
  | .dropped => none

/-- The reading equals the present value (R57). UNKNOWN never equals a reading. -/
def Presence.agrees : Presence → Reading → Bool
  | .present, .present => true
  | .absent, .absent => true
  | .present, .absent => false
  | .absent, .present => false
  | .unknown, _ => false

/-- The debounce of one reading (R57). A run that reaches 3 stands until the settle is taken. -/
def presenceStep (r : Reading) (c : Cell) : Cell :=
  if c.presence.agrees r then { c with cand := none, presRun := 0 }
  else if c.cand = some r then { c with presRun := min 3 (c.presRun + 1) }
  else { c with cand := some r, presRun := 1 }

/-- The call detector at one sample of SENSE (R60, R61). The raised sample that brings the run to 2 is the call: the run
is set to 0 and the call is held. -/
def callStep (engaged : Bool) (v : Nat) (c : Cell) : Cell :=
  if engaged then c.clearCall
  else
    match c.callBase with
    | none => { c with callBase := some v }
    | some base =>
      if base + 4 ≤ v then
        if c.callHeld then c
        else if 1 ≤ c.callRun then { c with callRun := 0, callHeld := true }
        else { c with callRun := 1 }
      else { c with callBase := some v, callRun := 0, callHeld := false }

/-- The over-ceiling run at one sample of FEED (R63). -/
def overStep (admitted v : Nat) (c : Cell) : Cell :=
  if admitted < v then { c with overRun := min 3 (c.overRun + 1) } else { c with overRun := 0 }

/-- An engine is sending on the port (R100, R110). -/
def State.sendsOn (s : State) (p : Port) : Bool :=
  ((s.engineOn p).bind s.engine).any fun g => decide (g.phase = .sending)

/-- The engine on the port is sending as the tick's scan begins, and its sample falls in a downstream space (R55, R65). -/
def State.spaceOn (s : State) (scan : Scan) (p : Port) : Bool :=
  s.sendsOn p &&
    (match s.engineOn p with
     | none => false
     | some .a => scan.spaceA
     | some .b => scan.spaceB)

/-- The level of a port's pair (R100), in the form of its drive: space while an engine sends on the port and the moment
falls in a space of its frame (`space`), and mark at every other moment, in LISTENING and GUARD and with no engine on the
port. -/
def State.lineLevel (s : State) (p : Port) (space : Bool) : LineLevel :=
  lineForm s.cells[p].drive (!(s.sendsOn p && space))

/-- The level of a port's pair that its sample reads (R55): the conversion's, in the form of the drive that the sample's
event finds (log entry 21). -/
def State.sampleLevel (s : State) (p : Port) : LineLevel := lineForm s.cells[p].drive (!s.tick.spaces.contains p)

/-- The counts of one sample, in the order of R46: presence, call detector, over-ceiling run, RAMP count, FEED run. A
sample is judged in the drive level, and with the engagement, that its event finds (log entry 21). -/
def sampledCell (drive : Drive) (reading : Option Reading) (engaged : Bool) (admitted v : Nat) (c : Cell) : Cell :=
  let c := match reading with
    | some r => presenceStep r c
    | none => c
  match drive with
  | .off => c
  | .sense => callStep engaged v c
  | .ramp => { c with rampCount := c.rampCount - 1 }
  | .feed => { overStep admitted v c with feedRun := min 600 (c.feedRun + 1) }

/-- The cell after the counts of its sample: the code is the last scan current, the bias comparator's reading is the
scan's. An unbound cell's detectors act on nothing (R47). -/
def State.sampled (s : State) (p : Port) : Cell :=
  match s.boundAt p with
  | none => s.cells[p]
  | some i =>
    let c := s.cells[p]
    sampledCell c.drive (readingOf (s.sampleLevel p) s.tick.bias[p] c.lastScan) (s.engineOn p).isSome (s.admittedOf i)
      c.lastScan c

/-- The sample recognises a call (R61): the raised sample that brings the run to 2. -/
def State.recognises (s : State) (p : Port) : Bool := !s.cells[p].callHeld && (s.sampled p).callHeld

/-! ### The works of a sample -/

/-- A presence loss on a record (R58). -/
def presenceLoss (i : Idx) (s : State) : State :=
  let s := raiseFlag i .presence s
  match s.stOf i with
  | some .waking => lost s
  | some .carrying => lost s
  | some .resting => lost s
  | some .waiting => lost s
  | some .fed => lost s
  | some .testing => lost s
  | _ => s
where
  /-- The further effects, in order, and the SILENT entry. -/
  lost (s : State) : State :=
    enter .silent i (abandonTest i (leaveService i (dropPending i (abortInFlight .line i s))))

/-- Last seen takes the clock value. -/
def seenNow (i : Idx) (s : State) : State := updRec i (fun r => { r with lastSeen := some s.clock }) s

/-- A presence gain on a record (R57, R59). -/
def presenceGain (i : Idx) (s : State) : State :=
  let s := seenNow i (raiseFlag i .presence s)
  if s.isIn .silent i && !(decide (s.supply.mode = .critical) && !s.lifeline i) then
    enter .waking i (ask i ⟨.wake, 0, .policy⟩ s)
  else s

/-- What a settle from one presence value to a reading does to the record (R57). -/
def settleEffect (before : Presence) (r : Reading) (i : Idx) (s : State) : State :=
  match before, r with
  | .present, .absent => presenceLoss i s
  | .unknown, .absent => presenceLoss i s
  | .absent, .present => presenceGain i s
  | .unknown, .present => seenNow i s
  | .present, .present => s
  | .absent, .absent => s

/-- The presence value of a reading. -/
def Reading.settled : Reading → Presence
  | .present => .present
  | .absent => .absent

/-- A presence run of 3 settles (R57). -/
def settleWork (p : Port) (s : State) : State :=
  let c := s.cells[p]
  match c.cand with
  | none => s
  | some r =>
    if c.presRun = 3 then
      let now := s.clock
      let s := updCell p (fun c => { c with presence := r.settled, stamp := some now, cand := none, presRun := 0 }) s
      match s.boundAt p with
      | some i => settleEffect c.presence r i s
      | none => s
    else s

/-- The record's test is in phase WINDOW. -/
def State.testInWindow (s : State) (i : Idx) : Bool :=
  match (s.rec? i).bind (·.test) with
  | some t => decide (t.phase = .window)
  | none => false

/-- What a recognised call does to the record (R62). -/
def callEffect (i : Idx) (s : State) : State :=
  let s := raiseFlag i .call s
  match s.stOf i with
  | some .resting => ask i ⟨.query, 0, .policy⟩ (enter .carrying i s)
  | some .carrying => ask i ⟨.query, 0, .policy⟩ s
  | some .waiting => ask i ⟨.query, 0, .policy⟩ s
  | some .lapsed => ask i ⟨.query, 0, .policy⟩ s
  | some .silent => ask i ⟨.wake, 0, .policy⟩ (enter .waking i s)
  | some .testing => if s.testInWindow i then abandonForCall i s else s
  | _ => s

/-- A recognised call acts on the bound record (R62). -/
def callWork (p : Port) (s : State) : State :=
  match s.boundAt p with
  | none => s
  | some i => callEffect i s

/-- The level of an over-ceiling SHED (R63): one above the greater of the load level and the class shed level, at most
3. -/
def overShedLevel (load : Option Nat) (shed : Nat) : Nat := min 3 (max (load.getD 0) shed + 1)

/-- An over-ceiling run of 3 (R63). -/
def overWork (p : Port) (s : State) : State :=
  let c := s.cells[p]
  if c.overRun = 3 ∧ c.drive = .feed then
    match s.boundAt p with
    | none => s
    | some i =>
      match s.rec? i with
      | none => s
      | some r =>
        if r.load = some 3 then s
        else ask i ⟨.shed, overShedLevel r.load (s.cfg.policy r.cls).shedLevel, .policy⟩ s
  else s

/-- The RAMP count at 0 (R49): the cell enters FEED. -/
def rampWork (p : Port) (s : State) : State :=
  let c := s.cells[p]
  if c.drive = .ramp ∧ c.rampCount = 0 then
    match s.boundAt p with
    | some i => orderLevel p (s.admittedOf i) .feed s
    | none => s
  else s

/-- A FEED run of 600 sets the fault count to 0 (R54). -/
def feedRunWork (p : Port) (s : State) : State :=
  let c := s.cells[p]
  if c.feedRun = 600 ∧ c.drive = .feed then updCell p (fun c => { c with faultCount := 0 }) s else s

/-- The works that one sample can bring, each a row of the table. -/
inductive CellWork where
  | settle
  | call
  | overCeiling
  | rampEnd
  | feedRun
deriving DecidableEq, Repr

/-- The works of a sample, in the order of R46. -/
def cellWorks : List CellWork := [.settle, .call, .overCeiling, .rampEnd, .feedRun]

/-- The test window of the record on the port has expired at this tick, and the tick found a call on the port: the pulse
sets CALL though the Q1 QUERY may have gone out at once (R172, log entry 21). -/
def State.callInQ1 (s : State) (p : Port) : Bool :=
  s.tick.calls.contains p &&
    ((s.boundAt p).bind fun i => (s.rec? i).bind (·.test)).any fun t => decide (t.phase = .q1)

/-- The sample of the port, taken in this state, brings the work: a presence run of 3 (R57), a call (R61), an
over-ceiling run of 3 (R63), a RAMP count of 0 (R49), a FEED run of 600 (R54). -/
def State.brings (s : State) (p : Port) : CellWork → Bool
  | .settle => decide (s.cells[p].presRun < 3 ∧ (s.sampled p).presRun = 3)
  | .call => s.recognises p || s.callInQ1 p
  | .overCeiling => decide (s.cells[p].overRun < 3 ∧ (s.sampled p).overRun = 3)
  | .rampEnd => decide (s.cells[p].drive = .ramp ∧ (s.sampled p).rampCount = 0)
  | .feedRun => decide (s.cells[p].feedRun < 600 ∧ (s.sampled p).feedRun = 600)

/-- The effect of one work of a sample. -/
def cellWork (p : Port) : CellWork → State → State
  | .settle => settleWork p
  | .call => callWork p
  | .overCeiling => overWork p
  | .rampEnd => rampWork p
  | .feedRun => feedRunWork p

/-- A cell's sample, as one event (R46): its counts, and the works they bring in the order of R46. A presence loss takes a
cell out of RAMP or FEED, so that what the sample brought of the later works is gone with its counts (R47). -/
def sampleWork (p : Port) (s : State) : State :=
  (cellWorks.filter (s.brings p)).foldl (fun t w => cellWork p w t) (updCell p (fun _ => s.sampled p) s)

/-! ### The trip -/

/-- The comparator fires (R50): armed, in RAMP or FEED, with the current above the level. -/
def Cell.fires (c : Cell) (current : Nat) : Bool :=
  decide (c.drive = .ramp ∨ c.drive = .feed) && c.trip.any fun t => decide (t < current)

/-- A trip (R51 to R53), as one event. -/
def tripWork (p : Port) (current : Nat) (s : State) : State :=
  if s.cells[p].fires current then
    let bound := s.boundAt p
    let s := updCell p Cell.toOff (sendPartOn p s)
    let s := match bound with
      | some i => abortInFlight .line i (raiseFlag i .trip (releaseFeed i s))
      | none => s
    let s := updCell p (fun c => { c with faultCount := min 4 (c.faultCount + 1) }) s
    match bound with
    | none => s
    | some i =>
      if s.cells[p].faultCount = 4 then raiseFlag i .faulted (enter .faulted i s)
      else joinTail i (enterState true .waiting i s)
  else s

end Sys2Proof.Machine
end

