-- ==== Sys2Proof/Machine/Modes.lean ====
section
/-! DEFINITION. Supply modes: the selection (R36), the entry orders (R39 to R45), the evaluations of a tick and of a
RESERVE (R36, R37), and the outage hold (R30). -/

namespace Sys2Proof.Machine

open Sys2Proof

/-- The mode selected from Q, H, K and the latch (R36). -/
def selectMode (q h k : Nat) (latch : Bool) : Mode :=
  if q ≤ k ∨ latch = true then .depleted else if q ≤ h then .critical else .outage

/-- A POLICY exchange with argument 0 is queued for a record (R39). -/
def order (k : ExKind) (i : Idx) (s : State) : State := ask i ⟨k, 0, .policy⟩ s

/-- The QUERY wave (R40, R147) for one record: a bound record becomes CARRYING and gets a QUERY. -/
def waveRecord (s : State) (i : Idx) : State :=
  match s.portOf i with
  | some _ => order .query i (enter .carrying i s)
  | none => s

/-- The QUERY wave (R40, R147). -/
def queryWave (s : State) : State := s.classOrder.foldl waveRecord s

/-- The first pass of CRITICAL entry (R41) for one record. -/
def criticalRelease (s : State) (i : Idx) : State :=
  if s.lifeline i then s
  else
    match s.stOf i with
    | some .fed => enter .carrying i (releaseFeed i s)
    | some .waiting => enter .carrying i (leaveQueue i s)
    | some .testing => enter .carrying i (setTested i .abandoned s)
    | _ => s

/-- The second pass of CRITICAL entry (R41) for one record. -/
def criticalRest (s : State) (i : Idx) : State :=
  if s.lifeline i then s
  else
    match s.stOf i with
    | some .carrying => ask i ⟨.rest, 0, .policy⟩ s
    | some .lapsed => ask i ⟨.rest, 0, .policy⟩ s
    | _ => s

/-- The orders of CRITICAL entry (R41): two passes in class order. -/
def criticalOrders (s : State) : State :=
  let s := s.classOrder.foldl criticalRelease s
  s.classOrder.foldl criticalRest s

/-- Every port cell goes to OFF (R43, R45). -/
def allCellsOff (zeroFaults : Bool) (s : State) : State :=
  allPorts.foldl (fun s p => updCell p (fun c =>
    let c := Cell.toLevel 0 .off c
    if zeroFaults then { c with faultCount := 0 } else c) (sendPartOn p s)) s

/-- Every exchange in flight is aborted with outcome ABORTED, every pending one is dropped (R43, R45, R182). -/
def dropAllExchanges (s : State) : State :=
  let s := abortEngine .aborted .b (abortEngine .aborted .a s)
  let s := allIdx.foldl (fun s i => updRec i (fun r => { r with pend := none }) s) s
  { s with link := { s.link with queue := [] } }

/-- Every fed record has its feed released and the admission queue is emptied (R43, R45, R182). -/
def releaseAll (s : State) : State :=
  let s := allIdx.foldl (fun s i => updRec i (fun r => { r with admitted := none }) s) s
  callDecision { s with arbiter := ⟨[], []⟩ }

/-- Every test is abandoned with TESTED (R43, R45). -/
def abandonAllTests (s : State) : State := allIdx.foldl (fun s i => abandonTest i s) s

/-- Step 5 of DEPLETED entry (R43) for one record. -/
def depletedRecord (s : State) (i : Idx) : State :=
  match s.rec? i with
  | none => s
  | some r =>
    if r.port.isSome ∧ r.st ≠ .faulted then setCountdown i Countdown.stop (enter .silent i s) else s

/-- The orders of DEPLETED entry (R43). -/
def depletedOrders (s : State) : State :=
  allIdx.foldl depletedRecord (abandonAllTests (releaseAll (dropAllExchanges (allCellsOff false s))))

/-- The pass on leaving DEPLETED (R44) for one record, in the mode entered. -/
def leaveDepletedRecord (s : State) (i : Idx) : State :=
  match s.rec? i with
  | none => s
  | some r =>
    if r.st = .silent then
      if s.supply.mode = .outage ∨ r.cls = .lifeline then order .wake i (enter .waking i s)
      else
        let s := match r.port with
          | some p => orderLevel p 0 .sense s
          | none => s
        let s := setCountdown i (fun c => c.forEntry s.supply.mode (s.cfg.policy r.cls) false .silent) s
        order .rest i s
    else s

/-- The orders on leaving DEPLETED (R44). -/
def leaveDepletedOrders (s : State) : State := s.classOrder.foldl leaveDepletedRecord s

/-- Step 5 of MAINS entry (R45) for one record. -/
def mainsRecord (s : State) (i : Idx) : State := setCountdown i Countdown.stop (enter .idle i s)

/-- The orders of MAINS entry (R45). -/
def mainsOrders (s : State) : State :=
  let s := allIdx.foldl mainsRecord (abandonAllTests (releaseAll (dropAllExchanges (allCellsOff true s))))
  { s with supply := { s.supply with latch := false, uvRun := 0 } }

/-- The orders of the entry from one mode into another (R39). -/
def entryOrders (before after : Mode) (s : State) : State :=
  match after, before with
  | .mains, _ => mainsOrders s
  | .depleted, _ => depletedOrders s
  | .outage, .mains => queryWave s
  | .critical, .mains => criticalOrders (queryWave s)
  | .critical, .depleted => leaveDepletedOrders s
  | .critical, _ => criticalOrders s
  | .outage, .depleted => leaveDepletedOrders s
  | .outage, _ => s

/-- Sets the pending-apportionment mark (R74). A set mark stays as it is. -/
def markApportion (s : State) : State :=
  match s.meter.mark with
  | .clear => { s with meter := { s.meter with mark := .set } }
  | _ => s

/-- A mode entry (R29, R38, R39): the mode, both mains counts 0, the device flag MODE, the orders, the mark, and a call
for one admission decision. -/
def enterMode (after : Mode) (s : State) : State :=
  let before := s.supply.mode
  let s := { s with
    supply := { s.supply with mode := after, failCount := 0, returnCount := 0, held := false }
    dev := { s.dev with mode := true } }
  let s := entryOrders before after s
  let s := if after = .mains then s else markApportion s
  callDecision s

/-- Enters the selected mode if it differs from the mode held (R36, R37). -/
def enterSelected (s : State) : State :=
  match s.supply.q with
  | none => s
  | some q =>
    let m := selectMode q s.cfg.holdBack s.cfg.cutoff s.supply.latch
    if m = s.supply.mode then s else enterMode m s

/-- The tick's evaluation where no debounce has completed (R36). -/
def evaluateTick (s : State) : State :=
  match s.supply.mode with
  | .outage => enterSelected s
  | .critical => enterSelected s
  | .mains => s
  | .depleted => s

/-- The undervoltage latch is set (R35), if its event is due. -/
def setLatch (s : State) : State :=
  if s.isDue .latch then dropDue .latch { s with supply := { s.supply with latch := true } } else s

/-- The event of the run reaching 3 (R35). The tick's evaluation follows, unless a completed debounce is still to make
it (R36). -/
def latchWork (s : State) : State :=
  let s := { s with supply := { s.supply with latch := true } }
  if s.isDue .failDebounce || s.isDue .returnDebounce then s else evaluateTick s

/-- The completion of the mains-fail debounce (R30, R36): the selected mode is entered if Q is set, and the outage is
held otherwise. -/
def failWork (s : State) : State :=
  let s := setLatch s
  if s.supply.mode = .mains then
    match s.supply.q with
    | some _ => enterSelected s
    | none => { s with supply := { s.supply with held := true }, dev := { s.dev with outagePending := true } }
  else s

/-- The completion of the mains-return debounce (R31, R36). -/
def returnWork (s : State) : State :=
  let s := setLatch s
  if s.supply.mode = .mains then s else enterMode .mains s

/-- The evaluation of a RESERVE (R37). -/
def evaluateReserve (s : State) : State :=
  match s.supply.mode with
  | .mains => if s.supply.held then enterSelected s else s
  | .outage => enterSelected s
  | .critical => enterSelected s
  | .depleted => enterSelected s

end Sys2Proof.Machine
end

