-- ==== Sys2Proof/Machine/Charge.lean ====
section
/-! DEFINITION. The meter: the debit pass (R68), the apportionment (R75 to R82), and the supply controller's work of a
tick on the codes the meter passes it (R29, R34 to R36). -/

namespace Sys2Proof.Machine

open Sys2Proof

/-! ### The debit pass -/

/-- The debit of one port (R68): the bound record is FED and the cell is in RAMP or FEED. -/
def debitPort (scan : Scan) (s : State) (p : Port) : State :=
  match s.boundAt p with
  | none => s
  | some i =>
    if s.isIn .fed i && decide (s.cells[p].drive = .ramp ∨ s.cells[p].drive = .feed) then
      let s := updRec i (fun r => { r with allowance := r.allowance - scan.codes[p].toNat }) s
      if (s.rec? i).any (fun r => decide (r.allowance = 0)) then lapse i s else s
    else s

/-- The debit pass over P1 to P48 (R68). -/
def debitPass (scan : Scan) (s : State) : State := allPorts.foldl (debitPort scan) s

/-! ### The apportionment -/

/-- D, the distributable charge (R78). -/
def State.distributable (s : State) : Nat :=
  match s.supply.mode with
  | .outage => s.supply.q.getD 0 - s.cfg.holdBack
  | .critical => s.supply.q.getD 0 - s.cfg.cutoff
  | .depleted => 0
  | .mains => s.supply.q.getD 0 - s.cfg.holdBack

/-- The record takes part in the apportionment (R77). -/
def Record.participates (mode : Mode) (r : Record) : Bool :=
  r.port.isSome && decide (r.st ≠ .idle) && decide (r.st ≠ .faulted)
    && (decide (mode ≠ .critical) || decide (r.cls = .lifeline))

/-- The slot's record is a participant (R77). -/
def State.participant (s : State) (i : Idx) : Bool := (s.rec? i).any (Record.participates s.supply.mode)

/-- The participants, by ascending index. -/
def State.participants (s : State) : List Idx := allIdx.filter s.participant

/-- The class weight of a slot's record (R77). -/
def State.weightOf (s : State) (i : Idx) : Nat :=
  match s.rec? i with
  | some r => (s.cfg.policy r.cls).weight
  | none => 0

/-- W, the total weight (R79). -/
def State.totalWeight (s : State) : Nat := (s.participants.map s.weightOf).sum

/-- One share (R79): floor(D × w / W), 0 for W = 0, clamped to the cap. -/
def shareOf (d w total : Nat) (cap : Option Nat) : Nat :=
  let v := if total = 0 then 0 else d * w / total
  match cap with
  | some c => min v c
  | none => v

/-- The allowance that stage 4 gives a slot's record (R79): its share, or 0 for a non-participant. -/
def State.shareFor (s : State) (i : Idx) : Nat :=
  match s.rec? i with
  | some r => if s.participant i then shareOf s.distributable (s.weightOf i) s.totalWeight r.cap else 0
  | none => 0

/-- Stage 4 (R79): the allowances are replaced, the pool takes what the shares leave of D. -/
def assignShares (s : State) : State :=
  let t := allIdx.foldl (fun t i => updRec i (fun r => { r with allowance := s.shareFor i }) t) s
  { t with meter := { t.meter with pool := s.distributable - (allIdx.map s.shareFor).sum } }

/-- Stage 5 (R80) for one record. -/
def consequence (s : State) (i : Idx) : State :=
  match s.rec? i with
  | none => s
  | some r =>
    match r.st with
    | .fed => if r.allowance = 0 then lapse i s else s
    | .waiting => if r.allowance = 0 then lapse i s else s
    | .lapsed => leaveLapsed i s
    | _ => s

/-- Stages 1 to 5 (R78 to R80). -/
def apportionWork (s : State) : State := s.classOrder.foldl consequence (assignShares s)

/-- The reply to an awaiting APPORTION request (R76): D, W, the pool after the consequences, the participants. -/
def apportionReply (before after : State) : Reply :=
  ⟨.done, beBytes 4 before.distributable ++ beBytes 2 before.totalWeight ++ beBytes 4 after.meter.pool ++
    [byteOf before.participants.length]⟩

/-! ### The supply controller's tick -/

/-- The Q debit (R34): outside MAINS, by 20 × b, saturating at 0. -/
def debitQ (b : Nat) (s : State) : State :=
  if s.supply.mode = .mains then s
  else { s with supply := { s.supply with q := s.supply.q.map fun q => q - 20 * b } }

/-- The undervoltage run after a tick's voltage code (R35). -/
def nextUvRun (floor run v : Nat) : Nat := if v * 50 < floor * 100 then min 3 (run + 1) else 0

/-- The undervoltage run of a tick (R35). A run that reaches 3 makes the latch event due. -/
def uvTick (v : Nat) (s : State) : State :=
  let run := nextUvRun s.cfg.uvFloor s.supply.uvRun v
  let s := { s with supply := { s.supply with uvRun := run } }
  if run = 3 ∧ s.supply.latch = false then makeDue .latch s else s

/-- The mains sample of a tick (R29, R30, R31). A completed debounce is due; a present sample ends a hold. -/
def mainsTick (present : Bool) (s : State) : State :=
  let s := { s with supply := { s.supply with lastMains := some present } }
  if s.supply.mode = .mains then
    if present then { s with supply := { s.supply with failCount := 0, held := false } }
    else
      let limit := s.cfg.failDebounce * 10
      let n := min limit (s.supply.failCount + 1)
      let s' := { s with supply := { s.supply with failCount := n } }
      if n = limit ∧ s.supply.held = false then makeDue .failDebounce s' else s'
  else if present then
    let limit := s.cfg.returnDebounce * 10
    let n := min limit (s.supply.returnCount + 1)
    let s' := { s with supply := { s.supply with returnCount := n } }
    if n = limit then makeDue .returnDebounce s' else s'
  else { s with supply := { s.supply with returnCount := 0 } }

/-- Steps 1 to 4 of R36. Where the latch is to be set or a debounce has completed, the evaluation is made by that
event. -/
def supplyTick (scan : Scan) (s : State) : State :=
  let s := mainsTick scan.mains (uvTick scan.volt.toNat (debitQ scan.bus.toNat s))
  if s.isDue .latch || s.isDue .failDebounce || s.isDue .returnDebounce then s else evaluateTick s

end Sys2Proof.Machine
end

