-- ==== Sys2Proof/Machine/Reports.lean ====
section
/-! DEFINITION. What an accepted REPORT and an exchange's final outcome do to a record: the field update (R126), the
REPORT rule (R137 to R143), the test phases and the grade (R166 to R171), and the outcomes of each kind (R127 to
R130). -/

namespace Sys2Proof.Machine

open Sys2Proof

/-- The fields an accepted REPORT updates (R126), and the fault mark of a running test (R163). -/
def takeReport (now : Stamp) (p : Report) (r : Record) : Record :=
  { r with
    soc := some p.soc
    load := some p.load
    call := p.call
    batteryFault := p.batteryFault
    lastSeen := some now
    selfMinutes := if p.batteryFault then some 0 else r.selfMinutes
    test := r.test.map fun t => { t with faultMark := t.faultMark || p.batteryFault } }

/-- A POLICY exchange with argument 0. -/
def policyExchange (k : ExKind) : Exchange := ⟨k, 0, .policy⟩

/-- The rest-after test (R141). -/
def restAfterHolds (row : Policy) (now : Stamp) (r : Record) : Bool :=
  decide (0 < row.restAfter) && !r.call && decide (row.restAfter * 10 ≤ (now - r.entered).toNat)

/-- The REPORT rule for a record in CARRYING (R138): the first test that holds decides. -/
def reportCarrying (i : Idx) (s : State) : State :=
  match s.rec? i with
  | none => s
  | some r =>
    let row := s.cfg.policy r.cls
    if s.supply.mode = .critical ∧ r.cls ≠ .lifeline then ask i (policyExchange .rest) s
    else if r.cls = .lifeline ∧ r.call = true then wantFeed i s
    else if r.soc.any (fun v => decide (v ≤ row.socFloor)) then wantFeed i s
    else if restAfterHolds row s.clock r then ask i (policyExchange .rest) s
    else s

/-- The release test of a FED record (R142). -/
def releaseHolds (row : Policy) (r : Record) : Bool :=
  !r.call && r.soc.any (fun v => decide (row.releaseLevel ≤ v))
    && r.selfMinutes.all (fun m => decide (row.selfSufficient ≤ m))

/-- The REPORT rule for a record in FED (R142). -/
def reportFed (i : Idx) (s : State) : State :=
  match s.rec? i with
  | none => s
  | some r => if releaseHolds (s.cfg.policy r.cls) r then enter .carrying i (releaseFeed i s) else s

/-- The REPORT rule by the state held (R137, R143). -/
def reportRule (i : Idx) (s : State) : State :=
  match s.stOf i with
  | some .carrying => reportCarrying i s
  | some .fed => reportFed i s
  | _ => s

/-- A woken or answering record enters CARRYING and is judged there (R127, R128). -/
def wakeToCarrying (i : Idx) (s : State) : State := reportCarrying i (enter .carrying i s)

/-- A REPORT of another origin in TESTING: a call-active yes abandons the test (R170). -/
def testOther (i : Idx) (p : Report) (s : State) : State := if p.call then abandonForCall i s else s

/-- self minutes by the grade (R168). -/
def gradeMinutes (faultMark : Bool) (soc0 soc1 windowTicks : Nat) : Nat :=
  let drop := if soc1 < soc0 then soc0 - soc1 else 0
  if faultMark then 0
  else if drop = 0 then 65535
  else min 65535 (soc1 * (windowTicks / 10) / (60 * drop))

/-- The grade and the state it leads to (R168, R169). A TEST QUERY that is still pending, which only R167's case of an
earlier test's QUERY leaves, stays pending: R120 lists no drop (log entry 23). -/
def gradeTest (i : Idx) (p : Report) (t : TestCtx) (s : State) : State :=
  match s.rec? i with
  | none => s
  | some r =>
    let m := gradeMinutes t.faultMark (t.soc0.getD 0) p.soc r.cd.reload
    let row := s.cfg.policy r.cls
    let s := updRec i (fun r => { r.tested .graded with selfMinutes := some m }) s
    if row.selfSufficient ≤ m ∧ row.socFloor < p.soc then enter .carrying i s else wantFeed i s

/-- The test phase rule for an accepted REPORT of the test's QUERY (R166, R168, R170). -/
def testPhaseOk (i : Idx) (p : Report) (s : State) : State :=
  match (s.rec? i).bind (·.test) with
  | none => s
  | some t =>
    match t.phase with
    | .q0 =>
      if p.call then abandonForCall i s
      else
        setCountdown i (fun c => c.load (s.cfg.testWindow * 10) false)
          (updRec i (fun r => { r with test := some { t with phase := .window, soc0 := some p.soc } }) s)
    | .window => testOther i p s
    | .q1 => if p.call then abandonForCall i s else gradeTest i p t s

/-- A final failure of the test's QUERY in Q0 or Q1 (R171). A TEST QUERY that is still pending stays pending, as at the
grade (log entry 23). -/
def failTest (i : Idx) (s : State) : State := enter .silent i (setTested i .failed s)

/-- The record's test waits for its own QUERY: phase Q0 or Q1 (R128). -/
def State.testAwaits (s : State) (i : Idx) : Bool :=
  match (s.rec? i).bind (·.test) with
  | some t => decide (t.phase ≠ .window)
  | none => false

/-- LINKFAIL, with the state left as it is. -/
def linkFail (i : Idx) (s : State) : State := raiseFlag i .linkfail s

/-- What a WAKE's final outcome does (R127). `some p` is OK with the REPORT p. -/
def wakeEffect (i : Idx) (rep : Option Report) (s : State) : State :=
  match s.stOf i, rep with
  | some .waking, some _ => wakeToCarrying i s
  | some .resting, some _ => wakeToCarrying i s
  | some .silent, some _ => wakeToCarrying i s
  | some .testing, some p => testOther i p s
  | some _, some _ => reportRule i s
  | some .waking, none => enter .silent i (linkFail i s)
  | some _, none => linkFail i s
  | none, _ => s

/-- What a QUERY's final outcome does (R128). -/
def queryEffect (i : Idx) (origin : Origin) (rep : Option Report) (s : State) : State :=
  match s.stOf i, rep with
  | some .waking, some _ => wakeToCarrying i s
  | some .resting, some _ => wakeToCarrying i s
  | some .silent, some _ => wakeToCarrying i s
  | some .testing, some p => if origin = .test ∧ s.testAwaits i = true then testPhaseOk i p s else testOther i p s
  | some .idle, _ => s
  | some .faulted, _ => s
  | some _, some _ => reportRule i s
  | some .carrying, none => enter .silent i (linkFail i s)
  | some .testing, none => if origin = .test ∧ s.testAwaits i = true then failTest i s else linkFail i s
  | some _, none => linkFail i s
  | none, _ => s

/-- A REST completing OK drops a pending QUERY, REST or SHED; a pending WAKE is kept (R120, R129). -/
def dropUnheard (i : Idx) (s : State) : State :=
  match (s.rec? i).bind (·.pend) with
  | some x => if x.kind = .wake then s else dropPending i s
  | none => s

/-- What a REST's final outcome does (R129). -/
def restEffect (i : Idx) (rep : Option Report) (s : State) : State :=
  match s.stOf i, rep with
  | some .waking, some _ => dropUnheard i s
  | some .resting, some _ => dropUnheard i s
  | some .idle, some _ => s
  | some .faulted, some _ => s
  | some _, some _ => enter .resting i (dropUnheard i (abandonTest i (leaveService i s)))
  | some _, none => linkFail i s
  | none, _ => s

/-- What a SHED's final outcome does (R130). -/
def shedEffect (i : Idx) (rep : Option Report) (s : State) : State :=
  match s.stOf i, rep with
  | some .testing, some p => testOther i p s
  | some _, some _ => s
  | some _, none => linkFail i s
  | none, _ => s

/-- The effect of a kind (R127 to R130). -/
def kindEffect (i : Idx) (x : Exchange) (rep : Option Report) (s : State) : State :=
  match x.kind with
  | .wake => wakeEffect i rep s
  | .query => queryEffect i x.origin rep s
  | .rest => restEffect i rep s
  | .shed => shedEffect i rep s

/-- The work of a completion (R124): the engine is freed, the REPORT's fields are taken, the kind's effect is applied,
and SENT is noted. The decision and the pick follow as the event ends. -/
def completeWork (e : Engine) (s : State) : State :=
  match s.engine e with
  | none => s
  | some g =>
    match g.outcome with
    | none => s
    | some (o, rep) =>
      let s := freeEngine e s
      let s :=
        match rep with
        | some p => updRec g.idx (takeReport s.clock p) s
        | none => s
      noteSent g.idx g.ex o (kindEffect g.idx g.ex rep s)

end Sys2Proof.Machine
end

