-- ==== Sys2Proof/Machine/Schedule.lean ====
section
/-! DEFINITION. The appointment list: placing, expiry, actions and repeats (R150 to R162). -/

namespace Sys2Proof.Machine

open Sys2Proof

/-- The remaining ticks of an appointment (R151): due less the clock, modulo 2^32. -/
def Appointment.remaining (now : Stamp) (a : Appointment) : Nat := (a.due - now).toNat

/-- Same target and kind (R151). -/
def Appointment.same (k : ApptKind) (t : Target) (a : Appointment) : Bool := decide (a.kind = k) && decide (a.target = t)

/-- An appointment placed by its due time, behind any of equal due (R151). -/
def placeIn (now : Stamp) (a : Appointment) (l : List Appointment) : List Appointment :=
  let ahead := fun b : Appointment => decide (b.remaining now ≤ a.remaining now)
  l.takeWhile ahead ++ a :: l.dropWhile ahead

/-- Places an appointment in the schedule. -/
def placeAppointment (a : Appointment) (s : State) : State := { s with schedule := placeIn s.clock a s.schedule }

/-- An APPOINTMENT exchange with argument 0 (R158). -/
def apptExchange (k : ExKind) : Exchange := ⟨k, 0, .appointment⟩

/-- The WAKE action for one record (R158). -/
def actWake (s : State) (i : Idx) : State :=
  if (s.isIn .resting i || s.isIn .silent i) && !(decide (s.supply.mode = .critical) && !s.lifeline i) then
    enter .waking i (ask i (apptExchange .wake) s)
  else s

/-- The QUERY action for one record (R158). -/
def actQuery (s : State) (i : Idx) : State :=
  if s.isIn .carrying i || s.isIn .fed i then ask i (apptExchange .query) s else s

/-- The REST action for one record (R158): call active is no, and in CRITICAL the record is not LIFELINE. -/
def actRest (s : State) (i : Idx) : State :=
  if (s.isIn .carrying i || s.isIn .fed i) && (s.rec? i).any (fun r => !r.call)
      && !(decide (s.supply.mode = .critical) && s.lifeline i) then
    ask i (apptExchange .rest) s
  else s

/-- The TEST action for one record (R158, R159): an ineligible record is passed over, or skipped with a flag when it is
named. -/
def actTest (named : Bool) (s : State) (i : Idx) : State :=
  if s.testEligible i then enterTest i s else if named then setTested i .skipped s else s

/-- The target names one record. -/
def Target.named : Target → Bool
  | .record _ => true
  | .all => false
  | .none => false

/-- The action of an expired appointment (R158 to R160). -/
def actOn (a : Appointment) (s : State) : State :=
  match a.kind with
  | .apportion => if s.supply.q.isSome then markApportion s else s
  | .wake => if s.supply.mode = .mains ∨ s.supply.mode = .depleted then s else (s.targets a.target).foldl actWake s
  | .query => if s.supply.mode = .mains ∨ s.supply.mode = .depleted then s else (s.targets a.target).foldl actQuery s
  | .rest => if s.supply.mode = .mains ∨ s.supply.mode = .depleted then s else (s.targets a.target).foldl actRest s
  | .test =>
    if s.supply.mode = .mains ∨ s.supply.mode = .depleted then s
    else (s.targets a.target).foldl (actTest a.target.named) s

/-- One expired appointment (R156, R157): it leaves the list, acts, and is placed again if it repeats. -/
def expireOne (s : State) (a : Appointment) : State :=
  let s := { s with schedule := s.schedule.erase a }
  let s := actOn a s
  if 0 < a.period then placeAppointment { a with due := a.due + BitVec.ofNat 32 a.period } s else s

/-- The tick's expiry (R156): the expired appointments at the head of the list, one at a time. -/
def expiryWork (s : State) : State := (s.schedule.takeWhile (Appointment.expired s.clock)).foldl expireOne s

/-- The position of the appointment of a kind and target in the list. -/
def State.positionOf (s : State) (k : ApptKind) (t : Target) : Nat := s.schedule.findIdx (Appointment.same k t)

end Sys2Proof.Machine
end

