-- ==== Sys2Proof/Machine/Events.lean ====
section
/-! DEFINITION. The events that a tick or an engine makes due: the action of each, taking one, and settling all that are
due. -/

namespace Sys2Proof.Machine

open Sys2Proof

/-! ### Countdown expiries (R144 to R146, R167) -/

/-- An expiry in CARRYING or FED (R144): a QUERY, or in CRITICAL a REST for a non-LIFELINE record in CARRYING. -/
def queryIntervalWork (i : Idx) (s : State) : State := ask i (policyExchange (s.intervalKind i)) s

/-- An expiry in RESTING or SILENT (R145): the record is woken, or in CRITICAL a non-LIFELINE record's countdown is
reloaded. -/
def wakePeriodWork (i : Idx) (s : State) : State :=
  if s.supply.mode = .critical ∧ s.lifeline i = false then setCountdown i Countdown.again s
  else enter .waking i (ask i (policyExchange .wake) s)

/-- An expiry in WAITING (R146): cooling has ended, and an admission decision is called for. -/
def coolingWork (s : State) : State := callDecision s

/-- An expiry in TESTING (R167): the phase becomes Q1 and a TEST QUERY is queued. -/
def testWindowWork (i : Idx) (s : State) : State :=
  if s.testInWindow i then
    ask i ⟨.query, 0, .test⟩ (updRec i (fun r => { r with test := r.test.map fun t => { t with phase := .q1 } }) s)
  else s

/-- An expiry, by the state the record holds at that moment (R10). -/
def expiryEffect (i : Idx) (s : State) : State :=
  match s.stOf i with
  | some .carrying => queryIntervalWork i s
  | some .fed => queryIntervalWork i s
  | some .resting => wakePeriodWork i s
  | some .silent => wakePeriodWork i s
  | some .waiting => coolingWork s
  | some .testing => testWindowWork i s
  | _ => s

/-! ### The supply events before the apportionment, and the apportionment -/

/-- The supply controller's outstanding events, in the order of R36. -/
def closeSupply (s : State) : State :=
  let s := if s.isDue .latch then event latchWork (dropDue .latch s) else s
  let s := if s.isDue .failDebounce then event failWork (dropDue .failDebounce s) else s
  if s.isDue .returnDebounce then event returnWork (dropDue .returnDebounce s) else s

/-- The apportionment taken up by this tick is performed (R75), and an awaiting request is answered (R76). -/
def apportionTick (s : State) : State :=
  let t := event apportionWork s
  let t := if s.meter.now = .awaited then
      { t with host := { t.host with reply := some (apportionReply s t), busy := false, request := [] } }
    else t
  { t with meter := { t.meter with now := .clear } }

/-! ### Taking an event -/

/-- An event that was due: it leaves the agenda and its work is done. -/
def eventWork (ev : Event) (s : State) : State :=
  let one := fun f : State → State => event (fun t => f (dropDue ev t)) s
  match ev with
  | .expiry i => one (expiryEffect i)
  | .appointments => one expiryWork
  | .sample p => one (sampleWork p)
  | .latch => one latchWork
  | .failDebounce => one failWork
  | .returnDebounce => one returnWork
  | .apportion => apportionTick (closeSupply (dropDue .apportion s))
  | .complete e => one (completeWork e)

/-- A due event is taken. An event that is not due does not occur. -/
def takeEvent (ev : Event) (s : State) : State := if s.isDue ev then eventWork ev s else s

/-- The events due are taken one after the other, those they make due among them. `n` bounds their number. -/
def settleLoop : Nat → State → State
  | 0, s => s
  | n + 1, s =>
    match s.agenda.due with
    | [] => s
    | ev :: _ => settleLoop n (takeEvent ev s)

/-- Every event that is due is taken, in the agenda's order. A tick makes at most 117 events due (a
sample for each cell, an expiry for each record, three of the supply controller, the expiry of the schedule, the
apportionment), and each engine can add a completion to each of them. -/
def settle (s : State) : State :=
  let t := settleLoop 1000 s
  { t with agenda := { t.agenda with due := [] } }

/-- Work that only a part that is not held in reset does (R183). -/
def live (f : State → State) (s : State) : State := if s.inReset then s else f s

end Sys2Proof.Machine
end

