-- ==== Sys2Proof/Machine/Replies.lean ====
section
/-! DEFINITION. The data of the replies, byte by byte (R15, R64, R155, R179, R181, section 11.6), and the settings as
GET reads them (R178). -/

namespace Sys2Proof.Machine

open Sys2Proof

/-! ### Small pieces -/

/-- A pending exchange's kind and origin. -/
def Exchange.shown (x : Exchange) : List Byte := [x.kind.byte, x.origin.byte]

/-- A stamp as four bytes. -/
def stampBytes (v : Stamp) : List Byte := bytes32 v

/-- A last outcome: its kind and its outcome. -/
def outcomeBytes (o : ExKind × ExOutcome) : List Byte := [o.1.byte, o.2.byte]

/-- A test outcome. -/
def testOutcomeBytes (o : TestOutcome) : List Byte := [o.byte]

/-- What FIND shows of a record's in-flight exchange: kind, engine and attempts used, or absent. -/
def State.inFlightBytes (s : State) (i : Idx) : List Byte :=
  match s.inFlight i with
  | none => [0]
  | some e =>
    match s.engine e with
    | none => [0]
    | some g => [1, g.ex.kind.byte, engineByte e, byteOf g.attempts]

/-- What FIND shows of a running test: its phase and its soc0. -/
def testBytes (t : TestCtx) : List Byte := t.phase.byte :: optBytes (fun v => [byteOf v]) t.soc0

/-- The port cell's presence and cooling mark of a bound record. -/
def State.boundBytes (s : State) (i : Idx) : List Byte :=
  match s.portOf i with
  | none => []
  | some p => [s.cells[p].presence.byte, boolByte (s.cooling i)]

/-! ### FIND (R15) -/

/-- The view of a record. -/
def State.findView (s : State) (i : Idx) : List Byte :=
  match s.rec? i with
  | none => []
  | some r =>
    idxByte i :: bytes64 r.identity ++ [r.cls.byte, r.st.byte] ++ stampBytes r.entered ++
    optBytes (fun p => [portByte p]) r.port ++ beBytes 2 r.ceiling ++ optBytes (beBytes 2) r.admitted ++
    beBytes 4 r.allowance ++ optBytes (beBytes 4) r.cap ++ optBytes (beBytes 1) r.soc ++ optBytes (beBytes 1) r.load ++
    [boolByte r.call, boolByte r.batteryFault] ++ optBytes (beBytes 2) r.selfMinutes ++
    optBytes stampBytes r.lastSeen ++ beBytes 3 r.cd.remaining ++ beBytes 3 r.cd.reload ++ [r.cd.modeByte] ++
    optBytes Exchange.shown r.pend ++ s.inFlightBytes i ++ optBytes testBytes r.test ++
    optBytes outcomeBytes r.lastOutcome ++ [r.flags, boolByte r.rep] ++
    optBytes testOutcomeBytes r.testOutcome ++ s.boundBytes i

/-! ### PORT (R64) -/

/-- The port cell is cooling (R11): the record bound to it is. -/
def State.portCooling (s : State) (p : Port) : Bool :=
  match s.boundAt p with
  | some i => s.cooling i
  | none => false

/-- The status of a port. -/
def State.portView (s : State) (p : Port) : List Byte :=
  let c := s.cells[p]
  optBytes (fun i => [idxByte i]) (s.boundAt p) ++ [c.drive.byte] ++
  [byteOf (if c.drive = .ramp then c.rampCount else 0)] ++ optBytes (beBytes 2) c.trip ++ [c.presence.byte] ++
  optBytes stampBytes c.stamp ++ optBytes (fun r => [r.byte]) c.cand ++ [byteOf c.presRun] ++ beBytes 2 c.lastScan ++
  [byteOf c.faultCount] ++ beBytes 2 c.feedRun ++ [byteOf c.overRun, boolByte (s.portCooling p)] ++
  optBytes (beBytes 2) c.callBase ++ [byteOf c.callRun, boolByte c.callHeld] ++
  optBytes (fun e => [engineByte e]) (s.engineOn p)

/-! ### STATE (R179) -/

/-- The last mains sample: 0 absent, 1 present, 2 none before the first tick. -/
def mainsByte : Option Bool → Byte
  | some false => 0
  | some true => 1
  | none => 2

/-- Section 0: supply and meter. -/
def State.supplyView (s : State) : List Byte :=
  [s.supply.mode.byte] ++ optBytes (beBytes 4) s.supply.q ++ beBytes 4 s.cfg.holdBack ++ beBytes 4 s.cfg.cutoff ++
  [boolByte s.supply.latch, byteOf s.supply.uvRun, mainsByte s.supply.lastMains] ++ beBytes 2 s.supply.failCount ++
  beBytes 2 s.supply.returnCount ++ [boolByte s.supply.held] ++ stampBytes s.clock ++
  beBytes 2 (20 * s.meter.lastBus) ++ beBytes 2 (s.meter.lastVolt * 50) ++ beBytes 4 s.meter.pool ++
  [s.meter.mark.byte] ++ beBytes 2 s.cfg.busCap ++ beBytes 2 s.budget ++ [s.dev.byte]

/-- The entries of a list that one STATE reply carries: up to 16 from the start position. -/
def window {α : Type} (start : Nat) (l : List α) : List α := (l.drop start).take 16

/-- Section 1: the feed list. -/
def State.feedView (s : State) (start : Nat) : List Byte :=
  byteOf s.arbiter.feedList.length ::
    (window start s.arbiter.feedList).flatMap fun i => idxByte i :: beBytes 2 (s.admittedOf i)

/-- One member of the admission queue as STATE shows it. -/
def State.memberBytes (s : State) (i : Idx) : List Byte :=
  match s.rec? i with
  | none => []
  | some r => [idxByte i, r.cls.byte] ++ beBytes 2 r.ceiling ++ [boolByte (s.cooling i)]

/-- Section 2: the admission queue. -/
def State.queueView (s : State) (start : Nat) : List Byte :=
  byteOf s.arbiter.queue.length :: (window start s.arbiter.queue).flatMap s.memberBytes

/-- What an engine carries: record, kind, origin, attempts used and phase. -/
def engagementBytes (g : Engagement) : List Byte :=
  [idxByte g.idx, g.ex.kind.byte, g.ex.origin.byte, byteOf g.attempts, g.phase.byte]

/-- One entry of the exchange queue: index, and the pending kind, argument and origin. -/
def State.entryBytes (s : State) (i : Idx) : List Byte :=
  match (s.rec? i).bind (·.pend) with
  | none => []
  | some x => [idxByte i, x.kind.byte, byteOf x.arg, x.origin.byte]

/-- Section 3: the link scheduler. -/
def State.linkView (s : State) (start : Nat) : List Byte :=
  optBytes engagementBytes s.link.engA ++ optBytes engagementBytes s.link.engB ++
  byteOf s.link.queue.length :: (window start s.link.queue).flatMap s.entryBytes

/-- The data of a STATE reply. `none` for a section above 3 or a start position above 63. -/
def State.stateView (s : State) (sect start : Nat) : Option (List Byte) :=
  if 63 < start then none
  else
    match sect with
    | 0 => some s.supplyView
    | 1 => some (s.feedView start)
    | 2 => some (s.queueView start)
    | 3 => some (s.linkView start)
    | _ => none

/-! ### Appointments, NEXT -/

/-- The data of a SCHEDULE reply (R155). -/
def State.appointmentView (s : State) (a : Appointment) : List Byte :=
  stampBytes a.due ++ beBytes 4 (a.remaining s.clock) ++ [a.kind.byte, a.target.byte] ++ beBytes 4 a.period ++
  [byteOf s.schedule.length]

/-- The record's part of a NEXT reply (R181). -/
def nextBytes (i : Idx) (r : Record) : List Byte :=
  [idxByte i, r.flags, boolByte r.rep] ++ optBytes testOutcomeBytes r.testOutcome ++
  optBytes outcomeBytes r.lastOutcome

/-! ### Settings (R178) -/

/-- One field of a policy row, by its place in R178. -/
def Policy.field (p : Policy) : Nat → Nat
  | 0 => p.weight
  | 1 => p.socFloor
  | 2 => p.releaseLevel
  | 3 => p.queryInterval
  | 4 => p.restAfter
  | 5 => p.wakePeriod
  | 6 => p.shedLevel
  | 7 => p.selfSufficient
  | _ => p.topUp

/-- One field of a policy row replaced. -/
def Policy.setField (v : Nat) (p : Policy) : Nat → Policy
  | 0 => { p with weight := v }
  | 1 => { p with socFloor := v }
  | 2 => { p with releaseLevel := v }
  | 3 => { p with queryInterval := v }
  | 4 => { p with restAfter := v }
  | 5 => { p with wakePeriod := v }
  | 6 => { p with shedLevel := v }
  | 7 => { p with selfSufficient := v }
  | _ => { p with topUp := v }

/-- The clamp of a policy field's range (R134, R135). -/
def clampField (v : Nat) : Nat → Nat
  | 0 => clampTo 0 15 v
  | 1 => clampTo 0 100 v
  | 2 => clampTo 0 100 v
  | 3 => clampTo 10 3600 v
  | 4 => clampRest v
  | 5 => clampRest v
  | 6 => clampTo 0 3 v
  | 7 => clampTo 0 65535 v
  | _ => v

/-- The class of a policy setting's number: 16 to 24 LIFELINE, 25 to 33 STANDARD, 34 to 42 DEFERRED. -/
def policyClass (number : Nat) : Cls :=
  if number < 25 then .lifeline else if number < 34 then .standard else .deferred

/-- A policy row replaced. -/
def Settings.setPolicy (g : Settings) (c : Cls) (p : Policy) : Settings :=
  match c with
  | .lifeline => { g with lifeline := p }
  | .standard => { g with standard := p }
  | .deferred => { g with deferred := p }

/-- The setting of a number as it stands. `none` where the number names none. -/
def Settings.value (g : Settings) (number : Nat) : Option Nat :=
  if 16 ≤ number ∧ number ≤ 42 then some ((g.policy (policyClass number)).field ((number - 16) % 9))
  else
    match number with
    | 1 => some g.busCap
    | 2 => some g.holdBack
    | 3 => some g.cutoff
    | 4 => some g.uvFloor
    | 5 => some g.failDebounce
    | 6 => some g.returnDebounce
    | 7 => some g.reloadN
    | 8 => some g.windowCode
    | 9 => some g.wakeWindow
    | 10 => some g.retryLimit
    | 11 => some g.testWindow
    | 12 => some g.defaultCeiling
    | 13 => some g.mask.toNat
    | _ => none

end Sys2Proof.Machine
end

