-- ==== Sys2Proof/Machine/Host.lean ====
section
/-! DEFINITION. The host port (R173 to R177): the status byte on the data output, the arrival of a request, the framing
check, the reply buffer. -/

namespace Sys2Proof.Machine

open Sys2Proof

/-! ### The data output -/

/-- The bits of the status byte, as the first byte of a transaction shifts them out (R173). -/
def State.statusBits (s : State) : List Bool := msbFirst s.statusByte

/-- The data output of a transaction. -/
def shiftOut (bits : List Bool) (s : State) : State := { s with host := { s.host with miso := bits } }

/-! ### Requests -/

/-- What an owner answers to a request: the state it leaves, and the reply as the host port builds it from the state
after the request's decision and pick. `none`: the request is not completed yet (R76). -/
structure Answer where
  after : State
  reply : Option (State → Reply)

/-- A refusal (R175): nothing changes and the reply carries no data. -/
def refuse (st : ReplyStatus) (s : State) : Answer := ⟨s, some fun _ => ⟨st, []⟩⟩

/-- An answer of a request that changes nothing. -/
def answer (r : Reply) (s : State) : Answer := ⟨s, some fun _ => r⟩

/-- DONE, or CLAMPED where a value was clamped. -/
def doneOr (clamped : Bool) : ReplyStatus := if clamped then .clamped else .done

/-- A request that arrives while BUSY is shown is discarded (R174). -/
def discardRequest (s : State) : State := { s with host := { s.host with refused := true } }

/-- A request is taken (R174): REFUSED is cleared, an unread reply is discarded, BUSY is set. -/
def takeRequest (s : State) : State := { s with host := { s.host with refused := false, reply := none, busy := true } }

/-- A request is completed (R176): its reply is stored and BUSY is cleared, in one step. -/
def completeRequest (r : Reply) (s : State) : State :=
  { s with host := { s.host with reply := some r, busy := false, request := [] } }

/-- The owner's work as one event (R174), and its completion. -/
def runOwner (owner : State → Answer) (s : State) : State :=
  let a := owner (clearNotes s)
  let t := finishEvent s a.after
  match a.reply with
  | some r => completeRequest (r t) t
  | none => t

/-- The state a frame is judged in, at the rising edge of chip select (R174): the status byte that the falling edge
formed is on the data output (R173), and the events that are due have been taken (log entry 2). -/
def risingEdge (s : State) : State := shiftOut s.statusBits (settle s)

/-- A request frame at the rising edge of chip select (R174, R175). `n` is the length of the request's parameters. -/
def arrive (fr : Framing) (n : Nat) (owner : State → Answer) (s : State) : State :=
  let s := risingEdge s
  if s.host.busy then discardRequest s
  else if fr.fits n then runOwner owner (takeRequest s)
  else completeRequest ⟨.badRequest, []⟩ (takeRequest s)

/-- A request of a part that is not held in reset. -/
def request (fr : Framing) (n : Nat) (owner : State → Answer) (s : State) : State := live (arrive fr n owner) s

/-! ### READ and the status poll -/

/-- The bytes a READ shifts out (R177), after the status byte: reply status, length and data, or NONE and 0. -/
def replyBytes : Option Reply → List Byte
  | some r => r.status.byte :: byteOf r.data.length :: r.data
  | none => [ReplyStatus.none.byte, 0]

/-- The first `bits` bits of a transaction's data output, 0 beyond its end. -/
def clocked (bits : Nat) (out : List Bool) : List Bool := out.take bits ++ List.replicate (bits - out.length) false

/-- A status poll (R173): the status byte is read, in full or in part, and nothing changes. Events that are due stay
due. -/
def pollStatus (bits : Nat) (s : State) : State := shiftOut (s.statusBits.take bits) s

/-- A READ (R173, R177) of `bits` clocked bits, of the reply as it stands: events that are due stay due. READY is cleared
once the reply status is out in full. -/
def readReply (bits : Nat) (s : State) : State :=
  if bits < 9 then shiftOut (s.statusBits.take bits) s
  else
    let t := shiftOut (clocked bits (s.statusBits ++ shiftBits (replyBytes s.host.reply))) s
    if bits < 16 then t else { t with host := { t.host with reply := none } }

end Sys2Proof.Machine
end

