-- ==== Sys2Proof/Machine/ChargeRequests.lean ====
section
/-! DEFINITION. The requests of the meter and the supply controller: GRANT (R72), APPORTION (R76), RESERVE (R32). -/

namespace Sys2Proof.Machine

open Sys2Proof

/-- The data of a GRANT reply: the moved amount, the allowance, the pool and the record's state. -/
def grantBytes (moved : Nat) (i : Idx) (s : State) : List Byte :=
  match s.rec? i with
  | none => []
  | some r => beBytes 4 moved ++ beBytes 4 r.allowance ++ beBytes 4 s.meter.pool ++ [r.st.byte]

/-- GRANT at its owner (R72). -/
def grantOwner (index : Byte) (amount : Nat) (s : State) : Answer :=
  match idxOf index with
  | none => refuse .badRequest s
  | some i =>
    match s.rec? i with
    | none => refuse .noRecord s
    | some r =>
      let moved := grantMoves r s.meter.pool amount
      ⟨grantTo i amount s, some fun t => ⟨doneOr (decide (moved ≠ amount)), grantBytes moved i t⟩⟩

/-- GRANT. -/
def execGrant (fr : Framing) (index : Byte) (amount : BitVec 32) (s : State) : Host.Outcome State Fault Refusal :=
  .next (request fr 5 (grantOwner index amount.toNat) s)

/-- The mark is set with its awaiting note, and the request buffer keeps the request (R74, R76). -/
def awaitApportion (s : State) : State :=
  { s with meter := { s.meter with mark := .awaited }, host := { s.host with request := [0x06, 0x00] } }

/-- APPORTION at its owner (R76): the reply waits for the apportionment. -/
def apportionOwner (s : State) : Answer :=
  match s.supply.q with
  | none => refuse .notSet s
  | some _ => ⟨awaitApportion s, none⟩

/-- APPORTION. -/
def execApportion (fr : Framing) (s : State) : Host.Outcome State Fault Refusal := .next (request fr 0 apportionOwner s)

/-- The steps of a RESERVE (R32): Q, the latch and its run, the evaluation. -/
def reserveWork (q : Nat) (s : State) : State :=
  evaluateReserve { s with supply := { s.supply with q := some q, latch := false, uvRun := 0 } }

/-- RESERVE at its owner (R32). -/
def reserveOwner (q : Nat) (s : State) : Answer := ⟨reserveWork q s, some fun t => ⟨.done, [t.supply.mode.byte]⟩⟩

/-- RESERVE. -/
def execReserve (fr : Framing) (q : BitVec 32) (s : State) : Host.Outcome State Fault Refusal :=
  .next (request fr 4 (reserveOwner q.toNat) s)

end Sys2Proof.Machine
end

