-- ==== Sys2Proof/Machine/HostRequests.lean ====
section
/-! DEFINITION. The host port's own requests and transactions: STATE, PORT, NEXT, CLEAR, READ, the status poll, a
malformed frame, and power-on reset (R64, R173 to R183). -/

namespace Sys2Proof.Machine

open Sys2Proof

/-- STATE at its owner (R179). -/
def stateOwner (sect start : Byte) (s : State) : Answer :=
  match s.stateView sect.toNat start.toNat with
  | none => refuse .badRequest s
  | some data => answer ⟨.done, data⟩ s

/-- STATE. -/
def execState (fr : Framing) (sect start : Byte) (s : State) : Host.Outcome State Fault Refusal :=
  .next (request fr 2 (stateOwner sect start) s)

/-- PORT at its owner (R64). -/
def portOwner (port : Byte) (s : State) : Answer :=
  match portOfByte port with
  | none => refuse .badPort s
  | some p => answer ⟨.done, s.portView p⟩ s

/-- PORT. -/
def execPort (fr : Framing) (port : Byte) (s : State) : Host.Outcome State Fault Refusal :=
  .next (request fr 1 (portOwner port) s)

/-- The flags of a record are returned and cleared, REPEAT with them (R181). -/
def clearFlags (i : Idx) (s : State) : State := updRec i (fun r => { r with flags := 0, rep := false }) s

/-- NEXT at its owner (R181): the device flags, or else the lowest record of the attention set. -/
def nextOwner (s : State) : Answer :=
  if s.dev.any then ⟨{ s with dev := DevFlags.clear }, some fun _ => ⟨.done, [255, s.dev.byte]⟩⟩
  else
    match s.firstAttention with
    | none => refuse .none s
    | some i =>
      match s.rec? i with
      | none => refuse .none s
      | some r => ⟨clearFlags i s, some fun _ => ⟨.done, nextBytes i r⟩⟩

/-- NEXT. -/
def execNext (fr : Framing) (s : State) : Host.Outcome State Fault Refusal := .next (request fr 0 nextOwner s)

/-- A cell as CLEAR leaves it (R46): its reset values, but for the last scan current. -/
def Cell.cleared (c : Cell) : Cell := { Cell.reset with lastScan := c.lastScan }

/-- The steps of CLEAR (R182). What it keeps is not named. -/
def clearWork (s : State) : State :=
  let s := cutLine .b (cutLine .a s)
  let s := { s with
    slots := Vector.replicate 64 none
    dev := DevFlags.clear
    meter := { s.meter with pool := 0 }
    arbiter := ⟨[], []⟩
    link := { s.link with queue := [], engA := none, engB := none }
    schedule := [] }
  allPorts.foldl (fun s p => updCell p Cell.cleared s) s

/-- CLEAR at its owner (R182). -/
def clearOwner (s : State) : Answer := ⟨clearWork s, some fun _ => ⟨.done, []⟩⟩

/-- CLEAR. -/
def execClear (fr : Framing) (s : State) : Host.Outcome State Fault Refusal := .next (request fr 0 clearOwner s)

/-- READ (R177). -/
def execRead (bits : Nat) (s : State) : Host.Outcome State Fault Refusal := .next (live (readReply bits) s)

/-- A status poll (R173). -/
def execStatusPoll (bits : Nat) (s : State) : Host.Outcome State Fault Refusal := .next (live (pollStatus bits) s)

/-- A frame that fails the framing check (R175): taken and answered BAD_REQUEST, or discarded while BUSY is shown. -/
def rejectFrame (s : State) : State :=
  let s := risingEdge s
  if s.host.busy then discardRequest s else completeRequest ⟨.badRequest, []⟩ (takeRequest s)

/-- A malformed request frame (R175). -/
def execMalformedRequestFrame (_bytes : List Byte) (_extra : Nat) (s : State) : Host.Outcome State Fault Refusal :=
  .next (live rejectFrame s)

/-- Power-on reset (R183): every piece of state takes its power-on value. While NRST or the brown-out monitor holds the
part, `inReset` is set. The waiting commands are the model's own, and so is the count of free values taken. -/
def powerOn (holding : Bool) (s : State) : State :=
  { State.reset with
    inReset := holding
    link := { State.reset.link with readings := s.link.readings }
    pending := s.pending }

/-- Power-on reset, held or released. -/
def execPowerOnReset (holding : Bool) (s : State) : Host.Outcome State Fault Refusal := .next (powerOn holding s)

end Sys2Proof.Machine
end

