-- ==== Sys2Proof/Machine/LinkEvents.lean ====
section
/-! DEFINITION. The events of a link engine's attempt (R104 to R115, R123) and the completions (R124). -/

namespace Sys2Proof.Machine

open Sys2Proof

/-- The engine is engaged, in the phase, and its exchange has not ended. -/
def State.attemptIn (s : State) (e : Engine) (ph : ExPhase) : Bool :=
  (s.engine e).any fun g => decide (g.phase = ph) && g.outcome.isNone

/-- The engine's receiver can find a start bit (R110): it listens, on a port whose drive is not OFF. -/
def State.hears (s : State) (e : Engine) : Bool :=
  s.attemptIn e .listening && (s.engine e).any fun g => decide (s.driveOn g.port ≠ .off)

/-! ### Sending and guard -/

/-- The frame is out, its last bits in the form of the port's present level: the engine enters LISTENING (R100, R105,
R106, R110, R113). -/
def frameDone (e : Engine) (s : State) : State :=
  if s.attemptIn e .sending then
    match s.engine e with
    | some g =>
      setLine e (g.sent ++ g.bitsLeft (s.driveOn g.port)) (setEngine e (some { g.fresh with phase := .listening }) s)
    | none => s
  else s

/-- The frame's check character has been sent. -/
def execFrameSent (e : Engine) (s : State) : Host.Outcome State Fault Refusal := .next (live (frameDone e) s)

/-- The guard ends: the next attempt begins SENDING (R114, R123). -/
def guardDone (e : Engine) (s : State) : State :=
  if s.attemptIn e .guarding then
    updEngine e (fun g => { g.fresh with phase := .sending, attempts := g.attempts + 1 }) s
  else s

/-- The guard's 20 bit times have run. -/
def execGuardEnd (e : Engine) (s : State) : Host.Outcome State Fault Refusal := .next (live (guardDone e) s)

/-! ### Receiving -/

/-- What an attempt ends with when it meets no start bit: TIMEOUT before the first character, BADREPLY behind one (R111,
R112). -/
def Engagement.unmet (g : Engagement) : ExOutcome := if g.rx.isEmpty then .timeout else .badReply

/-- A timer of a listening engine runs out. While a start bit is unconfirmed the verdict waits: a false start then ends
the attempt (R111, R112). -/
def timerOut (e : Engine) (g : Engagement) (s : State) : State :=
  if g.midChar then setEngine e (some { g with ranOut := true }) s else failAttempt e g.unmet s

/-- The window closes with no start bit confirmed (R111). Behind a character it plays no further part. -/
def windowClosed (e : Engine) (s : State) : State :=
  if s.attemptIn e .listening then
    match s.engine e with
    | some g => if g.rx.isEmpty then timerOut e g s else s
    | none => s
  else s

/-- The reply window closes. -/
def execReplyWindowTimeout (e : Engine) (s : State) : Host.Outcome State Fault Refusal :=
  .next (live (windowClosed e) s)

/-- 22 bit times pass behind a character with no start bit confirmed (R112). -/
def gapClosed (e : Engine) (s : State) : State :=
  if s.attemptIn e .listening then
    match s.engine e with
    | some g => if g.rx.isEmpty then s else timerOut e g s
    | none => s
  else s

/-- The inter-character gap runs out. -/
def execInterCharacterGapTimeout (e : Engine) (s : State) : Host.Outcome State Fault Refusal :=
  .next (live (gapClosed e) s)

/-- What the characters received so far make of a REPORT. -/
inductive RxStep where
  | more (rx : List Byte)
  | bad
  | accepted (r : Report)
deriving DecidableEq, Repr

/-- A received character in its place (R112): 1 the REPORT kind, 2 the tag, 5 the check. Characters 3 and 4 may hold
any value. -/
def placeChar (tag : Byte) (rx : List Byte) (v : Byte) : RxStep :=
  match rx with
  | [] => if v = reportKind then .more [v] else .bad
  | [a] => if v = tag then .more [a, v] else .bad
  | [a, b] => .more [a, b, v]
  | [a, b, c] => .more [a, b, c, v]
  | [a, b, c, d] => if v = a ^^^ b ^^^ c ^^^ d then .accepted (reportOf c d) else .bad
  | _ => .bad

/-- The REPORT judged character by character as each stop bit is judged (R112). What follows its end is ignored. -/
def receive (d : Drive) (threshold : Nat) (tag : Byte) : List Byte → List RxChar → RxStep
  | rx, [] => .more rx
  | rx, c :: cs =>
    match judgeChar d threshold c with
    | .falseStart => receive d threshold tag rx cs
    | .framingError => .bad
    | .parityError => .bad
    | .received v =>
      match placeChar tag rx v with
      | .more rx' => receive d threshold tag rx' cs
      | .bad => .bad
      | .accepted r => .accepted r

/-- A start bit of a list of characters proves false after the window or the gap ran out (R111, R112). -/
def lateFalseStart (d : Drive) (g : Engagement) (chars : List RxChar) : Bool :=
  g.ranOut && chars.head?.any fun c => decide (judgeChar d g.threshold c = .falseStart)

/-- Upstream characters reach a listening engine. `begun`: a further start bit has begun. -/
def takeChars (e : Engine) (chars : List RxChar) (begun : Bool) (s : State) : State :=
  if s.hears e then
    match s.engine e with
    | none => s
    | some g =>
      let d := s.driveOn g.port
      if lateFalseStart d g chars then failAttempt e g.unmet s
      else
        match receive d g.threshold g.tag g.rx chars with
        | .more rx =>
          let kept := chars.isEmpty
          setEngine e (some { g with
            rx := rx, midChar := begun || (kept && g.midChar), ranOut := kept && g.ranOut }) s
        | .bad => failAttempt e .badReply s
        | .accepted r => succeedAttempt e r s
  else s

/-- Characters of a REPORT are received. -/
def execReportReceived (e : Engine) (chars : List RxChar) (begun : Bool) (s : State) :
    Host.Outcome State Fault Refusal :=
  .next (live (takeChars e chars begun) s)

/-- A start bit that judges mark (R104, R111, R112): the receiver looks again, or the attempt ends where the window or
the gap has run out. -/
def discardStart (e : Engine) (start : BitSample) (closed : Bool) (s : State) : State :=
  if s.hears e then
    match s.engine e with
    | none => s
    | some g =>
      if judgeMark (s.driveOn g.port) g.threshold start then
        if closed || g.ranOut then failAttempt e g.unmet s
        else setEngine e (some { g with midChar := false }) s
      else s
  else s

/-- A false start. -/
def execFalseStart (e : Engine) (start : BitSample) (closed : Bool) (s : State) : Host.Outcome State Fault Refusal :=
  .next (live (discardStart e start closed) s)

/-! ### Completions (R124, R127 to R130) -/

/-- The completion of an exchange of one kind, if it is due. -/
def completeKind (k : ExKind) (e : Engine) (s : State) : State :=
  if (s.engine e).any fun g => decide (g.ex.kind = k) then takeEvent (.complete e) s else s

/-- A WAKE completes (R127). -/
def execWakeComplete (e : Engine) (s : State) : Host.Outcome State Fault Refusal :=
  .next (live (completeKind .wake e) s)

/-- A QUERY completes (R128). -/
def execQueryComplete (e : Engine) (s : State) : Host.Outcome State Fault Refusal :=
  .next (live (completeKind .query e) s)

/-- A REST completes (R129). -/
def execRestComplete (e : Engine) (s : State) : Host.Outcome State Fault Refusal :=
  .next (live (completeKind .rest e) s)

/-- A SHED completes (R130). -/
def execShedComplete (e : Engine) (s : State) : Host.Outcome State Fault Refusal :=
  .next (live (completeKind .shed e) s)

end Sys2Proof.Machine
end

