-- ==== Sys2Proof/Machine/ScheduleRequests.lean ====
section
/-! DEFINITION. The requests of the appointment list: BOOK, CANCEL, SCHEDULE (R152 to R155). -/

namespace Sys2Proof.Machine

open Sys2Proof

/-- A kind and a target as check 1 of R152 reads them. -/
def bookingOf (kind target : Byte) : Option (ApptKind × Target) :=
  match apptKindOf kind, targetOf target with
  | some k, some t => if targetSuits k t then some (k, t) else none
  | _, _ => none

/-- The target names a free slot (check 2 of R152). -/
def State.targetFree (s : State) : Target → Bool
  | .record i => (s.rec? i).isNone
  | .all => false
  | .none => false

/-- The appointment of a kind and target in the list (R151: at most one). -/
def State.standing (s : State) (k : ApptKind) (t : Target) : Option Appointment :=
  s.schedule.find? (Appointment.same k t)

/-- The appointment of a kind and target leaves the list. -/
def removeAppointment (k : ApptKind) (t : Target) (s : State) : State :=
  { s with schedule := s.schedule.filter fun a => !a.same k t }

/-- The appointment that a BOOK makes (R152). -/
def bookedAt (now : Stamp) (k : ApptKind) (t : Target) (delay period : Nat) : Appointment :=
  ⟨now + BitVec.ofNat 32 (clampDelay delay), k, t, clampPeriod period⟩

/-- An accepted BOOK: an appointment of the same target and kind is replaced (R153), and the new one is placed. -/
def bookWork (k : ApptKind) (t : Target) (delay period : Nat) (s : State) : State :=
  placeAppointment (bookedAt s.clock k t delay period) (removeAppointment k t s)

/-- BOOK at its owner (R152). -/
def bookOwner (kind target : Byte) (delay period : Nat) (s : State) : Answer :=
  match bookingOf kind target with
  | none => refuse .badRequest s
  | some (k, t) =>
    if s.targetFree t then refuse .noRecord s
    else if 32 ≤ s.schedule.length ∧ (s.standing k t).isNone then refuse .scheduleFull s
    else
      let s' := bookWork k t delay period s
      let clamped := decide (clampDelay delay ≠ delay) || decide (clampPeriod period ≠ period)
      ⟨s', some fun u => ⟨doneOr clamped, stampBytes (bookedAt s.clock k t delay period).due ++
        [byteOf (u.positionOf k t), byteOf u.schedule.length]⟩⟩

/-- BOOK. -/
def execBook (fr : Framing) (kind target : Byte) (delay period : BitVec 32) (s : State) :
    Host.Outcome State Fault Refusal :=
  .next (request fr 10 (bookOwner kind target delay.toNat period.toNat) s)

/-- CANCEL at its owner (R154). -/
def cancelOwner (kind target : Byte) (s : State) : Answer :=
  match bookingOf kind target with
  | none => refuse .badRequest s
  | some (k, t) =>
    match s.standing k t with
    | none => refuse .noAppointment s
    | some a => ⟨removeAppointment k t s, some fun _ => ⟨.done, stampBytes a.due ++ beBytes 4 a.period⟩⟩

/-- CANCEL. -/
def execCancel (fr : Framing) (kind target : Byte) (s : State) : Host.Outcome State Fault Refusal :=
  .next (request fr 2 (cancelOwner kind target) s)

/-- SCHEDULE at its owner (R155). -/
def scheduleOwner (position : Byte) (s : State) : Answer :=
  if 31 < position.toNat then refuse .badRequest s
  else
    match s.schedule[position.toNat]? with
    | none => refuse .noAppointment s
    | some a => answer ⟨.done, s.appointmentView a⟩ s

/-- SCHEDULE. -/
def execSchedule (fr : Framing) (position : Byte) (s : State) : Host.Outcome State Fault Refusal :=
  .next (request fr 1 (scheduleOwner position) s)

end Sys2Proof.Machine
end

