-- ==== Sys2Proof/Machine/SendRequests.lean ====
section
/-! DEFINITION. The host SEND of each kind (R132) and the TEST request (R164). -/

namespace Sys2Proof.Machine

open Sys2Proof

/-- The record's state allows the kind (check 4 of R132). -/
def sendAllowed : ExKind → RState → Bool
  | .wake, st => decide (st = .resting ∨ st = .silent)
  | .query, st => decide (st = .carrying ∨ st = .fed ∨ st = .waiting ∨ st = .lapsed)
  | .rest, st => decide (st = .carrying ∨ st = .fed ∨ st = .waiting ∨ st = .lapsed)
  | .shed, st => decide (st = .fed ∨ st = .carrying)

/-- The argument of a SEND (R132): 0, or the level of a SHED clamped to 1..3. -/
def sendArg : ExKind → Nat → Nat
  | .shed, n => clampTo 1 3 n
  | .wake, _ => 0
  | .query, _ => 0
  | .rest, _ => 0

/-- The argument of a SHED is clamped. -/
def sendClamped (k : ExKind) (n : Nat) : Bool := decide (k = .shed) && decide (clampTo 1 3 n ≠ n)

/-- The data of a SEND reply: the state, and the pending kind and origin. -/
def sendBytes (i : Idx) (s : State) : List Byte :=
  match s.rec? i with
  | none => []
  | some r => r.st.byte :: optBytes Exchange.shown r.pend

/-- The effect of an accepted SEND (R132): a WAKE makes the record WAKING, and the exchange is asked for. -/
def sendWork (k : ExKind) (n : Nat) (i : Idx) (s : State) : State :=
  ask i ⟨k, sendArg k n, .request⟩ (if k = .wake then enter .waking i s else s)

/-- The reply status of an accepted SEND (R132). -/
def sendStatus (k : ExKind) (n : Nat) (r : Record) : ReplyStatus :=
  if mergeDrops r.pend ⟨k, sendArg k n, .request⟩ then .merged else doneOr (sendClamped k n)

/-- SEND at its owner, in the order of R132. -/
def sendOwner (k : ExKind) (index arg : Byte) (s : State) : Answer :=
  match idxOf index with
  | none => refuse .badRequest s
  | some i =>
    match s.rec? i with
    | none => refuse .noRecord s
    | some r =>
      if s.supply.mode = .mains ∨ s.supply.mode = .depleted then refuse .badState s
      else if sendAllowed k r.st then
        ⟨sendWork k arg.toNat i s, some fun t => ⟨sendStatus k arg.toNat r, sendBytes i t⟩⟩
      else refuse .badState s

/-- SEND WAKE. -/
def execSendWake (fr : Framing) (index arg : Byte) (s : State) : Host.Outcome State Fault Refusal :=
  .next (request fr 3 (sendOwner .wake index arg) s)

/-- SEND QUERY. -/
def execSendQuery (fr : Framing) (index arg : Byte) (s : State) : Host.Outcome State Fault Refusal :=
  .next (request fr 3 (sendOwner .query index arg) s)

/-- SEND REST. -/
def execSendRest (fr : Framing) (index arg : Byte) (s : State) : Host.Outcome State Fault Refusal :=
  .next (request fr 3 (sendOwner .rest index arg) s)

/-- SEND SHED. -/
def execSendShed (fr : Framing) (index arg : Byte) (s : State) : Host.Outcome State Fault Refusal :=
  .next (request fr 3 (sendOwner .shed index arg) s)

/-- TEST at its owner (R164). -/
def testOwner (index : Byte) (s : State) : Answer :=
  match idxOf index with
  | none => refuse .badRequest s
  | some i =>
    match s.rec? i with
    | none => refuse .noRecord s
    | some _ =>
      if s.testEligible i then
        ⟨enterTest i s, some fun _ => ⟨.done, [idxByte i, RState.testing.byte, TestPhase.q0.byte]⟩⟩
      else refuse .badState s

/-- TEST. -/
def execTest (fr : Framing) (index : Byte) (s : State) : Host.Outcome State Fault Refusal :=
  .next (request fr 1 (testOwner index) s)

end Sys2Proof.Machine
end

