-- ==== Sys2Proof/Machine/SettingRequests.lean ====
section
/-! DEFINITION. SET of each setting and GET (R178, and the rule of each setting's owner). -/

namespace Sys2Proof.Machine

open Sys2Proof

/-- The reply to a SET (R178): DONE, or CLAMPED where the stored value is not the value given, with the value
stored. -/
def setReply (given stored : Nat) : Reply := ⟨doneOr (decide (stored ≠ given)), beBytes 4 stored⟩

/-- A SET whose value is clamped to a range and stored. -/
def setClamped (lo hi v : Nat) (store : Nat → Settings → Settings) (s : State) : Answer :=
  let w := clampTo lo hi v
  ⟨{ s with cfg := store w s.cfg }, some fun _ => setReply v w⟩

/-! ### The bus cap (R83, R94, R95) -/

/-- The next record to be released for a lowered cap (R94): the most recently admitted one of the lowest class. -/
def State.capVictim (s : State) : Option Idx :=
  let newest := s.arbiter.feedList.reverse
  match newest.find? (s.ofClass .deferred) with
  | some i => some i
  | none =>
    match newest.find? (s.ofClass .standard) with
    | some i => some i
    | none => newest.find? (s.ofClass .lifeline)

/-- The releases of R94, with the records released so far, first released first. `n` bounds their number. -/
def capReleases : Nat → List Idx → State → State × List Idx
  | 0, done, s => (s, done)
  | n + 1, done, s =>
    if s.budget ≤ s.cfg.busCap then (s, done)
    else
      match s.capVictim with
      | none => (s, done)
      | some i => capReleases n (done ++ [i]) (enter .waiting i (releaseFeed i s))

/-- The released records join the heads of their groups, the first released foremost (R95). -/
def rejoin (l : List Idx) (s : State) : State := l.foldr joinHead s

/-- A changed bus cap (R83): it is stored, fed records are released while the budget exceeds it, CAPSHED is set if one
was, and an admission decision is called for. -/
def changeBusCap (cap : Nat) (s : State) : State :=
  let s := { s with cfg := { s.cfg with busCap := cap } }
  let (t, released) := capReleases s.arbiter.feedList.length [] s
  let t := rejoin released t
  callDecision (if released.isEmpty then t else { t with dev := { t.dev with capshed := true } })

/-- SET of the bus cap at its owner (R83). -/
def busCapOwner (v : Nat) (s : State) : Answer :=
  let w := clampTo 500 20000 v
  ⟨if w = s.cfg.busCap then s else changeBusCap w s, some fun _ => setReply v w⟩

/-- SET bus cap. -/
def execSetBusCap (fr : Framing) (value : BitVec 32) (s : State) : Host.Outcome State Fault Refusal :=
  .next (request fr 5 (busCapOwner value.toNat) s)

/-! ### The supply controller's settings (R29, R30, R33, R35) -/

/-- SET of H (R33): K is lowered with it. -/
def holdBackOwner (v : Nat) (s : State) : Answer :=
  ⟨{ s with cfg := { s.cfg with holdBack := v, cutoff := min s.cfg.cutoff v } }, some fun _ => setReply v v⟩

/-- SET hold-back H. -/
def execSetH (fr : Framing) (value : BitVec 32) (s : State) : Host.Outcome State Fault Refusal :=
  .next (request fr 5 (holdBackOwner value.toNat) s)

/-- SET of K (R33): clamped to H. -/
def cutoffOwner (v : Nat) (s : State) : Answer :=
  setClamped 0 s.cfg.holdBack v (fun w g => { g with cutoff := w }) s

/-- SET cutoff K. -/
def execSetK (fr : Framing) (value : BitVec 32) (s : State) : Host.Outcome State Fault Refusal :=
  .next (request fr 5 (cutoffOwner value.toNat) s)

/-- SET undervoltage floor (R35), in steps of 0.1 V. -/
def execSetUndervoltageFloor (fr : Framing) (value : BitVec 32) (s : State) : Host.Outcome State Fault Refusal :=
  .next (request fr 5 (setClamped 100 400 value.toNat (fun w g => { g with uvFloor := w })) s)

/-- SET of the mains-fail debounce (R29, R30): a limit raised above the count ends an outage hold. -/
def failDebounceOwner (v : Nat) (s : State) : Answer :=
  let w := clampTo 1 60 v
  ⟨{ s with
      cfg := { s.cfg with failDebounce := w }
      supply := { s.supply with held := s.supply.held && decide (w * 10 ≤ s.supply.failCount) } },
    some fun _ => setReply v w⟩

/-- SET mains-fail debounce. -/
def execSetMainsFailDebounce (fr : Framing) (value : BitVec 32) (s : State) : Host.Outcome State Fault Refusal :=
  .next (request fr 5 (failDebounceOwner value.toNat) s)

/-- SET mains-return debounce (R29). -/
def execSetMainsReturnDebounce (fr : Framing) (value : BitVec 32) (s : State) : Host.Outcome State Fault Refusal :=
  .next (request fr 5 (setClamped 5 600 value.toNat (fun w g => { g with returnDebounce := w })) s)

/-! ### The link's, the test sequencer's and the table's settings (R4, R27, R98, R121, R163) -/

/-- SET bit-rate reload N (R98). -/
def execSetBitRateReload (fr : Framing) (value : BitVec 32) (s : State) : Host.Outcome State Fault Refusal :=
  .next (request fr 5 (setClamped 19 1279 value.toNat (fun w g => { g with reloadN := w })) s)

/-- SET reply window code (R98). -/
def execSetReplyWindowCode (fr : Framing) (value : BitVec 32) (s : State) : Host.Outcome State Fault Refusal :=
  .next (request fr 5 (setClamped 0 3 value.toNat (fun w g => { g with windowCode := w })) s)

/-- SET wake window (R98). -/
def execSetWakeWindow (fr : Framing) (value : BitVec 32) (s : State) : Host.Outcome State Fault Refusal :=
  .next (request fr 5 (setClamped 1 30 value.toNat (fun w g => { g with wakeWindow := w })) s)

/-- SET retry limit (R121). -/
def execSetRetryLimit (fr : Framing) (value : BitVec 32) (s : State) : Host.Outcome State Fault Refusal :=
  .next (request fr 5 (setClamped 0 3 value.toNat (fun w g => { g with retryLimit := w })) s)

/-- SET test window (R163). -/
def execSetTestWindow (fr : Framing) (value : BitVec 32) (s : State) : Host.Outcome State Fault Refusal :=
  .next (request fr 5 (setClamped 10 600 value.toNat (fun w g => { g with testWindow := w })) s)

/-- SET default ceiling (R4). -/
def execSetDefaultCeiling (fr : Framing) (value : BitVec 32) (s : State) : Host.Outcome State Fault Refusal :=
  .next (request fr 5 (setClamped 50 1000 value.toNat (fun w g => { g with defaultCeiling := w })) s)

/-- SET of the attention mask (R27, R178): the low byte, and the reply carries it. -/
def maskOwner (v : BitVec 32) (s : State) : Answer :=
  let w := v.setWidth 8
  ⟨{ s with cfg := { s.cfg with mask := w } }, some fun _ => ⟨.done, beBytes 4 w.toNat⟩⟩

/-- SET attention mask. -/
def execSetAttentionMask (fr : Framing) (value : BitVec 32) (s : State) : Host.Outcome State Fault Refusal :=
  .next (request fr 5 (maskOwner value) s)

/-! ### The class policies (R134, R135) -/

/-- SET of a policy field (R135). A number that names none is refused. -/
def policyOwner (number : Byte) (v : Nat) (s : State) : Answer :=
  let n := number.toNat
  if 16 ≤ n ∧ n ≤ 42 then
    let c := policyClass n
    let w := clampField v ((n - 16) % 9)
    let row := (s.cfg.policy c).setField w ((n - 16) % 9)
    ⟨{ s with cfg := s.cfg.setPolicy c row }, some fun _ => setReply v w⟩
  else refuse .badRequest s

/-- SET of a class policy field. -/
def execSetClassPolicy (fr : Framing) (number : Byte) (value : BitVec 32) (s : State) :
    Host.Outcome State Fault Refusal :=
  .next (request fr 5 (policyOwner number value.toNat) s)

/-! ### GET -/

/-- GET at the setting's owner (R178). -/
def getOwner (number : Byte) (s : State) : Answer :=
  match s.cfg.value number.toNat with
  | none => refuse .badRequest s
  | some v => answer ⟨.done, beBytes 4 v⟩ s

/-- GET. -/
def execGet (fr : Framing) (number : Byte) (s : State) : Host.Outcome State Fault Refusal :=
  .next (request fr 1 (getOwner number) s)

end Sys2Proof.Machine
end

