-- ==== Sys2Proof/Machine/TableRequests.lean ====
section
/-! DEFINITION. The requests of the terminal table: ENROLL, FIND, the AMEND changes, RETIRE (chapter 1). -/

namespace Sys2Proof.Machine

open Sys2Proof

/-! ### ENROLL (R12, R13) -/

/-- The state that a record with a port takes by the mode (R13, R22, R23). -/
def enterByMode (i : Idx) (s : State) : State :=
  match s.supply.mode with
  | .mains => s
  | .outage => ask i ⟨.wake, 0, .policy⟩ (enter .waking i s)
  | .critical => ask i ⟨.wake, 0, .policy⟩ (enter .waking i s)
  | .depleted => enter .silent i s

/-- A record as ENROLL creates it (R3), before the entry of R13. Its reload value is 0 and its mode one-shot:
DESIGN CHOICE, assumption log entry 16. -/
def newRecord (s : State) (identity : Identity) (cls : Cls) (port : Option Port) : Record where
  identity := identity
  port := port
  cls := cls
  st := .idle
  entered := s.clock
  ceiling := s.cfg.defaultCeiling
  admitted := none
  allowance := 0
  cap := none
  soc := none
  load := none
  call := false
  batteryFault := false
  selfMinutes := none
  lastSeen := none
  cd := ⟨0, 0, false, false⟩
  pend := none
  test := none
  lastOutcome := none
  flags := 0
  rep := false
  testOutcome := none

/-- The port of an ENROLL, when it lies in 1..48 or is not given. -/
def portGiven : Option Byte → Option (Option Port)
  | none => some none
  | some b => (portOfByte b).map some

/-- The port is bound to a record. -/
def State.portHeld (s : State) : Option Port → Bool
  | none => false
  | some p => (s.boundAt p).isSome

/-- A record is created in a slot (R12, R13). -/
def createRecord (i : Idx) (identity : Identity) (cls : Cls) (port : Option Port) (s : State) : State :=
  let t := setRec i (some (newRecord s identity cls port)) s
  match port with
  | none => t
  | some _ => enterByMode i t

/-- ENROLL at its owner, in the order of R12. -/
def enrollOwner (identity : Identity) (cls : Byte) (port : Option Byte) (s : State) : Answer :=
  match clsOf cls with
  | none => refuse .badRequest s
  | some c =>
    if identity = 0 then refuse .badRequest s
    else
      match portGiven port with
      | none => refuse .badPort s
      | some pt =>
        if (s.withIdentity identity).isSome then refuse .dupIdentity s
        else if s.portHeld pt then refuse .portTaken s
        else
          match s.freeSlot with
          | none => refuse .tableFull s
          | some i => ⟨createRecord i identity c pt s, some fun _ => ⟨.done, [idxByte i]⟩⟩

/-- ENROLL. -/
def execEnroll (fr : Framing) (identity : Identity) (cls : Byte) (port : Option Byte) (s : State) :
    Host.Outcome State Fault Refusal :=
  .next (request fr (9 + port.toList.length) (enrollOwner identity cls port) s)

/-! ### FIND (R14, R15) -/

/-- The record of a slot, as FIND answers it. -/
def findAt (i : Option Idx) (s : State) : Answer :=
  match i with
  | none => refuse .noRecord s
  | some i =>
    match s.rec? i with
    | none => refuse .noRecord s
    | some _ => answer ⟨.done, s.findView i⟩ s

/-- FIND at its owner (R14). -/
def findOwner (sel : Selector) (s : State) : Answer :=
  match sel with
  | .index b =>
    match idxOf b with
    | none => refuse .badRequest s
    | some i => findAt (some i) s
  | .identity v => if v = 0 then refuse .badRequest s else findAt (s.withIdentity v) s
  | .port b =>
    match portOfByte b with
    | none => refuse .badPort s
    | some p => findAt (s.boundAt p) s
  | .other _ => refuse .badRequest s

/-- FIND. -/
def execFind (fr : Framing) (sel : Selector) (s : State) : Host.Outcome State Fault Refusal :=
  .next (request fr sel.params.length (findOwner sel) s)

/-! ### AMEND (R16 to R23) -/

/-- The ceiling that the changes give. -/
def ceilingIn (l : List AmendChange) : Option Nat :=
  l.findSome? fun c =>
    match c with
    | .ceiling v => some v.toNat
    | _ => none

/-- The cap change that the changes give: a value, or its removal. -/
def capIn (l : List AmendChange) : Option (Option Nat) :=
  l.findSome? fun c =>
    match c with
    | .cap v => some (some v.toNat)
    | .removeCap => some none
    | _ => none

/-- The class byte that the changes give. -/
def classIn (l : List AmendChange) : Option Byte :=
  l.findSome? fun c =>
    match c with
    | .cls v => some v
    | _ => none

/-- The port byte that the changes give. -/
def portIn (l : List AmendChange) : Option Byte :=
  l.findSome? fun c =>
    match c with
    | .port v => some v
    | _ => none

/-- The changes hold an unbind. -/
def unbindIn (l : List AmendChange) : Bool := l.contains .unbind

/-- The changes hold a clear-fault. -/
def faultIn (l : List AmendChange) : Bool := l.contains .clearFault

/-- Which of the five changes of R16 a change code gives: class, ceiling, cap, port, clear-fault. -/
def AmendChange.slot : AmendChange → Nat
  | .cls _ => 0
  | .ceiling _ => 1
  | .cap _ => 2
  | .removeCap => 2
  | .port _ => 3
  | .unbind => 3
  | .clearFault => 4

/-- The changes are well given (check 1 of R16): each once, a class of the three, and no port change beside a
clear-fault. -/
def changesFit (l : List AmendChange) : Bool :=
  decide ((l.map AmendChange.slot).Nodup) && (classIn l).all (fun b => (clsOf b).isSome) &&
    !(faultIn l && (unbindIn l || (portIn l).isSome))

/-- The ceiling is stored, and a WAITING record asks for a decision (R17). -/
def amendCeilingWork (v : Nat) (i : Idx) (s : State) : State :=
  let t := updRec i (fun r => { r with ceiling := clampTo 50 1000 v }) s
  if t.isIn .waiting i then callDecision t else t

/-- The cap is set or removed; an allowance above it is cut to the pool, and a cut to 0 makes a FED or WAITING record
lapse (R18). -/
def amendCapWork (cap : Option Nat) (i : Idx) (s : State) : State :=
  match s.rec? i with
  | none => s
  | some r =>
    match cap with
    | none => setRec i (some { r with cap := none }) s
    | some c =>
      if c < r.allowance then
        let t := setRec i (some { r with cap := some c, allowance := c }) s
        let t := { t with meter := { t.meter with pool := t.meter.pool + (r.allowance - c) } }
        if c = 0 ∧ (r.st = .fed ∨ r.st = .waiting) then lapse i t else t
      else setRec i (some { r with cap := some c }) s

/-- The orders of CRITICAL for a record that was LIFELINE (R20). -/
def criticalClassChange (i : Idx) (s : State) : State :=
  match s.stOf i with
  | some .fed => order .rest i (enter .carrying i (releaseFeed i s))
  | some .waiting => order .rest i (enter .carrying i (leaveQueue i s))
  | some .testing => order .rest i (enter .carrying i (setTested i .abandoned s))
  | some .carrying => order .rest i s
  | some .lapsed => order .rest i s
  | _ => s

/-- A different class is stored, a WAITING record moves to the tail of its new group (R19), and in CRITICAL the orders
of R20 follow. -/
def amendClassWork (c : Cls) (i : Idx) (s : State) : State :=
  match s.rec? i with
  | none => s
  | some r =>
    if r.cls = c then s
    else
      let t := setRec i (some { r with cls := c }) s
      let t := if r.st = .waiting then joinTail i (leaveQueue i t) else t
      if s.supply.mode = .critical ∧ r.cls = .lifeline then criticalClassChange i t else t

/-- A cell of a port that its record gives up: OFF, presence UNKNOWN, fault count 0 (R21, R24). -/
def Cell.abandon (c : Cell) : Cell := { Cell.toLevel 0 .off c with faultCount := 0 }

/-- The exchanges, feed and queue membership of a record that leaves its port (R21, R24). -/
def withdraw (i : Idx) (s : State) : State := leaveService i (dropPending i (abortInFlight .aborted i s))

/-- The unbind of a record (R21). -/
def unbindWork (i : Idx) (s : State) : State :=
  match s.portOf i with
  | none => s
  | some p =>
    let t := withdraw i s
    let t := setCountdown i Countdown.stop (enter .idle i (updRec i (fun r => { r with port := none }) t))
    updCell p Cell.abandon t

/-- A record is bound to a port, after an unbind from another one (R22). The port it holds already changes nothing. -/
def bindWork (p : Port) (i : Idx) (s : State) : State :=
  if s.portOf i = some p then s
  else enterByMode i (updRec i (fun r => { r with port := some p }) (unbindWork i s))

/-- The fault count of the record's port is zeroed and the record moves by the mode (R23). -/
def clearFaultWork (i : Idx) (s : State) : State :=
  match s.portOf i with
  | none => s
  | some p => enterByMode i (updCell p (fun c => { c with faultCount := 0 }) s)

/-- The changes of an accepted AMEND, in the order of R16. -/
def amendWork (l : List AmendChange) (i : Idx) (s : State) : State :=
  let s := match ceilingIn l with
    | some v => amendCeilingWork v i s
    | none => s
  let s := match capIn l with
    | some c => amendCapWork c i s
    | none => s
  let s := match (classIn l).bind clsOf with
    | some c => amendClassWork c i s
    | none => s
  let s := match (portIn l).bind portOfByte with
    | some p => bindWork p i s
    | none => s
  let s := if unbindIn l then unbindWork i s else s
  if faultIn l then clearFaultWork i s else s

/-- The port is bound to a record other than this one. -/
def State.takenByOther (s : State) (i : Idx) (p : Port) : Bool := (s.boundAt p).any fun j => decide (j ≠ i)

/-- The ceiling given is outside 50..1000 mA (R17). -/
def ceilingClamped (l : List AmendChange) : Bool := (ceilingIn l).any fun v => decide (clampTo 50 1000 v ≠ v)

/-- Checks 3 to 5 of R16, for an occupied slot. `none`: accepted. -/
def amendRefusal (l : List AmendChange) (i : Idx) (s : State) : Option ReplyStatus :=
  if (portIn l).any fun b => (portOfByte b).isNone then some .badPort
  else if ((portIn l).bind portOfByte).any (s.takenByOther i) then some .portTaken
  else if faultIn l && !s.isIn .faulted i then some .badState
  else none

/-- AMEND at its owner (R16). -/
def amendOwner (index : Byte) (l : List AmendChange) (s : State) : Answer :=
  match idxOf index with
  | none => refuse .badRequest s
  | some i =>
    if changesFit l then
      match s.rec? i with
      | none => refuse .noRecord s
      | some _ =>
        match amendRefusal l i s with
        | some st => refuse st s
        | none => ⟨amendWork l i s, some fun _ => ⟨doneOr (ceilingClamped l), []⟩⟩
    else refuse .badRequest s

/-- An AMEND frame with its changes. -/
def amendRequest (fr : Framing) (index : Byte) (l : List AmendChange) (s : State) : State :=
  request fr (amendParams index l).length (amendOwner index l) s

/-- AMEND led by a ceiling (R17), or with no change. -/
def execAmendCeiling (fr : Framing) (index : Byte) (ma : Option (BitVec 16)) (also : List AmendChange) (s : State) :
    Host.Outcome State Fault Refusal :=
  .next (amendRequest fr index (ceilingChanges ma also) s)

/-- AMEND led by a cap, or its removal (R18). -/
def execAmendCap (fr : Framing) (index : Byte) (cap : Option (BitVec 32)) (also : List AmendChange) (s : State) :
    Host.Outcome State Fault Refusal :=
  .next (amendRequest fr index (capChange cap :: also) s)

/-- AMEND led by a class (R19, R20). -/
def execAmendClass (fr : Framing) (index : Byte) (cls : Byte) (also : List AmendChange) (s : State) :
    Host.Outcome State Fault Refusal :=
  .next (amendRequest fr index (.cls cls :: also) s)

/-- AMEND led by a port number (R22). -/
def execAmendPort (fr : Framing) (index : Byte) (port : Byte) (also : List AmendChange) (s : State) :
    Host.Outcome State Fault Refusal :=
  .next (amendRequest fr index (.port port :: also) s)

/-- AMEND led by an unbind (R21). -/
def execUnbind (fr : Framing) (index : Byte) (also : List AmendChange) (s : State) :
    Host.Outcome State Fault Refusal :=
  .next (amendRequest fr index (.unbind :: also) s)

/-- AMEND led by a clear-fault (R23). -/
def execClearFault (fr : Framing) (index : Byte) (also : List AmendChange) (s : State) :
    Host.Outcome State Fault Refusal :=
  .next (amendRequest fr index (.clearFault :: also) s)

/-! ### RETIRE (R24) -/

/-- Every appointment that names the record leaves the schedule (R24, R161). -/
def dropAppointments (i : Idx) (s : State) : State :=
  { s with schedule := s.schedule.filter fun a => decide (a.target ≠ .record i) }

/-- The steps of R24, for an occupied slot. -/
def retireWork (i : Idx) (s : State) : State :=
  let port := s.portOf i
  let t := dropAppointments i (withdraw i s)
  match t.rec? i with
  | none => t
  | some r =>
    let t := { t with meter := { t.meter with pool := t.meter.pool + r.allowance } }
    let t := match port with
      | some p => updCell p Cell.abandon t
      | none => t
    setRec i none (dropDue (.expiry i) t)

/-- RETIRE at its owner. -/
def retireOwner (index : Byte) (s : State) : Answer :=
  match idxOf index with
  | none => refuse .badRequest s
  | some i =>
    match s.rec? i with
    | none => refuse .noRecord s
    | some _ => ⟨retireWork i s, some fun _ => ⟨.done, []⟩⟩

/-- RETIRE. -/
def execRetire (fr : Framing) (index : Byte) (s : State) : Host.Outcome State Fault Refusal :=
  .next (request fr 1 (retireOwner index) s)

end Sys2Proof.Machine
end

