-- ==== Sys2Proof/Machine/Tick.lean ====
section
/-! DEFINITION. The tick (R10, R65, R66, R149, R156): the clock, the scan, the countdowns, the cells' samples, the
meter's and the supply controller's work, and the events it makes due. -/

namespace Sys2Proof.Machine

open Sys2Proof

/-! ### The clock, the mark and the scan -/

/-- The reserve clock goes up by 1, modulo 2^32 (R149). -/
def advanceClock (s : State) : State := { s with clock := s.clock + 1 }

/-- A mark set before this tick is taken up by it (R75). A mark set during the tick's work waits for the next. -/
def takeUpMark (s : State) : State :=
  match s.meter.mark with
  | .clear => s
  | .set => { s with meter := { s.meter with mark := .clear, now := .set } }
  | .awaited => { s with meter := { s.meter with mark := .clear, now := .awaited } }

/-- The scan's codes are kept: the bus and voltage codes by the meter, each port's code by its cell in every drive
level (R46, R65). What else the cells' samples read of the scan is kept for their events: the bias comparators and the
ports whose sample falls in a downstream space. -/
def storeScan (scan : Scan) (s : State) : State :=
  let s := { s with
    meter := { s.meter with lastBus := scan.bus.toNat, lastVolt := scan.volt.toNat }
    tick := ⟨scan.bias, allPorts.filter (s.spaceOn scan), []⟩ }
  allPorts.foldl (fun s p => updCell p (fun c => { c with lastScan := scan.codes[p].toNat }) s) s

/-! ### Countdowns and appointments that fall due -/

/-- The countdown expires at this tick (R10): it runs and is decremented from 1 to 0. -/
def Countdown.expires (c : Countdown) : Bool := c.running && decide (c.remaining ≤ 1)

/-- A countdown after one tick (R10): a repeat is set back to its reload value, a one-shot stops. -/
def Countdown.counted (c : Countdown) : Countdown :=
  if c.running then
    if c.remaining ≤ 1 then (if c.repeats then { c with remaining := c.reload } else c.stop)
    else { c with remaining := c.remaining - 1 }
  else c

/-- One record's countdown takes the tick; an expiry becomes due. -/
def countRecord (s : State) (i : Idx) : State :=
  match s.rec? i with
  | none => s
  | some r =>
    let t := setRec i (some { r with cd := r.cd.counted }) s
    if r.cd.expires then makeDue (.expiry i) t else t

/-- Every running countdown is decremented (R10). -/
def countDown (s : State) : State := allIdx.foldl countRecord s

/-- The tick's expiry of the schedule is due if the appointment at its head has expired (R156). -/
def markAppointments (s : State) : State :=
  if s.schedule.head?.any (Appointment.expired s.clock) then makeDue .appointments s else s

/-! ### The cells' samples -/

/-- A call is recognised on the port of a record in a test window (R61, R172). -/
def State.callInWindow (s : State) (p : Port) : Bool := s.recognises p && (s.boundAt p).any s.testInWindow

/-- Each bound cell's sample is due, an event of its own (R46), and the ports of records in a test window on which it
recognises a call are kept (R172). -/
def markSamples (s : State) : State :=
  let t := { s with tick := { s.tick with calls := allPorts.filter s.callInWindow } }
  (allPorts.filter fun p => (s.boundAt p).isSome).foldl (fun t p => makeDue (.sample p) t) t

/-- A sample behind the supply controller's work. One that brings a work stays due, for the row of the work, and so does
one that the tick's order names as late; the others are taken here. -/
def lateSample (late : List Port) (s : State) (p : Port) : State :=
  if late.contains p || cellWorks.any (s.brings p) then s else takeEvent (.sample p) s

/-! ### The tick's work -/

/-- The tick's order names the completion: the exchange ends at the moment of the tick. -/
def endsIn (order : TickOrder) (e : Engine) : Bool := (order.early ++ order.mid).contains (.complete e)

/-- What the last tick left due is taken, but for the completions that the tick's order names. -/
def settleBefore (order : TickOrder) (s : State) : State :=
  let held := [Engine.a, .b].filter fun e => s.isDue (.complete e) && endsIn order e
  let t := settle (held.foldl (fun s e => dropDue (.complete e) s) s)
  (held.filter fun e => (t.engine e).any (·.outcome.isSome)).foldl (fun s e => makeDue (.complete e) s) t

/-- An event that the tick's order names is taken. One that is not due does not occur, and a trip acts as R50 gives. -/
def takePart (s : State) : TickPart → State
  | .cell p => takeEvent (.sample p) s
  | .expiry i => takeEvent (.expiry i) s
  | .appointments => takeEvent .appointments s
  | .trip p current => event (tripWork p current) s
  | .complete e => takeEvent (.complete e) s

/-- The event is the supply controller's. -/
def Event.ofSupply : Event → Bool
  | .latch => true
  | .failDebounce => true
  | .returnDebounce => true
  | .expiry _ => false
  | .appointments => false
  | .sample _ => false
  | .apportion => false
  | .complete _ => false

/-- The supply controller's events go behind the others of the tick, and the apportionment the tick has taken up goes
last (R66, R75). -/
def orderAgenda (s : State) : State :=
  let due := s.agenda.due
  let ordered := due.filter (fun ev => !ev.ofSupply) ++ due.filter Event.ofSupply
  let all := if s.meter.now = .clear then ordered else ordered ++ [.apportion]
  { s with agenda := { s.agenda with due := all } }

/-- One tick. What the last tick left due is taken first. Every piece of work sees the clock's new value (R149). The
meter's work is in the order of R66; what R11, R38, R69, R133 and R162 let be taken before or behind a step of it stands
where `order` says, and the samples that bring a work, the expiries and the supply controller's events stay due (log entry
3). -/
def tickWork (scan : Scan) (order : TickOrder) (s : State) : State :=
  let s := storeScan scan (takeUpMark (advanceClock (settleBefore order s)))
  let s := markSamples (markAppointments (countDown s))
  let s := event (debitPass scan) (order.early.foldl takePart s)
  let s := event (supplyTick scan) (order.mid.foldl takePart s)
  orderAgenda (allPorts.foldl (lateSample order.late) s)

end Sys2Proof.Machine
end

