-- ==== Sys2Proof/Machine/TickEvents.lean ====
section
/-! DEFINITION. The tick and the events it makes due, each a command: the supply controller's, the meter's, the
countdown expiries, the schedule's expiry, and the port cells'. An event that is not due does not occur. -/

namespace Sys2Proof.Machine

open Sys2Proof

/-- The tick. -/
def execTick (scan : Scan) (order : TickOrder) (s : State) : Host.Outcome State Fault Refusal :=
  .next (live (tickWork scan order) s)

/-! ### Supply controller and meter -/

/-- The undervoltage run reaches 3 (R35). -/
def execUndervoltageLatch (s : State) : Host.Outcome State Fault Refusal := .next (live (takeEvent .latch) s)

/-- The mains-fail debounce completes (R30). -/
def execMainsFailDebounce (s : State) : Host.Outcome State Fault Refusal := .next (live (takeEvent .failDebounce) s)

/-- The mains-return debounce completes (R31). -/
def execMainsReturnDebounce (s : State) : Host.Outcome State Fault Refusal :=
  .next (live (takeEvent .returnDebounce) s)

/-- The apportionment that the tick has taken up is performed (R75, R79). -/
def execApportionment (s : State) : Host.Outcome State Fault Refusal := .next (live (takeEvent .apportion) s)

/-! ### Countdown expiries, by the state the record holds (R10) -/

/-- An expiry is taken by a record in one of two states. -/
def expireIn (a b : RState) (i : Idx) (s : State) : State :=
  if s.isIn a i || s.isIn b i then takeEvent (.expiry i) s else s

/-- An expiry in CARRYING or FED (R144). -/
def execQueryIntervalExpiry (i : Idx) (s : State) : Host.Outcome State Fault Refusal :=
  .next (live (expireIn .carrying .fed i) s)

/-- An expiry in RESTING or SILENT (R145). -/
def execWakePeriodExpiry (i : Idx) (s : State) : Host.Outcome State Fault Refusal :=
  .next (live (expireIn .resting .silent i) s)

/-- An expiry in WAITING (R146). -/
def execCoolingEnd (i : Idx) (s : State) : Host.Outcome State Fault Refusal :=
  .next (live (expireIn .waiting .waiting i) s)

/-- An expiry in TESTING (R167). -/
def execTestWindowExpiry (i : Idx) (s : State) : Host.Outcome State Fault Refusal :=
  .next (live (expireIn .testing .testing i) s)

/-- The tick's expiry of the schedule (R156). -/
def execAppointmentExpiry (s : State) : Host.Outcome State Fault Refusal := .next (live (takeEvent .appointments) s)

/-! ### Port cells -/

/-- A cell's sample is taken by the row of a work that it brings. The sample is one event (R46), so the other works that
it brings are done with it, each in its place. -/
def takeSample (w : CellWork) (p : Port) (s : State) : State :=
  if s.brings p w then takeEvent (.sample p) s else s

/-- The RAMP count reaches 0 (R49). -/
def execRampEnd (p : Port) (s : State) : Host.Outcome State Fault Refusal := .next (live (takeSample .rampEnd p) s)

/-- The FEED run reaches 600 (R54). -/
def execFeedRunComplete (p : Port) (s : State) : Host.Outcome State Fault Refusal :=
  .next (live (takeSample .feedRun p) s)

/-- A presence value settles (R57). -/
def execPresenceSettle (p : Port) (s : State) : Host.Outcome State Fault Refusal :=
  .next (live (takeSample .settle p) s)

/-- A call is recognised (R62). -/
def execCallPulse (p : Port) (s : State) : Host.Outcome State Fault Refusal := .next (live (takeSample .call p) s)

/-- The over-ceiling run reaches 3 (R63). -/
def execOverCeilingShed (p : Port) (s : State) : Host.Outcome State Fault Refusal :=
  .next (live (takeSample .overCeiling p) s)

/-- The trip comparator reads a pair current, in mA (R50 to R53). -/
def execTrip (p : Port) (current : Nat) (s : State) : Host.Outcome State Fault Refusal :=
  .next (live (event (tripWork p current)) s)

end Sys2Proof.Machine
end

