-- ==== Sys2Proof/Machine/Dispatch.lean ====
section
/-! DEFINITION. One arm for each command: the row's meaning. -/

namespace Sys2Proof.Machine

open Sys2Proof

def exec (i : Instr) (s : State) : Host.Outcome State Fault Refusal :=
  match i with
  | .enroll fr identity cls port => Sys2Proof.Machine.execEnroll fr identity cls port s
  | .find fr sel => Sys2Proof.Machine.execFind fr sel s
  | .amendCeiling fr index ma also => Sys2Proof.Machine.execAmendCeiling fr index ma also s
  | .amendCap fr index cap also => Sys2Proof.Machine.execAmendCap fr index cap also s
  | .amendClass fr index cls also => Sys2Proof.Machine.execAmendClass fr index cls also s
  | .amendPort fr index port also => Sys2Proof.Machine.execAmendPort fr index port also s
  | .unbind fr index also => Sys2Proof.Machine.execUnbind fr index also s
  | .clearFault fr index also => Sys2Proof.Machine.execClearFault fr index also s
  | .retire fr index => Sys2Proof.Machine.execRetire fr index s
  | .grant fr index amount => Sys2Proof.Machine.execGrant fr index amount s
  | .apportion fr => Sys2Proof.Machine.execApportion fr s
  | .book fr kind target delay period => Sys2Proof.Machine.execBook fr kind target delay period s
  | .cancel fr kind target => Sys2Proof.Machine.execCancel fr kind target s
  | .schedule fr position => Sys2Proof.Machine.execSchedule fr position s
  | .sendWake fr index arg => Sys2Proof.Machine.execSendWake fr index arg s
  | .sendQuery fr index arg => Sys2Proof.Machine.execSendQuery fr index arg s
  | .sendRest fr index arg => Sys2Proof.Machine.execSendRest fr index arg s
  | .sendShed fr index arg => Sys2Proof.Machine.execSendShed fr index arg s
  | .test fr index => Sys2Proof.Machine.execTest fr index s
  | .setBusCap fr value => Sys2Proof.Machine.execSetBusCap fr value s
  | .setH fr value => Sys2Proof.Machine.execSetH fr value s
  | .setK fr value => Sys2Proof.Machine.execSetK fr value s
  | .setUndervoltageFloor fr value => Sys2Proof.Machine.execSetUndervoltageFloor fr value s
  | .setMainsFailDebounce fr value => Sys2Proof.Machine.execSetMainsFailDebounce fr value s
  | .setMainsReturnDebounce fr value => Sys2Proof.Machine.execSetMainsReturnDebounce fr value s
  | .setBitRateReload fr value => Sys2Proof.Machine.execSetBitRateReload fr value s
  | .setReplyWindowCode fr value => Sys2Proof.Machine.execSetReplyWindowCode fr value s
  | .setWakeWindow fr value => Sys2Proof.Machine.execSetWakeWindow fr value s
  | .setRetryLimit fr value => Sys2Proof.Machine.execSetRetryLimit fr value s
  | .setTestWindow fr value => Sys2Proof.Machine.execSetTestWindow fr value s
  | .setDefaultCeiling fr value => Sys2Proof.Machine.execSetDefaultCeiling fr value s
  | .setAttentionMask fr value => Sys2Proof.Machine.execSetAttentionMask fr value s
  | .setClassPolicy fr number value => Sys2Proof.Machine.execSetClassPolicy fr number value s
  | .get fr number => Sys2Proof.Machine.execGet fr number s
  | .reserve fr q => Sys2Proof.Machine.execReserve fr q s
  | .state fr sect start => Sys2Proof.Machine.execState fr sect start s
  | .port fr port => Sys2Proof.Machine.execPort fr port s
  | .next fr => Sys2Proof.Machine.execNext fr s
  | .clear fr => Sys2Proof.Machine.execClear fr s
  | .read bits => Sys2Proof.Machine.execRead bits s
  | .statusPoll bits => Sys2Proof.Machine.execStatusPoll bits s
  | .powerOnReset holding => Sys2Proof.Machine.execPowerOnReset holding s
  | .tick scan order => Sys2Proof.Machine.execTick scan order s
  | .undervoltageLatch => Sys2Proof.Machine.execUndervoltageLatch s
  | .mainsFailDebounce => Sys2Proof.Machine.execMainsFailDebounce s
  | .mainsReturnDebounce => Sys2Proof.Machine.execMainsReturnDebounce s
  | .apportionment => Sys2Proof.Machine.execApportionment s
  | .queryIntervalExpiry ix => Sys2Proof.Machine.execQueryIntervalExpiry ix s
  | .wakePeriodExpiry ix => Sys2Proof.Machine.execWakePeriodExpiry ix s
  | .coolingEnd ix => Sys2Proof.Machine.execCoolingEnd ix s
  | .testWindowExpiry ix => Sys2Proof.Machine.execTestWindowExpiry ix s
  | .appointmentExpiry => Sys2Proof.Machine.execAppointmentExpiry s
  | .rampEnd p => Sys2Proof.Machine.execRampEnd p s
  | .feedRunComplete p => Sys2Proof.Machine.execFeedRunComplete p s
  | .presenceSettle p => Sys2Proof.Machine.execPresenceSettle p s
  | .callPulse p => Sys2Proof.Machine.execCallPulse p s
  | .overCeilingShed p => Sys2Proof.Machine.execOverCeilingShed p s
  | .trip p current => Sys2Proof.Machine.execTrip p current s
  | .frameSent e => Sys2Proof.Machine.execFrameSent e s
  | .replyWindowTimeout e => Sys2Proof.Machine.execReplyWindowTimeout e s
  | .reportReceived e chars begun => Sys2Proof.Machine.execReportReceived e chars begun s
  | .interCharacterGapTimeout e => Sys2Proof.Machine.execInterCharacterGapTimeout e s
  | .guardEnd e => Sys2Proof.Machine.execGuardEnd e s
  | .wakeComplete e => Sys2Proof.Machine.execWakeComplete e s
  | .queryComplete e => Sys2Proof.Machine.execQueryComplete e s
  | .restComplete e => Sys2Proof.Machine.execRestComplete e s
  | .shedComplete e => Sys2Proof.Machine.execShedComplete e s
  | .falseStart e start windowClosed => Sys2Proof.Machine.execFalseStart e start windowClosed s
  | .malformedRequestFrame bytes extra => Sys2Proof.Machine.execMalformedRequestFrame bytes extra s

end Sys2Proof.Machine
end

