-- ==== Sys2Proof/Safety.lean ====
section
/-! DEFINITION. The laws the manual gives the part between events: what counts as a safe state, law by law, in the terms
the statements use. -/

namespace Sys2Proof.Machine

open Sys2Proof

/-! ### The terminal table -/

/-- R2: no two records hold the same identity. -/
def State.UniqueIdentities (s : State) : Prop :=
  ∀ (i j : Idx) (r q : Record), s.rec? i = some r → s.rec? j = some q → r.identity = q.identity → i = j

/-- R2: no two bound records hold the same port. -/
def State.UniquePorts (s : State) : Prop :=
  ∀ (i j : Idx) (p : Port), s.portOf i = some p → s.portOf j = some p → i = j

/-- R2: an identity is nonzero. -/
def State.NonzeroIdentities (s : State) : Prop := ∀ (i : Idx) (r : Record), s.rec? i = some r → r.identity ≠ 0

/-! ### The settings (R4, R28, R33, R83, R98, R121, R134, R163) -/

/-- One policy row within the ranges of R134. -/
def Policy.InRange (p : Policy) : Prop :=
  p.weight ≤ 15 ∧ p.socFloor ≤ 100 ∧ p.releaseLevel ≤ 100 ∧ (10 ≤ p.queryInterval ∧ p.queryInterval ≤ 3600) ∧
  (p.restAfter = 0 ∨ 60 ≤ p.restAfter ∧ p.restAfter ≤ 86400) ∧
  (p.wakePeriod = 0 ∨ 60 ≤ p.wakePeriod ∧ p.wakePeriod ≤ 86400) ∧ p.shedLevel ≤ 3 ∧ p.selfSufficient ≤ 65535 ∧
  p.topUp < 4294967296

/-- Every setting lies in its range, and K ≤ H (R33). -/
def Settings.InRange (g : Settings) : Prop :=
  (500 ≤ g.busCap ∧ g.busCap ≤ 20000) ∧ g.holdBack < 4294967296 ∧ g.cutoff ≤ g.holdBack ∧
  (100 ≤ g.uvFloor ∧ g.uvFloor ≤ 400) ∧ (1 ≤ g.failDebounce ∧ g.failDebounce ≤ 60) ∧
  (5 ≤ g.returnDebounce ∧ g.returnDebounce ≤ 600) ∧ (19 ≤ g.reloadN ∧ g.reloadN ≤ 1279) ∧ g.windowCode ≤ 3 ∧
  (1 ≤ g.wakeWindow ∧ g.wakeWindow ≤ 30) ∧ g.retryLimit ≤ 3 ∧ (10 ≤ g.testWindow ∧ g.testWindow ≤ 600) ∧
  (50 ≤ g.defaultCeiling ∧ g.defaultCeiling ≤ 1000) ∧ g.lifeline.InRange ∧ g.standard.InRange ∧ g.deferred.InRange

/-! ### The port cells (R46) -/

/-- The counts of a cell lie in the ranges of R46, and its trip level is armed exactly in RAMP and FEED. -/
def Cell.InRange (c : Cell) : Prop :=
  c.rampCount ≤ 2 ∧ c.presRun ≤ 3 ∧ c.faultCount ≤ 4 ∧ c.feedRun ≤ 600 ∧ c.overRun ≤ 3 ∧ c.callRun ≤ 2 ∧
  (c.trip.isSome = true ↔ c.drive = .ramp ∨ c.drive = .feed) ∧ (c.presence = .unknown ↔ c.stamp = none)

/-- Every cell is in range. -/
def State.CellsInRange (s : State) : Prop := ∀ p : Port, (s.cells[p]).InRange

/-! ### The collections -/

/-- R117, R118: the exchange queue holds exactly the records with a pending exchange, each once. -/
def State.ExchangeQueueExact (s : State) : Prop :=
  s.link.queue.Nodup ∧ ∀ i : Idx, i ∈ s.link.queue ↔ ((s.rec? i).bind (·.pend)).isSome = true

/-- R85: the admission queue holds exactly the records in WAITING, each once. -/
def State.AdmissionQueueExact (s : State) : Prop :=
  s.arbiter.queue.Nodup ∧ ∀ i : Idx, i ∈ s.arbiter.queue ↔ s.stOf i = some .waiting

/-- R85: the admission queue stands in class order. -/
def State.ClassOrdered (s : State) : Prop := (s.arbiter.queue.map s.rankOf).Pairwise (· ≤ ·)

/-- R84: the feed list holds exactly the records in FED, each once, and admitted is present exactly there (R3). -/
def State.FeedListExact (s : State) : Prop :=
  s.arbiter.feedList.Nodup ∧ (∀ i : Idx, i ∈ s.arbiter.feedList ↔ s.stOf i = some .fed) ∧
  ∀ (i : Idx) (r : Record), s.rec? i = some r → (r.admitted.isSome = true ↔ r.st = .fed)

/-- R84: the sum of the admitted currents never exceeds the bus cap. -/
def State.BudgetWithinCap (s : State) : Prop := s.budget ≤ s.cfg.busCap

/-- R150, R151, R156: at most 32 appointments, no two of the same target and kind, in order of remaining ticks; each
comes within 2^31 ticks, one that has come has its expiry due, and a period is 0 or 600 to 864,000 ticks. -/
def State.ScheduleLawful (s : State) : Prop :=
  s.schedule.length ≤ 32 ∧ (s.schedule.Pairwise fun a b => a.kind = b.kind → a.target ≠ b.target) ∧
  (s.schedule.Pairwise fun a b => a.remaining s.clock ≤ b.remaining s.clock) ∧
  ∀ a ∈ s.schedule, a.remaining s.clock < 2147483648 ∧
    (a.remaining s.clock = 0 → s.isDue .appointments = true) ∧
    (a.period = 0 ∨ 600 ≤ a.period ∧ a.period ≤ 864000)

/-! ### The modes -/

/-- R8: in MAINS every record is IDLE; outside it every IDLE record is unbound. -/
def State.IdleLaw (s : State) : Prop :=
  ∀ (i : Idx) (r : Record), s.rec? i = some r →
    if s.supply.mode = .mains then r.st = .idle else r.st = .idle → r.port = none

/-- R39, R41: in CRITICAL no record other than a LIFELINE one is FED, WAITING or TESTING. -/
def State.CriticalLaw (s : State) : Prop :=
  s.supply.mode = .critical → ∀ (i : Idx) (r : Record), s.rec? i = some r →
    r.st = .fed ∨ r.st = .waiting ∨ r.st = .testing → r.cls = .lifeline

/-- R43: in DEPLETED the engines are free, and every record is IDLE, SILENT with its countdown at rest, or FAULTED, with
no pending exchange. -/
def State.DepletedLaw (s : State) : Prop :=
  s.supply.mode = .depleted → s.link.engA = none ∧ s.link.engB = none ∧
    ∀ (i : Idx) (r : Record), s.rec? i = some r → r.pend = none ∧
      (r.st = .idle ∨ r.st = .faulted ∨
        r.st = .silent ∧ r.cd.running = false ∧ s.isDue (.expiry i) = false)

/-- R47, R48: a cell in OFF holds no presence run. -/
def State.OffLaw (s : State) : Prop := ∀ p : Port, s.cells[p].drive = .off → s.cells[p].presRun = 0

/-- R5, R163: a record holds a test context exactly in TESTING. -/
def State.TestLaw (s : State) : Prop :=
  ∀ (i : Idx) (r : Record), s.rec? i = some r → (r.test.isSome = true ↔ r.st = .testing)

/-- What the modes keep off the table and the engines (R39, R41, R43, R47), and the test contexts to TESTING (R5, R163). -/
def State.ModeLaw (s : State) : Prop := s.CriticalLaw ∧ s.DepletedLaw ∧ s.OffLaw ∧ s.TestLaw

/-- R67: a FED or WAITING record has an allowance above 0, a LAPSED one has none, and no allowance is above its cap. -/
def State.AllowanceLaw (s : State) : Prop :=
  ∀ (i : Idx) (r : Record), s.rec? i = some r →
    (r.st = .fed ∨ r.st = .waiting → 0 < r.allowance) ∧ (r.st = .lapsed → r.allowance = 0) ∧
    ∀ c, r.cap = some c → r.allowance ≤ c

/-- Outside MAINS or in it, an unbound record is IDLE (R21, R8). -/
def State.UnboundIdle (s : State) : Prop :=
  ∀ (i : Idx) (r : Record), s.rec? i = some r → r.port = none → r.st = .idle

/-- R6, R47: a bound record's cell stands at the level of its state, RAMP or FEED exactly in FED; a port that no record
is bound to is OFF. -/
def State.DriveLaw (s : State) : Prop :=
  (∀ (i : Idx) (r : Record) (p : Port), s.rec? i = some r → r.port = some p →
    if r.st = .fed then s.cells[p].drive = .ramp ∨ s.cells[p].drive = .feed
    else s.cells[p].drive = driveFor s.supply.mode r.st) ∧
  ∀ p : Port, (∀ i : Idx, s.portOf i ≠ some p) → s.cells[p].drive = .off

/-- R117: the two engines carry exchanges of different records. -/
def State.OneEngineEach (s : State) : Prop :=
  ∀ a b : Engagement, s.link.engA = some a → s.link.engB = some b → a.idx ≠ b.idx

/-! ### Laws together, as a step keeps them -/

/-- R2 as a whole. -/
def State.TableLaw (s : State) : Prop := s.UniqueIdentities ∧ s.NonzeroIdentities ∧ s.UniquePorts

/-- The laws of service together (R8, R47, R84, R85): the admission queue holds exactly the WAITING records, in class
order, the feed list exactly the FED ones, the budget stays within the cap, every cell stands at its record's level, and
MAINS is IDLE. -/
def State.FeedLaw (s : State) : Prop :=
  s.UniquePorts ∧ s.AdmissionQueueExact ∧ s.ClassOrdered ∧ s.FeedListExact ∧ s.BudgetWithinCap ∧ s.UnboundIdle ∧
  s.IdleLaw ∧ s.DriveLaw

/-- R70: all the charge that the records and the pool hold. -/
def State.charge (s : State) : Nat :=
  (allIdx.map fun i => ((s.rec? i).map (·.allowance)).getD 0).sum + s.meter.pool

/-! ### What the statements say of a command's arrival and of what it leaves -/

/-- Between events: the part is not held in reset, no event is due, and BUSY is not shown. -/
def State.Quiet (s : State) : Prop := s.inReset = false ∧ s.agenda = ⟨[], false, false⟩ ∧ s.host.busy = false

/-- `t` with a reply in the buffer, as a request taken in `s` leaves the host port (R174, R176): READY shown, BUSY and
REFUSED clear, and the status byte of `s` on the data output. -/
def State.replied (s t : State) (r : Reply) : State := { t with host := ⟨[], some r, false, false, s.statusBits⟩ }

/-- The fields of a record that an admission decision and a pick leave as they are: all but its state, its entered
stamp, admitted, countdown, pending exchange and test context. -/
def Record.SameTerms (r q : Record) : Prop :=
  { q with st := r.st, entered := r.entered, admitted := r.admitted, cd := r.cd, pend := r.pend, test := r.test } = r

/-- Every slot but one keeps its record, up to what an admission decision and a pick change. -/
def State.OthersKept (i : Idx) (s t : State) : Prop :=
  ∀ j : Idx, j ≠ i →
    (s.rec? j = none ∧ t.rec? j = none) ∨ ∃ r q, s.rec? j = some r ∧ t.rec? j = some q ∧ r.SameTerms q

/-- A command on one record leaves the other records' terms, the fault counts and scan codes of the other ports, the
supply controller, the clock, the settings, the schedule, the scan's bus and voltage codes, what an engine that does not
carry the record's exchange has put on its pair, the reset mark and the queue of commands as they were. -/
def State.RestKept (i : Idx) (s t : State) : Prop :=
  s.OthersKept i t ∧
  (∀ p : Port, s.portOf i ≠ some p → t.portOf i ≠ some p →
    t.cells[p].faultCount = s.cells[p].faultCount ∧ t.cells[p].lastScan = s.cells[p].lastScan) ∧
  t.supply = s.supply ∧ t.clock = s.clock ∧ t.cfg = s.cfg ∧ t.schedule = s.schedule ∧
  t.meter.lastBus = s.meter.lastBus ∧ t.meter.lastVolt = s.meter.lastVolt ∧
  (∀ e : Engine, s.carries i e = false → t.lineOf e = s.lineOf e) ∧ t.inReset = s.inReset ∧ t.pending = s.pending

/-- The record has an exchange of the kind and argument, pending or in flight. -/
def State.Holds (s : State) (i : Idx) (k : ExKind) (n : Nat) : Prop :=
  (∃ x, (s.rec? i).bind (·.pend) = some x ∧ x.kind = k ∧ x.arg = n) ∨
  ∃ e g, s.engine e = some g ∧ g.idx = i ∧ g.ex.kind = k ∧ g.ex.arg = n

/-- The record has a QUERY, or a WAKE whose REPORT serves for it (R119). -/
def State.HoldsQuery (s : State) (i : Idx) : Prop := s.Holds i .query 0 ∨ ∃ n, s.Holds i .wake n

/-! ### A cell's sample -/

/-- The reading of a sample (R55): none in OFF and in a downstream space, the bias comparator's in SENSE, the code's in
RAMP and FEED. -/
def sampleReads (drive : Drive) (space bias : Bool) (v : Nat) : Option Reading :=
  if drive = .off ∨ space = true then none
  else if drive = .sense ∧ bias = true ∨ drive ≠ .sense ∧ 2 ≤ v then some .present
  else some .absent

/-- What the counts of one sample make of a cell `c` (R46, R49, R54, R57, R60, R61, R63): `x` is its reading, `engaged`
whether an engine is engaged on the port, `admitted` the record's admitted current and `v` the sample's code. -/
def Cell.Counts (c : Cell) (x : Option Reading) (engaged : Bool) (admitted v : Nat) (d : Cell) : Prop :=
  let agrees := fun y : Reading => c.presence = .present ∧ y = .present ∨ c.presence = .absent ∧ y = .absent
  (d.drive = c.drive ∧ d.trip = c.trip ∧ d.faultCount = c.faultCount ∧ d.presence = c.presence ∧ d.stamp = c.stamp ∧
    d.lastScan = v) ∧
  (x = none → d.cand = c.cand ∧ d.presRun = c.presRun) ∧
  (∀ y, x = some y →
    (agrees y → d.cand = none ∧ d.presRun = 0) ∧
    (¬agrees y → c.cand = some y → d.cand = some y ∧ d.presRun = min 3 (c.presRun + 1)) ∧
    (¬agrees y → c.cand ≠ some y → d.cand = some y ∧ d.presRun = 1)) ∧
  (c.drive ≠ .sense → d.callBase = c.callBase ∧ d.callRun = c.callRun ∧ d.callHeld = c.callHeld) ∧
  (c.drive = .sense →
    (engaged = true → d.callBase = none ∧ d.callRun = 0 ∧ d.callHeld = false) ∧
    (engaged = false →
      (c.callBase = none → d.callBase = some v ∧ d.callRun = c.callRun ∧ d.callHeld = c.callHeld) ∧
      ∀ b, c.callBase = some b →
        (v < b + 4 → d.callBase = some v ∧ d.callRun = 0 ∧ d.callHeld = false) ∧
        (b + 4 ≤ v → d.callBase = some b ∧
          (c.callHeld = true → d.callRun = c.callRun ∧ d.callHeld = true) ∧
          (c.callHeld = false → c.callRun = 0 → d.callRun = 1 ∧ d.callHeld = false) ∧
          (c.callHeld = false → 0 < c.callRun → d.callRun = 0 ∧ d.callHeld = true)))) ∧
  (c.drive = .ramp → d.rampCount = c.rampCount - 1) ∧ (c.drive ≠ .ramp → d.rampCount = c.rampCount) ∧
  (c.drive = .feed → d.feedRun = min 600 (c.feedRun + 1) ∧
    d.overRun = if admitted < v then min 3 (c.overRun + 1) else 0) ∧
  (c.drive ≠ .feed → d.feedRun = c.feedRun ∧ d.overRun = c.overRun)

/-- The counts of a sample bring a work of R46: a presence value settles, a call is recognised, an over-ceiling run of 3,
a RAMP count of 0, a FEED run of 600. -/
def Cell.Brings (c d : Cell) : Prop :=
  c.presRun < 3 ∧ d.presRun = 3 ∨ c.callHeld = false ∧ d.callHeld = true ∨ c.overRun < 3 ∧ d.overRun = 3 ∨
    c.drive = .ramp ∧ d.rampCount = 0 ∨ c.feedRun < 600 ∧ d.feedRun = 600

/-! ### The orders of a mode entry -/

/-- What leaving MAINS for OUTAGE or CRITICAL makes of the table (R40, R41): every bound record is CARRYING and holds a
QUERY, or in CRITICAL a REST if it is not LIFELINE; every other record stays IDLE. -/
def State.WaveGiven (s t : State) : Prop :=
  ∀ (i : Idx) (r : Record), s.rec? i = some r → ∃ q, t.rec? i = some q ∧ q.allowance = r.allowance ∧
    (r.port = none → q.st = .idle) ∧
    (r.port ≠ none → q.st = .carrying ∧ q.entered = s.clock ∧
      (t.supply.mode = .critical → r.cls ≠ .lifeline → t.Holds i .rest 0) ∧
      (t.supply.mode = .outage ∨ r.cls = .lifeline → t.HoldsQuery i))

/-- What the two passes of CRITICAL entry make of the table (R41). A LIFELINE record keeps its state; one that waits can
be admitted by the entry's decision. -/
def State.CriticalGiven (s t : State) : Prop :=
  ∀ (i : Idx) (r : Record), s.rec? i = some r → ∃ q, t.rec? i = some q ∧ q.allowance = r.allowance ∧
    (r.cls = .lifeline → q.st = r.st ∨ r.st = .waiting ∧ q.st = .fed) ∧
    (r.cls ≠ .lifeline →
      (r.st = .fed ∨ r.st = .waiting ∨ r.st = .testing → q.st = .carrying ∧ q.entered = s.clock ∧
        q.admitted = none ∧ q.test = none ∧ i ∉ t.arbiter.queue ∧ i ∉ t.arbiter.feedList ∧ t.Holds i .rest 0) ∧
      (r.st = .testing → q.has .tested = true ∧ q.testOutcome = some .abandoned) ∧
      (r.st = .carrying ∨ r.st = .lapsed → q.st = r.st ∧ q.entered = r.entered ∧ t.Holds i .rest 0) ∧
      (r.st = .waking ∨ r.st = .resting ∨ r.st = .silent → q.st = r.st ∧ q.entered = r.entered))

/-- What DEPLETED entry makes of the part (R43). -/
def State.DepletedGiven (s t : State) : Prop :=
  (∀ p : Port, t.cells[p].drive = .off ∧ t.cells[p].faultCount = s.cells[p].faultCount) ∧
  t.link.engA = none ∧ t.link.engB = none ∧ t.link.queue = [] ∧ t.arbiter = ⟨[], []⟩ ∧
  ∀ (i : Idx) (r : Record), s.rec? i = some r → ∃ q, t.rec? i = some q ∧ q.allowance = r.allowance ∧
    q.pend = none ∧ q.admitted = none ∧
    (r.st = .testing → q.has .tested = true ∧ q.testOutcome = some .abandoned) ∧
    (r.port = none ∨ r.st = .faulted → q.st = r.st) ∧
    (r.port ≠ none → r.st ≠ .faulted → q.st = .silent ∧ q.cd.running = false ∧ q.cd.remaining = 0 ∧
      q.entered = if r.st = .silent then r.entered else s.clock)

/-- What leaving DEPLETED for OUTAGE or CRITICAL makes of the SILENT records (R44). -/
def State.DepletedLeft (s t : State) : Prop :=
  ∀ (i : Idx) (r : Record), s.rec? i = some r → ∃ q, t.rec? i = some q ∧ q.allowance = r.allowance ∧
    (r.st = .silent → (∀ p, r.port = some p → t.cells[p].drive = .sense) ∧
      (t.supply.mode = .outage ∨ r.cls = .lifeline →
        q.st = .waking ∧ q.entered = s.clock ∧ q.cd.running = false ∧ t.Holds i .wake 0) ∧
      (t.supply.mode = .critical → r.cls ≠ .lifeline → q.st = .silent ∧ q.entered = r.entered ∧
        t.Holds i .rest 0 ∧ q.cd.repeats = false ∧
        q.cd.remaining = (s.cfg.policy r.cls).wakePeriod * 10 ∧
        (q.cd.running = true ↔ 0 < (s.cfg.policy r.cls).wakePeriod))) ∧
    (r.st ≠ .silent → r.st ≠ .waiting → q.st = r.st)

/-- The orders of a mode entry other than into MAINS, by the modes left and entered (R39 to R44), with the device flag
and the mark that every such entry sets. -/
def State.OrdersGiven (s t : State) : Prop :=
  t.dev.mode = true ∧ t.meter.mark ≠ .clear ∧
  (t.supply.mode = .depleted → s.DepletedGiven t) ∧
  (t.supply.mode = .outage ∨ t.supply.mode = .critical →
    (s.supply.mode = .mains → s.WaveGiven t) ∧ (s.supply.mode = .depleted → s.DepletedLeft t)) ∧
  (s.supply.mode = .outage → t.supply.mode = .critical → s.CriticalGiven t) ∧
  (s.supply.mode = .critical → t.supply.mode = .outage → ∀ (i : Idx) (r : Record), s.rec? i = some r →
    ∃ q, t.rec? i = some q ∧ (q.st = r.st ∨ r.st = .waiting ∧ q.st = .fed))

/-- The index and the changes of an AMEND row. -/
def amendmentOf : Instr → Option (Byte × List AmendChange)
  | .amendCeiling _ i ma also => some (i, ceilingChanges ma also)
  | .amendCap _ i cap also => some (i, capChange cap :: also)
  | .amendClass _ i c also => some (i, .cls c :: also)
  | .amendPort _ i p also => some (i, .port p :: also)
  | .unbind _ i also => some (i, .unbind :: also)
  | .clearFault _ i also => some (i, .clearFault :: also)
  | _ => none

/-- The SEND row of a kind. -/
def sendRow (k : ExKind) (fr : Framing) (index arg : Byte) : Instr :=
  match k with
  | .wake => .sendWake fr index arg
  | .query => .sendQuery fr index arg
  | .rest => .sendRest fr index arg
  | .shed => .sendShed fr index arg

/-- A command that reaches the part over its SPI lines and is judged there: a request frame or a malformed one. -/
def IsFrame (c : Instr) : Prop := c.framing.isSome = true ∨ ∃ bytes extra, c = .malformedRequestFrame bytes extra

/-- One bit as a pair shows it: the same current at all three judged samples. -/
def steady (v : Nat) : BitSample := ⟨v, v, v⟩

/-- A character as a terminal sends it (R103): `mark` and `space` are the pair currents of the two levels. -/
def sentChar (mark space : Nat) (v : Byte) : RxChar :=
  let bit := fun b : Bool => steady (if b then mark else space)
  { start := bit false
    d0 := bit (v.getLsbD 0)
    d1 := bit (v.getLsbD 1)
    d2 := bit (v.getLsbD 2)
    d3 := bit (v.getLsbD 3)
    d4 := bit (v.getLsbD 4)
    d5 := bit (v.getLsbD 5)
    d6 := bit (v.getLsbD 6)
    d7 := bit (v.getLsbD 7)
    parity := bit (onesOf v % 2 == 0)
    stop := bit true }

end Sys2Proof.Machine
end

