-- ==== Sys2Proof/WellFormed.lean ====
section
/-! DEFINITION. Which command terms an event of the part's pins can give. A meaning is defined on every term; the terms
refused here stand for no event. -/

namespace Sys2Proof

/-- A malformed frame: it has fewer than 8 bits of a further byte, and no other row names it. -/
def malformedOk (bytes : List Byte) (extra : Nat) : Bool :=
  decide (extra < 8) && decide (decodeTransaction bytes extra = .malformedRequestFrame bytes extra)

/-- The command can arrive from outside (R16, R173, R175, R178; a REPORT has five characters, R109; each piece of a
tick's events is taken once, R11). -/
def Instr.wf : Instr → Bool
  | .find _ (.other c) => !([0, 1, 2] : List Byte).contains c
  | .amendCeiling _ _ none also => also.isEmpty
  | .setClassPolicy _ number _ => decide (number.toNat = 0 ∨ 13 < number.toNat)
  | .statusPoll bits => decide (bits ≤ 8)
  | .read bits => decide (9 ≤ bits)
  | .tick _ o =>
    decide ((o.early ++ o.mid).Nodup ∧ o.late.Nodup) && o.late.all fun p => !(o.early ++ o.mid).contains (.cell p)
  | .reportReceived _ chars _ => decide (chars.length ≤ 5)
  | .malformedRequestFrame bytes extra => malformedOk bytes extra
  | _ => true

/-- The framing of the command says exactly the parameters it carries: the frame passes the framing check. -/
def Instr.framed (i : Instr) : Bool :=
  match i.framing with
  | some fr => fr.fits i.params.length
  | none => true

end Sys2Proof
end

