-- ==== Sys2Proof/Certificates/Slice0/Obligations.lean ====
section
/-! DEFINITION. The statements for the provers. Each cites the rule of spec/ it formalises; where a clause rests on a
choice of the model, its docstring names the log entry. -/

open Sys2Proof Sys2Proof.Machine

/-! ### Steps, reset, and the reset input -/

/-- A step takes the command at the front of the queue and runs it on the state with the queue's rest; on an empty queue
the part idles. The queue and the idling are the model's (log entries 1 and 15). -/
def Obligations.StepTakesFront : Prop :=
  (∀ (c : Instr) (rest : List Instr) (s : State),
    step { s with pending := c :: rest } = exec c { s with pending := rest }) ∧
  ∀ s : State, s.pending = [] → step s = .next s

/-- What power-on reset leaves (R1, R28, R46, R65, R70, R74, R83, R98, R121, R134, R149, R151, R163, R183). -/
def Obligations.ResetState : Prop :=
  (∀ i : Idx, State.reset.rec? i = none) ∧ State.reset.dev = ⟨false, false, false, false⟩ ∧
  (∀ p : Port, State.reset.cells[p] = ⟨.off, 0, none, .unknown, none, none, 0, 0, 0, 0, none, 0, false, 0⟩) ∧
  State.reset.supply = ⟨.mains, none, false, 0, 0, 0, none, false⟩ ∧
  (State.reset.meter.lastBus = 0 ∧ State.reset.meter.lastVolt = 0 ∧ State.reset.meter.pool = 0 ∧
    State.reset.meter.mark = .clear) ∧
  State.reset.arbiter = ⟨[], []⟩ ∧ State.reset.link.queue = [] ∧ State.reset.link.engA = none ∧
  State.reset.link.engB = none ∧ State.reset.clock = 0 ∧ State.reset.schedule = [] ∧
  State.reset.cfg = ⟨4000, 0, 0, 200, 5, 60, 319, 1, 5, 2, 120, 400, 0, ⟨8, 50, 90, 300, 0, 0, 1, 480, 18000000⟩,
    ⟨4, 30, 90, 600, 1800, 3600, 2, 240, 0⟩, ⟨1, 20, 80, 900, 600, 7200, 3, 120, 0⟩⟩ ∧
  State.reset.host.reply = none ∧ State.reset.host.busy = false ∧ State.reset.host.refused = false ∧
  State.reset.inReset = false

/-- The state after reset obeys every law of the manual that the invariants state. -/
def Obligations.ResetLawful : Prop :=
  State.reset.cfg.InRange ∧ State.reset.TableLaw ∧ State.reset.CellsInRange ∧ State.reset.ExchangeQueueExact ∧
  State.reset.OneEngineEach ∧ State.reset.FeedLaw ∧ State.reset.ScheduleLawful ∧ State.reset.ModeLaw ∧
  State.reset.AllowanceLaw

/-- Power-on reset gives every piece of state its power-on value, and while the part is held in reset nothing but
power-on reset itself does anything (R183). The queue of waiting commands and the count of free values are the model's
own and stay (log entry 14). -/
def Obligations.PowerOnReset : Prop :=
  (∀ (b : Bool) (s : State), exec (.powerOnReset b) s = .next
    { State.reset with
      inReset := b, link := ⟨[], none, none, [], [], s.link.readings⟩, pending := s.pending }) ∧
  ∀ (c : Instr) (s : State), s.inReset = true → (∀ b, c ≠ .powerOnReset b) → exec c s = .next s

/-! ### The host port -/

/-- A frame that arrives while BUSY is shown is discarded: REFUSED is set, and no block, not even the reply buffer,
changes (R174). Otherwise a frame whose framing is wrong, or that is malformed, is taken and answered BAD_REQUEST, and
nothing in any block changes (R175). The status byte is on the data output either way (R173). -/
def Obligations.FrameJudged : Prop :=
  ∀ (c : Instr) (s : State),
    (IsFrame c → s.inReset = false → s.agenda.due = [] → s.host.busy = true →
      exec c s = .next { s with host := { s.host with refused := true, miso := s.statusBits } }) ∧
    (s.Quiet →
      (∃ fr, c.framing = some fr ∧ fr.fits c.params.length = false) ∨
        (∃ bytes extra, c = .malformedRequestFrame bytes extra) →
      exec c s = .next (s.replied s ⟨.badRequest, []⟩))

/-- The model's choices on the order of events, log entries 1 and 2: R174 lets a frame and a due event come in either
order. A frame is judged in the state that the due events leave, with the status byte of its falling edge on the data
output; a tick finds them taken, but for a completion that its order names (log entry 3); a READ and a status poll leave
them due; and an event row whose event is not due changes nothing. -/
def Obligations.DueEvents : Prop :=
  (∀ s : State, risingEdge s = { settle s with host := { (settle s).host with miso := s.statusBits } } ∧
    (settle s).agenda.due = []) ∧
  (∀ (c : Instr) (s u : State), s.inReset = false → u.inReset = false →
    (IsFrame c → risingEdge s = risingEdge u → exec c s = exec c u) ∧
    (∀ sc l, c = .tick sc l → (∀ e : Engine, .complete e ∉ l.early ++ l.mid) → exec c s = exec c (settle s)) ∧
    (∀ n, c = .read n ∨ c = .statusPoll n → ∃ t, exec c s = .next t ∧ t.agenda = s.agenda)) ∧
  ∀ s : State,
    (s.isDue .latch = false → exec .undervoltageLatch s = .next s) ∧
    (s.isDue .failDebounce = false → exec .mainsFailDebounce s = .next s) ∧
    (s.isDue .returnDebounce = false → exec .mainsReturnDebounce s = .next s) ∧
    (s.isDue .apportion = false → exec .apportionment s = .next s) ∧
    (s.isDue .appointments = false → exec .appointmentExpiry s = .next s) ∧
    (∀ i : Idx, s.isDue (.expiry i) = false →
      exec (.queryIntervalExpiry i) s = .next s ∧ exec (.wakePeriodExpiry i) s = .next s ∧
      exec (.coolingEnd i) s = .next s ∧ exec (.testWindowExpiry i) s = .next s) ∧
    (∀ p : Port, s.isDue (.sample p) = false →
      exec (.rampEnd p) s = .next s ∧ exec (.feedRunComplete p) s = .next s ∧ exec (.presenceSettle p) s = .next s ∧
      exec (.callPulse p) s = .next s ∧ exec (.overCeilingShed p) s = .next s) ∧
    ∀ e : Engine, s.isDue (.complete e) = false →
      exec (.wakeComplete e) s = .next s ∧ exec (.queryComplete e) s = .next s ∧
      exec (.restComplete e) s = .next s ∧ exec (.shedComplete e) s = .next s

/-- A READ (R177): with a reply held, the status byte, the reply status, the length and the data are shifted out, 0
beyond them, and the reply is taken once its status byte is out in full; without one, NONE and a length of 0. A status
poll, and a READ that clocks no second byte in part, change nothing (R173). Neither sets or clears REFUSED or BUSY. The
status byte is formed from the state as it stands, whatever is due, and holds READY, BUSY, ATTN, REFUSED and the marker
0101 (R173, R180). -/
def Obligations.ReadAndPoll : Prop :=
  ∀ (bits : Nat) (s : State), s.inReset = false →
    s.statusBits = [s.host.reply.isSome, s.host.busy,
      s.dev.mode || s.dev.poolEmpty || s.dev.capshed || s.dev.outagePending || s.firstAttention.isSome,
      s.host.refused, false, true, false, true] ∧
    exec (.statusPoll bits) s = .next { s with host := { s.host with miso := s.statusBits.take bits } } ∧
    (bits < 9 → exec (.read bits) s = .next { s with host := { s.host with miso := s.statusBits.take bits } }) ∧
    (9 ≤ bits → ∀ r, s.host.reply = some r → exec (.read bits) s = .next { s with
      host := { s.host with
        reply := if bits < 16 then some r else none
        miso := (s.statusBits ++ shiftBits (r.status.byte :: byteOf r.data.length :: r.data) ++
          List.replicate bits false).take bits } }) ∧
    (9 ≤ bits → s.host.reply = none → exec (.read bits) s = .next { s with
      host := { s.host with
        miso := (s.statusBits ++ shiftBits [0x03, 0x00] ++ List.replicate bits false).take bits } })

/-- Every SPI transaction of a well-formed command whose framing fits decodes to that command (R173 to R175, section
11.6): no bit of any frame is dropped. -/
def Obligations.TransactionRoundTrip : Prop :=
  ∀ (c : Instr) (bytes : List Byte) (extra : Nat), c.wf = true → c.framed = true →
    encodeTransaction c = some (bytes, extra) → decodeTransaction bytes extra = c

/-! ### Laws that every step keeps -/

/-- Every step keeps every setting in its range, and K at or below H (R33, R83, R98, R121, R134, R135, R163, R178). -/
def Obligations.SettingsKept : Prop :=
  ∀ s t : State, s.cfg.InRange → step s = .next t → t.cfg.InRange

/-- Every step keeps the law of R2: identities are nonzero and unique, and no two bound records hold the same port. -/
def Obligations.TableLawKept : Prop :=
  ∀ s t : State, s.TableLaw → step s = .next t → t.TableLaw

/-- Every step keeps every port cell in the ranges of R46, armed exactly in RAMP and FEED, stamped exactly when its
presence is known. -/
def Obligations.CellsKept : Prop :=
  ∀ s t : State, s.CellsInRange → step s = .next t → t.CellsInRange

/-- Every step keeps the exchange queue at exactly the records with a pending exchange, each once (R117, R118), the two
engines on different records (R117), and the schedule at 32 appointments or fewer, no two of the same target and kind, in
order of remaining ticks (R151), with what keeps that order across a tick: each comes within 2^31 ticks, one that has come
has its expiry due (R156), and a period lies in the range of R150. -/
def Obligations.QueuesKept : Prop :=
  ∀ s t : State, step s = .next t →
    (s.ExchangeQueueExact → t.ExchangeQueueExact) ∧ (s.OneEngineEach → t.OneEngineEach) ∧
    (s.ScheduleLawful → t.ScheduleLawful)

/-- Every step keeps the laws of service: the queue holds the WAITING records, in class order (R85), the feed list the FED
ones (R84), the budget stays within the cap (R84), each cell stands at its record's level (R6, R47), MAINS is IDLE and
IDLE is unbound elsewhere (R8). -/
def Obligations.FeedLawKept : Prop :=
  ∀ s t : State, s.FeedLaw → step s = .next t → t.FeedLaw

/-- No command makes the sum of the records' allowances and the pool rise, unless an apportionment is due and taken in it
(R70). And every step keeps the allowance law: a FED or WAITING record has an allowance above 0, a LAPSED one has none,
and no allowance is above its cap (R67, R86). -/
def Obligations.ChargeNeverRises : Prop :=
  (∀ (c : Instr) (s t : State), s.isDue .apportion = false → exec c s = .next t → t.charge ≤ s.charge) ∧
  ∀ s t : State, s.FeedLaw → s.ModeLaw → s.AllowanceLaw → step s = .next t → t.AllowanceLaw

/-- The supply mode changes at a tick, at a RESERVE, at power-on reset, or by a supply event that is due, and at nothing
else (R31, R36, R37). And every step keeps what the modes keep off the table: in CRITICAL only LIFELINE records are FED,
WAITING or TESTING (R39, R41), in DEPLETED the engines are free and every record is IDLE, SILENT with its countdown
at rest, or FAULTED (R43), and a record holds a test context exactly in TESTING (R5, R163). -/
def Obligations.ModeChangesOnlyHere : Prop :=
  (∀ (c : Instr) (s t : State), s.isDue .latch = false → s.isDue .failDebounce = false →
    s.isDue .returnDebounce = false → exec c s = .next t → t.supply.mode ≠ s.supply.mode →
    (∃ sc l, c = .tick sc l) ∨ (∃ fr q, c = .reserve fr q) ∨ ∃ b, c = .powerOnReset b) ∧
  ∀ s t : State, s.FeedLaw → s.ModeLaw → step s = .next t → t.ModeLaw

/-! ### ENROLL and the readings -/

/-- ENROLL's checks, in the order of R12; a refusal changes nothing but the host port. -/
def Obligations.EnrollRefused : Prop :=
  ∀ (fr : Framing) (identity : Identity) (cls : Byte) (port : Option Byte) (s : State), s.Quiet →
    fr.fits (9 + port.toList.length) = true →
    let badPort := ∃ b, port = some b ∧ (b.toNat = 0 ∨ 48 < b.toNat)
    let dup := ∃ i r, s.rec? i = some r ∧ r.identity = identity
    let taken := ∃ b i p, port = some b ∧ s.portOf i = some p ∧ b.toNat = p.val + 1
    (2 < cls.toNat ∨ identity = 0 →
      exec (.enroll fr identity cls port) s = .next (s.replied s ⟨.badRequest, []⟩)) ∧
    (cls.toNat ≤ 2 → identity ≠ 0 →
      (badPort → exec (.enroll fr identity cls port) s = .next (s.replied s ⟨.badPort, []⟩)) ∧
      (¬badPort → dup → exec (.enroll fr identity cls port) s = .next (s.replied s ⟨.dupIdentity, []⟩)) ∧
      (¬badPort → ¬dup → taken → exec (.enroll fr identity cls port) s = .next (s.replied s ⟨.portTaken, []⟩)) ∧
      (¬badPort → ¬dup → ¬taken → (∀ i : Idx, s.rec? i ≠ none) →
        exec (.enroll fr identity cls port) s = .next (s.replied s ⟨.tableFull, []⟩)))

/-- An accepted ENROLL creates the record in the lowest free slot with the fields of R3, in the state of R13, and queues
the WAKE of R13; the other records, the supply controller, the settings and the schedule keep what they hold. -/
def Obligations.EnrollCreates : Prop :=
  ∀ (fr : Framing) (identity : Identity) (cls : Byte) (c : Cls) (port : Option Byte) (pt : Option Port) (i : Idx)
    (s : State), s.Quiet → fr.fits (9 + port.toList.length) = true → cls = c.byte → identity ≠ 0 →
    port = pt.map portByte → (∀ j r, s.rec? j = some r → r.identity ≠ identity) →
    (∀ j p, s.portOf j = some p → pt ≠ some p) → s.rec? i = none → (∀ j, j < i → s.rec? j ≠ none) →
    ∃ t q, exec (.enroll fr identity cls port) s = .next t ∧ t.rec? i = some q ∧
      t.host = ⟨[], some ⟨.done, [byteOf i.val]⟩, false, false, s.statusBits⟩ ∧
      (q.identity = identity ∧ q.port = pt ∧ q.cls = c ∧ q.entered = s.clock ∧ q.ceiling = s.cfg.defaultCeiling ∧
        q.admitted = none ∧ q.allowance = 0 ∧ q.cap = none ∧ q.soc = none ∧ q.load = none ∧ q.call = false ∧
        q.batteryFault = false ∧ q.selfMinutes = none ∧ q.lastSeen = none ∧ q.cd.remaining = 0 ∧
        q.cd.running = false ∧ q.test = none ∧ q.lastOutcome = none ∧ q.flags = 0 ∧ q.rep = false ∧
        q.testOutcome = none) ∧
      (pt = none ∨ s.supply.mode = .mains → q.st = .idle) ∧
      (pt ≠ none → s.supply.mode = .depleted → q.st = .silent) ∧
      (∀ p, pt = some p → s.supply.mode = .outage ∨ s.supply.mode = .critical →
        q.st = .waking ∧ t.Holds i .wake 0 ∧ t.cells[p].drive = .sense) ∧
      s.RestKept i t ∧ t.meter = s.meter ∧ t.dev = s.dev ∧ t.arbiter = s.arbiter

/-- FIND, PORT and STATE read and change nothing but the host port (R14, R15, R64, R179); each refusal has its status, and
each reply the bytes of section 11.6 in its order, with its value codes. -/
def Obligations.ViewsRead : Prop :=
  ([RState.idle, .waking, .carrying, .resting, .waiting, .fed, .testing, .lapsed, .silent, .faulted].map RState.byte =
      [0, 1, 2, 3, 4, 5, 6, 7, 8, 9] ∧
    [Mode.mains, .outage, .critical, .depleted].map Mode.byte = [0, 1, 2, 3] ∧
    [Drive.off, .sense, .ramp, .feed].map Drive.byte = [0, 1, 2, 3] ∧
    [Presence.unknown, .present, .absent].map Presence.byte = [0, 1, 2] ∧
    [Reading.present, .absent].map Reading.byte = [1, 2] ∧
    [Cls.lifeline, .standard, .deferred].map Cls.byte = [0, 1, 2] ∧
    [ExKind.wake, .query, .rest, .shed].map ExKind.byte = [1, 2, 3, 4] ∧
    [Origin.request, .policy, .appointment, .test].map Origin.byte = [0, 1, 2, 3] ∧
    [ExOutcome.ok, .timeout, .badReply, .aborted, .line].map ExOutcome.byte = [0, 1, 2, 3, 4] ∧
    [ExPhase.sending, .listening, .guarding].map ExPhase.byte = [0, 1, 2] ∧
    [Engine.a, .b].map engineByte = [0, 1] ∧ [TestPhase.q0, .window, .q1].map TestPhase.byte = [0, 1, 2] ∧
    [TestOutcome.graded, .failed, .abandoned, .skipped].map TestOutcome.byte = [0, 1, 2, 3] ∧
    [none, some false, some true].map mainsByte = [2, 0, 1] ∧
    [ApMark.clear, .set, .awaited].map ApMark.byte = [0, 1, 2]) ∧
  ∀ (fr : Framing) (s : State), s.Quiet →
    let opt := fun (n : Nat) (v : Option Nat) => optBytes (beBytes n) v
    let yes := fun b : Bool => (if b then 1 else 0 : Byte)
    let pending := fun r : Record => optBytes (fun x : Exchange => [x.kind.byte, x.origin.byte]) r.pend
    let inFlight := fun i : Idx => optBytes (fun y : Engine × Engagement =>
      [y.2.ex.kind.byte, engineByte y.1, byteOf y.2.attempts])
        ((s.inFlight i).bind fun e => (s.engine e).map fun g => (e, g))
    let found := fun (i : Idx) (r : Record) =>
      [byteOf i.val] ++ beBytes 8 r.identity.toNat ++ [r.cls.byte, r.st.byte] ++ beBytes 4 r.entered.toNat ++
      opt 1 (r.port.map fun p => p.val + 1) ++ beBytes 2 r.ceiling ++ opt 2 r.admitted ++ beBytes 4 r.allowance ++
      opt 4 r.cap ++ opt 1 r.soc ++ opt 1 r.load ++ [yes r.call, yes r.batteryFault] ++ opt 2 r.selfMinutes ++
      opt 4 (r.lastSeen.map BitVec.toNat) ++ beBytes 3 r.cd.remaining ++ beBytes 3 r.cd.reload ++
      [yes r.cd.repeats + 2 * yes r.cd.running] ++ pending r ++ inFlight i ++
      optBytes (fun x : TestCtx => x.phase.byte :: opt 1 x.soc0) r.test ++
      optBytes (fun o : ExKind × ExOutcome => [o.1.byte, o.2.byte]) r.lastOutcome ++ [r.flags, yes r.rep] ++
      optBytes (fun o : TestOutcome => [o.byte]) r.testOutcome ++
      ((r.port.map fun p => [s.cells[p].presence.byte, yes (s.cooling i)]).getD [])
    let ported := fun p : Port =>
      let c := s.cells[p]
      opt 1 ((s.boundAt p).map Fin.val) ++ [c.drive.byte, if c.drive = .ramp then byteOf c.rampCount else 0] ++
      opt 2 c.trip ++ [c.presence.byte] ++ opt 4 (c.stamp.map BitVec.toNat) ++
      optBytes (fun x : Reading => [x.byte]) c.cand ++ [byteOf c.presRun] ++ beBytes 2 c.lastScan ++
      [byteOf c.faultCount] ++ beBytes 2 c.feedRun ++ [byteOf c.overRun, yes ((s.boundAt p).any s.cooling)] ++
      opt 2 c.callBase ++ [byteOf c.callRun, yes c.callHeld] ++ optBytes (fun e => [engineByte e]) (s.engineOn p)
    let supplied := [s.supply.mode.byte] ++ opt 4 s.supply.q ++ beBytes 4 s.cfg.holdBack ++ beBytes 4 s.cfg.cutoff ++
      [yes s.supply.latch, byteOf s.supply.uvRun, mainsByte s.supply.lastMains] ++ beBytes 2 s.supply.failCount ++
      beBytes 2 s.supply.returnCount ++ [yes s.supply.held] ++ beBytes 4 s.clock.toNat ++
      beBytes 2 (20 * s.meter.lastBus) ++ beBytes 2 (50 * s.meter.lastVolt) ++ beBytes 4 s.meter.pool ++
      [s.meter.mark.byte] ++ beBytes 2 s.cfg.busCap ++ beBytes 2 s.budget ++
      [yes s.dev.mode + 2 * yes s.dev.poolEmpty + 4 * yes s.dev.capshed + 8 * yes s.dev.outagePending]
    let shown := fun (n : Nat) (l : List Idx) (entry : Idx → List Byte) =>
      byteOf l.length :: ((l.drop n).take 16).flatMap entry
    let fed := fun i : Idx => byteOf i.val :: beBytes 2 (s.admittedOf i)
    let waiting := fun i : Idx => ((s.rec? i).map fun r =>
      [byteOf i.val, r.cls.byte] ++ beBytes 2 r.ceiling ++ [yes (s.cooling i)]).getD []
    let queued := fun i : Idx => (((s.rec? i).bind (·.pend)).map fun x =>
      [byteOf i.val, x.kind.byte, byteOf x.arg, x.origin.byte]).getD []
    let carried := fun g : Engagement =>
      [byteOf g.idx.val, g.ex.kind.byte, g.ex.origin.byte, byteOf g.attempts, g.phase.byte]
    (∀ b : Byte, fr.fits 2 = true →
      (63 < b.toNat → exec (.find fr (.index b)) s = .next (s.replied s ⟨.badRequest, []⟩)) ∧
      ∀ i : Idx, b.toNat = i.val →
        (s.rec? i = none → exec (.find fr (.index b)) s = .next (s.replied s ⟨.noRecord, []⟩)) ∧
        ∀ r, s.rec? i = some r → exec (.find fr (.index b)) s = .next (s.replied s ⟨.done, found i r⟩)) ∧
    (∀ v : Identity, fr.fits 9 = true →
      (v = 0 → exec (.find fr (.identity v)) s = .next (s.replied s ⟨.badRequest, []⟩)) ∧
      (v ≠ 0 → (∀ i r, s.rec? i = some r → r.identity ≠ v) →
        exec (.find fr (.identity v)) s = .next (s.replied s ⟨.noRecord, []⟩)) ∧
      ∀ i r, v ≠ 0 → s.UniqueIdentities → s.rec? i = some r → r.identity = v →
        exec (.find fr (.identity v)) s = .next (s.replied s ⟨.done, found i r⟩)) ∧
    (∀ b : Byte, fr.fits 2 = true →
      (b.toNat = 0 ∨ 48 < b.toNat → exec (.find fr (.port b)) s = .next (s.replied s ⟨.badPort, []⟩)) ∧
      ∀ p : Port, b.toNat = p.val + 1 →
        ((∀ i, s.portOf i ≠ some p) → exec (.find fr (.port b)) s = .next (s.replied s ⟨.noRecord, []⟩)) ∧
        ∀ i r, s.UniquePorts → s.rec? i = some r → r.port = some p →
          exec (.find fr (.port b)) s = .next (s.replied s ⟨.done, found i r⟩)) ∧
    (∀ b : Byte, fr.fits 1 = true →
      exec (.find fr (.other b)) s = .next (s.replied s ⟨.badRequest, []⟩) ∧
      (b.toNat = 0 ∨ 48 < b.toNat → exec (.port fr b) s = .next (s.replied s ⟨.badPort, []⟩)) ∧
      ∀ p : Port, b.toNat = p.val + 1 → exec (.port fr b) s = .next (s.replied s ⟨.done, ported p⟩)) ∧
    ∀ x y : Byte, fr.fits 2 = true →
      exec (.state fr x y) s = .next (s.replied s
        (if 3 < x.toNat ∨ 63 < y.toNat then ⟨.badRequest, []⟩
         else ⟨.done, if x = 0 then supplied else if x = 1 then shown y.toNat s.arbiter.feedList fed
                      else if x = 2 then shown y.toNat s.arbiter.queue waiting
                      else optBytes carried s.link.engA ++ optBytes carried s.link.engB ++
                        shown y.toNat s.link.queue queued⟩))

/-! ### AMEND and RETIRE -/

/-- AMEND's checks, in the order of R16, for every change that can lead the frame; a refusal changes nothing but the
host port, and an accepted AMEND with any changes is answered DONE, or CLAMPED for a clamped ceiling, and changes no
other record's terms. Check 1 reads each change as given once, the cap and the port each in either form (R16, section
11.6, log entry 7). -/
def Obligations.AmendJudged : Prop :=
  (∀ l : List AmendChange, changesFit l = true ↔
    (l.countP fun x => match x with | .cls _ => true | _ => false) ≤ 1 ∧
    (l.countP fun x => match x with | .ceiling _ => true | _ => false) ≤ 1 ∧
    (l.countP fun x => match x with | .cap _ => true | .removeCap => true | _ => false) ≤ 1 ∧
    (l.countP fun x => match x with | .port _ => true | .unbind => true | _ => false) ≤ 1 ∧
    (l.countP fun x => match x with | .clearFault => true | _ => false) ≤ 1 ∧
    (∀ c : Byte, .cls c ∈ l → c.toNat ≤ 2) ∧
    (.clearFault ∈ l → .unbind ∉ l ∧ ∀ b : Byte, .port b ∉ l)) ∧
  ∀ (c : Instr) (fr : Framing) (index : Byte) (l : List AmendChange) (s : State), s.Quiet →
    c.framing = some fr → fr.fits c.params.length = true → amendmentOf c = some (index, l) →
    (63 < index.toNat ∨ changesFit l = false → exec c s = .next (s.replied s ⟨.badRequest, []⟩)) ∧
    ∀ i : Idx, index.toNat = i.val → changesFit l = true →
      let badPort := ∃ b : Byte, .port b ∈ l ∧ (b.toNat = 0 ∨ 48 < b.toNat)
      let taken := ∃ (b : Byte) (p : Port) (j : Idx), .port b ∈ l ∧ b.toNat = p.val + 1 ∧ j ≠ i ∧
        s.portOf j = some p ∧ s.portOf i ≠ some p
      let notFaulted := .clearFault ∈ l ∧ s.stOf i ≠ some .faulted
      (s.rec? i = none → exec c s = .next (s.replied s ⟨.noRecord, []⟩)) ∧
      (s.rec? i ≠ none →
        (badPort → exec c s = .next (s.replied s ⟨.badPort, []⟩)) ∧
        (¬badPort → taken → exec c s = .next (s.replied s ⟨.portTaken, []⟩)) ∧
        (s.UniquePorts → ¬badPort → ¬taken →
          (notFaulted → exec c s = .next (s.replied s ⟨.badState, []⟩)) ∧
          (¬notFaulted → ∃ t status, exec c s = .next t ∧ t.rec? i ≠ none ∧ s.RestKept i t ∧
            t.host = ⟨[], some ⟨status, []⟩, false, false, s.statusBits⟩ ∧
            let clamped := ∃ v : BitVec 16, .ceiling v ∈ l ∧ (v.toNat < 50 ∨ 1000 < v.toNat)
            (clamped → status = .clamped) ∧ (¬clamped → status = .done))))

/-- The ceiling of an accepted AMEND is clamped to 50..1000 mA and stored, and a clamped value makes the reply CLAMPED;
alone, on a record that is not WAITING, it changes nothing else (R17). An AMEND with no change is answered DONE (R16). -/
def Obligations.AmendCeiling : Prop :=
  ∀ (fr : Framing) (index : Byte) (i : Idx) (r : Record) (s : State), s.Quiet → index.toNat = i.val →
    s.rec? i = some r →
    (fr.fits 1 = true → exec (.amendCeiling fr index none []) s = .next (s.replied s ⟨.done, []⟩)) ∧
    ∀ (v : BitVec 16) (also : List AmendChange), fr.fits (amendParams index (.ceiling v :: also)).length = true →
      changesFit (.ceiling v :: also) = true → amendRefusal (.ceiling v :: also) i s = none →
      let status : ReplyStatus := if v.toNat < 50 ∨ 1000 < v.toNat then .clamped else .done
      let stored := max 50 (min 1000 v.toNat)
      (∃ t q, exec (.amendCeiling fr index (some v) also) s = .next t ∧ t.rec? i = some q ∧ q.ceiling = stored ∧
        t.host = ⟨[], some ⟨status, []⟩, false, false, s.statusBits⟩ ∧ s.RestKept i t) ∧
      (also = [] → r.st ≠ .waiting → exec (.amendCeiling fr index (some v) also) s =
        .next (s.replied (setRec i (some { r with ceiling := stored }) s) ⟨status, []⟩))

/-- The cap of an accepted AMEND is stored or removed; an allowance above it is cut to it and the difference goes to the
pool; a cut to 0 makes a FED or WAITING record lapse with its flag (R18). -/
def Obligations.AmendCap : Prop :=
  ∀ (fr : Framing) (index : Byte) (i : Idx) (r : Record) (cap : Option (BitVec 32)) (also : List AmendChange)
    (s : State), s.Quiet → index.toNat = i.val → s.rec? i = some r →
    fr.fits (amendParams index (capChange cap :: also)).length = true → changesFit (capChange cap :: also) = true →
    amendRefusal (capChange cap :: also) i s = none →
    ∃ t q, exec (.amendCap fr index cap also) s = .next t ∧ t.rec? i = some q ∧ q.cap = cap.map BitVec.toNat ∧
      q.allowance = (match cap with
        | some c => min c.toNat r.allowance
        | none => r.allowance) ∧
      t.meter.pool = s.meter.pool + (r.allowance - q.allowance) ∧ s.RestKept i t ∧
      (also = [] → cap = some 0 → 0 < r.allowance → r.st = .fed ∨ r.st = .waiting → s.AdmissionQueueExact →
        q.st = .lapsed ∧ q.has .lapsed = true) ∧
      (also = [] → q.allowance = r.allowance →
        t = s.replied (setRec i (some { r with cap := cap.map BitVec.toNat }) s) ⟨.done, []⟩)

/-- A different class of an accepted AMEND is stored; a WAITING record stays in or leaves the queue by admission alone; a
LIFELINE record made non-LIFELINE in CRITICAL gets the orders of R20 (R19, R20, log entry 17). -/
def Obligations.AmendClass : Prop :=
  ∀ (fr : Framing) (index : Byte) (i : Idx) (r : Record) (c : Cls) (s : State), s.Quiet → index.toNat = i.val →
    s.rec? i = some r → fr.fits 3 = true → s.AdmissionQueueExact →
    (r.cls = c → exec (.amendClass fr index c.byte []) s = .next (s.replied s ⟨.done, []⟩)) ∧
    (r.cls ≠ c → r.st ≠ .waiting → ¬(s.supply.mode = .critical ∧ r.cls = .lifeline) →
      exec (.amendClass fr index c.byte []) s =
        .next (s.replied (setRec i (some { r with cls := c }) s) ⟨.done, []⟩)) ∧
    (r.cls ≠ c → ∃ t q, exec (.amendClass fr index c.byte []) s = .next t ∧ t.rec? i = some q ∧ q.cls = c ∧
      q.allowance = r.allowance ∧ t.host = ⟨[], some ⟨.done, []⟩, false, false, s.statusBits⟩ ∧ s.RestKept i t ∧
      (s.supply.mode = .critical → r.cls = .lifeline →
        (r.st = .fed ∨ r.st = .waiting ∨ r.st = .testing → q.st = .carrying ∧ t.Holds i .rest 0) ∧
        (r.st = .carrying ∨ r.st = .lapsed → q.st = r.st ∧ t.Holds i .rest 0) ∧
        (r.st = .testing → q.testOutcome = some .abandoned ∧ q.has .tested = true)) ∧
      (s.supply.mode ≠ .critical → r.st = .waiting → q.st = .waiting ∨ q.st = .fed))

/-- A port number of an accepted AMEND binds the record to it and moves it by the mode; the port it holds already changes
nothing (R16, R22). -/
def Obligations.AmendPort : Prop :=
  ∀ (fr : Framing) (index : Byte) (i : Idx) (r : Record) (p : Port) (s : State), s.Quiet → index.toNat = i.val →
    s.rec? i = some r → fr.fits 3 = true → (∀ j, s.portOf j = some p → j = i) → s.AdmissionQueueExact →
    (r.port = none → r.st = .idle) →
    (r.port = some p → exec (.amendPort fr index (portByte p) []) s = .next (s.replied s ⟨.done, []⟩)) ∧
    (r.port ≠ some p → ∃ t q, exec (.amendPort fr index (portByte p) []) s = .next t ∧ t.rec? i = some q ∧
      q.port = some p ∧ q.allowance = r.allowance ∧ q.cap = r.cap ∧
      t.host = ⟨[], some ⟨.done, []⟩, false, false, s.statusBits⟩ ∧ s.RestKept i t ∧ t.meter = s.meter ∧
      (s.supply.mode = .mains → q.st = .idle) ∧
      (s.supply.mode = .depleted → q.st = .silent ∧ q.cd.running = false ∧ t.cells[p].drive = .off) ∧
      (s.supply.mode = .outage ∨ s.supply.mode = .critical →
        q.st = .waking ∧ t.Holds i .wake 0 ∧ t.cells[p].drive = .sense))

/-- An accepted unbind drops the record's exchanges, releases its feed or its place in the queue, makes it IDLE and
unbound with its countdown stopped, and turns its cell OFF with fault count 0; the allowance and cap are kept. Of an
unbound record it changes nothing (R21). -/
def Obligations.Unbind : Prop :=
  ∀ (fr : Framing) (index : Byte) (i : Idx) (r : Record) (s : State), s.Quiet → index.toNat = i.val →
    s.rec? i = some r → fr.fits 2 = true → s.AdmissionQueueExact → s.FeedListExact → s.OneEngineEach → s.UniquePorts →
    (r.port = none → exec (.unbind fr index []) s = .next (s.replied s ⟨.done, []⟩)) ∧
    ∀ p, r.port = some p → ∃ t q, exec (.unbind fr index []) s = .next t ∧ t.rec? i = some q ∧
      (q.port = none ∧ q.st = .idle ∧ q.cd.running = false ∧ q.cd.remaining = 0 ∧ q.pend = none ∧
        q.admitted = none ∧ q.allowance = r.allowance ∧ q.cap = r.cap ∧ q.soc = r.soc ∧
        q.testOutcome = r.testOutcome) ∧
      t.inFlight i = none ∧ i ∉ t.link.queue ∧ i ∉ t.arbiter.queue ∧ i ∉ t.arbiter.feedList ∧
      t.cells[p].drive = .off ∧ t.cells[p].faultCount = 0 ∧
      (s.cells[p].drive ≠ .off → t.cells[p].presence = .unknown ∧ t.cells[p].trip = none) ∧
      t.host = ⟨[], some ⟨.done, []⟩, false, false, s.statusBits⟩ ∧ s.RestKept i t ∧ t.meter = s.meter

/-- Clear-fault zeroes the fault count of a FAULTED record's port and moves the record by the mode (R23). -/
def Obligations.ClearFault : Prop :=
  ∀ (fr : Framing) (index : Byte) (i : Idx) (r : Record) (p : Port) (s : State), s.Quiet → index.toNat = i.val →
    s.rec? i = some r → fr.fits 2 = true → r.st = .faulted → r.port = some p →
    ∃ t q, exec (.clearFault fr index []) s = .next t ∧ t.rec? i = some q ∧ t.cells[p].faultCount = 0 ∧
      q.flags = r.flags ∧ q.allowance = r.allowance ∧
      t.host = ⟨[], some ⟨.done, []⟩, false, false, s.statusBits⟩ ∧ s.RestKept i t ∧ t.meter = s.meter ∧
      (s.supply.mode = .outage ∨ s.supply.mode = .critical →
        q.st = .waking ∧ t.Holds i .wake 0 ∧ t.cells[p].drive = .sense) ∧
      (s.supply.mode = .depleted → q.st = .silent ∧ q.cd.running = false ∧ t.cells[p].drive = .off)

/-- RETIRE refuses an index above 63 and a free slot; otherwise it frees the slot, adds the allowance to the pool,
removes every appointment that names the record, and turns its cell OFF with fault count 0 (R24). -/
def Obligations.Retire : Prop :=
  ∀ (fr : Framing) (index : Byte) (s : State), s.Quiet → fr.fits 1 = true →
    (63 < index.toNat → exec (.retire fr index) s = .next (s.replied s ⟨.badRequest, []⟩)) ∧
    ∀ i : Idx, index.toNat = i.val →
      (s.rec? i = none → exec (.retire fr index) s = .next (s.replied s ⟨.noRecord, []⟩)) ∧
      ∀ r, s.rec? i = some r → ∃ t, exec (.retire fr index) s = .next t ∧ t.rec? i = none ∧
        t.meter = { s.meter with pool := s.meter.pool + r.allowance } ∧
        t.schedule = s.schedule.filter (fun a => decide (a.target ≠ .record i)) ∧
        i ∉ t.link.queue ∧ (s.OneEngineEach → t.inFlight i = none) ∧
        (s.UniquePorts → ∀ p, r.port = some p → t.cells[p].drive = .off ∧ t.cells[p].faultCount = 0) ∧
        (s.AdmissionQueueExact → s.FeedListExact → i ∉ t.arbiter.queue ∧ i ∉ t.arbiter.feedList) ∧
        t.host = ⟨[], some ⟨.done, []⟩, false, false, s.statusBits⟩ ∧ s.OthersKept i t ∧ t.supply = s.supply ∧
        t.clock = s.clock ∧ t.cfg = s.cfg ∧ t.dev = s.dev

/-! ### The meter -/

/-- GRANT (R72): the refusals; the moved amount is the least of the amount asked, the pool and the room; the reply is
CLAMPED when it is less than asked; a LAPSED record that gains allowance leaves LAPSED by R71, and any other record and
everything else keeps what it holds. That the reply shows the state after the decision is the model's reading, log
entry 18. -/
def Obligations.Grant : Prop :=
  ∀ (fr : Framing) (index : Byte) (amount : BitVec 32) (s : State), s.Quiet →
    (fr.fits 5 = false ∨ 63 < index.toNat →
      exec (.grant fr index amount) s = .next (s.replied s ⟨.badRequest, []⟩)) ∧
    ∀ i : Idx, fr.fits 5 = true → index.toNat = i.val →
      (s.rec? i = none → exec (.grant fr index amount) s = .next (s.replied s ⟨.noRecord, []⟩)) ∧
      ∀ r, s.rec? i = some r →
        let room := (r.cap.map fun c => c - r.allowance).getD amount.toNat
        let moved := min (min amount.toNat s.meter.pool) room
        let status : ReplyStatus := if moved = amount.toNat then .done else .clamped
        let paid := { setRec i (some { r with allowance := r.allowance + moved }) s with
          meter := { s.meter with pool := s.meter.pool - moved } }
        (r.st ≠ .lapsed ∨ r.allowance + moved = 0 → exec (.grant fr index amount) s = .next (s.replied paid
          ⟨status, beBytes 4 moved ++ beBytes 4 (r.allowance + moved) ++ beBytes 4 (s.meter.pool - moved) ++
            [r.st.byte]⟩)) ∧
        (r.st = .lapsed → 0 < r.allowance + moved →
          ∃ t q, exec (.grant fr index amount) s = .next t ∧ t.rec? i = some q ∧
            q.allowance = r.allowance + moved ∧ t.meter = { s.meter with pool := s.meter.pool - moved } ∧ t.dev = s.dev ∧
            t.host = ⟨[], some ⟨status, beBytes 4 moved ++ beBytes 4 (r.allowance + moved) ++
              beBytes 4 (s.meter.pool - moved) ++ [q.st.byte]⟩, false, false, s.statusBits⟩ ∧ s.RestKept i t ∧
            (s.supply.mode = .outage → q.st = .waiting ∨ q.st = .fed) ∧
            (s.supply.mode = .critical → r.cls = .lifeline → q.st = .waiting ∨ q.st = .fed) ∧
            (s.supply.mode = .critical → r.cls ≠ .lifeline → s.AdmissionQueueExact → q.st = .carrying))

/-- APPORTION is refused with NOT_SET while Q is unset; otherwise the mark is set with its awaiting note and BUSY stays
shown, with no reply yet (R74, R76). -/
def Obligations.Apportion : Prop :=
  ∀ (fr : Framing) (s : State), s.Quiet → fr.fits 0 = true →
    (s.supply.q = none → exec (.apportion fr) s = .next (s.replied s ⟨.notSet, []⟩)) ∧
    (s.supply.q ≠ none → exec (.apportion fr) s = .next { s with
      meter := { s.meter with mark := .awaited }
      host := ⟨[0x06, 0x00], none, true, false, s.statusBits⟩ })

/-- The shares of an apportionment (R78, R79): a participant's allowance is floor(D × w / W), or its cap if that is less,
a non-participant's is 0, and afterwards the sum of all allowances and the pool is D exactly. -/
def Obligations.SharesSumToD : Prop :=
  ∀ s : State, (assignShares s).charge = s.distributable ∧
    (∀ i r, s.rec? i = some r → ∃ q, (assignShares s).rec? i = some q ∧
      (s.participant i = false → q.allowance = 0) ∧
      (s.participant i = true → s.totalWeight = 0 → q.allowance = 0) ∧
      (s.participant i = true → s.totalWeight ≠ 0 →
        let share := s.distributable * (s.cfg.policy r.cls).weight / s.totalWeight
        q.allowance = (match r.cap with
          | some c => min share c
          | none => share))) ∧
    (s.supply.mode = .outage → s.distributable = s.supply.q.getD 0 - s.cfg.holdBack) ∧
    (s.supply.mode = .critical → s.distributable = s.supply.q.getD 0 - s.cfg.cutoff) ∧
    (s.supply.mode = .depleted → s.distributable = 0) ∧
    (s.supply.mode = .mains → s.distributable = s.supply.q.getD 0 - s.cfg.holdBack)

/-- The apportionment that a tick has taken up is performed (R75): the participants are those of R77; every allowance
becomes the record's share, or 0 (R79); the consequences of R80 and R71 follow, and an awaiting request is answered with
D, W, the pool and the number of participants (R76). The statement is of a tick whose supply events have been taken. A
top-up is left to the draws on the pool, so the clauses on a lapse name the class without one. -/
def Obligations.ApportionmentPerformed : Prop :=
  ∀ s : State, s.inReset = false → s.isDue .apportion = true → s.isDue .latch = false →
    s.isDue .failDebounce = false → s.isDue .returnDebounce = false →
    ∃ t, exec .apportionment s = .next t ∧ t.meter.now = .clear ∧ t.meter.mark = s.meter.mark ∧
      t.isDue .apportion = false ∧ t.supply = s.supply ∧ t.clock = s.clock ∧ t.cfg = s.cfg ∧
      t.schedule = s.schedule ∧
      (∀ i r, s.rec? i = some r → (s.participant i = true ↔ r.port ≠ none ∧ r.st ≠ .idle ∧ r.st ≠ .faulted ∧
        (s.supply.mode = .critical → r.cls = .lifeline))) ∧
      (∀ i r, s.rec? i = some r → r.st ≠ .fed → r.st ≠ .waiting → r.st ≠ .lapsed →
        ∃ q, t.rec? i = some q ∧ q.allowance = s.shareFor i ∧ (s.AdmissionQueueExact → q.st = r.st)) ∧
      (∀ i r, s.rec? i = some r → s.AdmissionQueueExact → s.FeedListExact →
        ∃ q, t.rec? i = some q ∧
          (r.st = .fed → 0 < s.shareFor i → q.st = .fed ∧ q.allowance = s.shareFor i) ∧
          (r.st = .waiting → 0 < s.shareFor i → (q.st = .waiting ∨ q.st = .fed) ∧ q.allowance = s.shareFor i) ∧
          (r.st = .fed ∨ r.st = .waiting → s.shareFor i = 0 →
            q.has .lapsed = true ∧ (r.has .lapsed = true → q.rep = true) ∧
            ((s.cfg.policy r.cls).topUp = 0 → q.st = .lapsed ∧ q.allowance = 0 ∧ q.admitted = none ∧
              i ∉ t.arbiter.feedList ∧ i ∉ t.arbiter.queue)) ∧
          (r.st = .lapsed → s.shareFor i = 0 → q.st = .lapsed ∧ q.allowance = 0) ∧
          (r.st = .lapsed → 0 < s.shareFor i → q.allowance = s.shareFor i ∧
            (s.supply.mode = .outage ∨ s.supply.mode = .critical → q.st = .waiting ∨ q.st = .fed))) ∧
      (s.meter.now = .awaited → t.host = { s.host with
        request := [], busy := false
        reply := some ⟨.done, beBytes 4 s.distributable ++ beBytes 2 s.totalWeight ++ beBytes 4 t.meter.pool ++
          [byteOf s.participants.length]⟩ }) ∧
      (s.meter.now ≠ .awaited → t.host = s.host)

/-- A RESERVE sets Q, clears the undervoltage latch and its run, and selects the mode, leaving MAINS only from a held
outage; the reply is DONE with the mode in force after it (R32, R36, R37, R38), and the orders of the entry are given
(R39 to R44). -/
def Obligations.Reserve : Prop :=
  ∀ (fr : Framing) (v : BitVec 32) (s : State), s.Quiet → fr.fits 4 = true →
    let selected : Mode :=
      if v.toNat ≤ s.cfg.cutoff then .depleted else if v.toNat ≤ s.cfg.holdBack then .critical else .outage
    let after : Mode := if s.supply.mode = .mains ∧ s.supply.held = false then .mains else selected
    (after = s.supply.mode → exec (.reserve fr v) s = .next (s.replied
      { s with supply := { s.supply with q := some v.toNat, latch := false, uvRun := 0 } } ⟨.done, [after.byte]⟩)) ∧
    (after ≠ s.supply.mode → ∃ t, exec (.reserve fr v) s = .next t ∧
      t.supply = { s.supply with
        mode := after, q := some v.toNat, latch := false, uvRun := 0, failCount := 0, returnCount := 0,
        held := false } ∧
      t.dev.mode = true ∧ t.meter.mark ≠ .clear ∧
      t.host = ⟨[], some ⟨.done, [after.byte]⟩, false, false, s.statusBits⟩ ∧ t.clock = s.clock ∧ t.cfg = s.cfg ∧
      t.schedule = s.schedule ∧ (s.FeedLaw → s.OrdersGiven t))

/-! ### Settings -/

/-- SET of H takes any value and lowers K with it; SET of K is clamped to H. Neither evaluates the mode (R33). -/
def Obligations.SetHoldBackAndCutoff : Prop :=
  ∀ (fr : Framing) (v : BitVec 32) (s : State), s.Quiet → fr.fits 5 = true →
    exec (.setH fr v) s = .next (s.replied
      { s with cfg := { s.cfg with
        holdBack := v.toNat, cutoff := if v.toNat < s.cfg.cutoff then v.toNat else s.cfg.cutoff } }
      ⟨.done, beBytes 4 v.toNat⟩) ∧
    (v.toNat ≤ s.cfg.holdBack → exec (.setK fr v) s = .next (s.replied
      { s with cfg := { s.cfg with cutoff := v.toNat } } ⟨.done, beBytes 4 v.toNat⟩)) ∧
    (s.cfg.holdBack < v.toNat → exec (.setK fr v) s = .next (s.replied
      { s with cfg := { s.cfg with cutoff := s.cfg.holdBack } } ⟨.clamped, beBytes 4 s.cfg.holdBack⟩))

/-- SET of the settings that are only clamped and stored, each with its range, the mains-fail debounce and the attention
mask (R4, R27, R29, R30, R35, R98, R121, R163, R178): the reply is CLAMPED where the value was clamped, and carries the
value stored. -/
def Obligations.SetPlainSettings : Prop :=
  ∀ (fr : Framing) (v : BitVec 32) (s : State), s.Quiet → fr.fits 5 = true →
    let stored := fun lo hi : Nat => max lo (min hi v.toNat)
    let reply := fun lo hi : Nat =>
      (⟨if lo ≤ v.toNat ∧ v.toNat ≤ hi then .done else .clamped, beBytes 4 (stored lo hi)⟩ : Reply)
    exec (.setUndervoltageFloor fr v) s = .next (s.replied
      { s with cfg := { s.cfg with uvFloor := stored 100 400 } } (reply 100 400)) ∧
    exec (.setMainsReturnDebounce fr v) s = .next (s.replied
      { s with cfg := { s.cfg with returnDebounce := stored 5 600 } } (reply 5 600)) ∧
    exec (.setBitRateReload fr v) s = .next (s.replied
      { s with cfg := { s.cfg with reloadN := stored 19 1279 } } (reply 19 1279)) ∧
    exec (.setReplyWindowCode fr v) s = .next (s.replied
      { s with cfg := { s.cfg with windowCode := stored 0 3 } } (reply 0 3)) ∧
    exec (.setWakeWindow fr v) s = .next (s.replied
      { s with cfg := { s.cfg with wakeWindow := stored 1 30 } } (reply 1 30)) ∧
    exec (.setRetryLimit fr v) s = .next (s.replied
      { s with cfg := { s.cfg with retryLimit := stored 0 3 } } (reply 0 3)) ∧
    exec (.setTestWindow fr v) s = .next (s.replied
      { s with cfg := { s.cfg with testWindow := stored 10 600 } } (reply 10 600)) ∧
    exec (.setDefaultCeiling fr v) s = .next (s.replied
      { s with cfg := { s.cfg with defaultCeiling := stored 50 1000 } } (reply 50 1000)) ∧
    exec (.setMainsFailDebounce fr v) s = .next (s.replied
      { s with
        cfg := { s.cfg with failDebounce := stored 1 60 }
        supply := { s.supply with held := s.supply.held && decide (stored 1 60 * 10 ≤ s.supply.failCount) } }
      (reply 1 60)) ∧
    exec (.setAttentionMask fr v) s = .next (s.replied
      { s with cfg := { s.cfg with mask := v.setWidth 8 } } ⟨.done, beBytes 4 (v.toNat % 256)⟩)

/-- SET of a class policy field (R134, R135, R178): the number names a class and a field, the value is clamped to the
field's range, only that field of that row changes, and a number that names no setting is refused. -/
def Obligations.SetClassPolicy : Prop :=
  ∀ (fr : Framing) (v : BitVec 32) (s : State), s.Quiet → fr.fits 5 = true →
    (∀ (c : Cls) (f : Fin 9) (number : Byte), number.toNat = 16 + 9 * c.rank + f.val →
      let stored : Nat :=
        if f = 0 then min v.toNat 15 else if f = 1 ∨ f = 2 then min v.toNat 100
        else if f = 3 then max 10 (min v.toNat 3600)
        else if f = 4 ∨ f = 5 then (if v.toNat = 0 then 0 else max 60 (min v.toNat 86400))
        else if f = 6 then min v.toNat 3 else if f = 7 then min v.toNat 65535 else v.toNat
      ∃ t, exec (.setClassPolicy fr number v) s = .next t ∧ (t.cfg.policy c).field f.val = stored ∧
        (∀ g : Fin 9, g ≠ f → (t.cfg.policy c).field g.val = (s.cfg.policy c).field g.val) ∧
        (∀ d, d ≠ c → t.cfg.policy d = s.cfg.policy d) ∧
        t = s.replied { s with cfg := { s.cfg with
            lifeline := t.cfg.lifeline, standard := t.cfg.standard, deferred := t.cfg.deferred } }
          ⟨if stored = v.toNat then .done else .clamped, beBytes 4 stored⟩) ∧
    ∀ number : Byte, number.toNat < 16 ∨ 42 < number.toNat →
      exec (.setClassPolicy fr number v) s = .next (s.replied s ⟨.badRequest, []⟩)

/-- GET replies DONE with the setting a number names and changes nothing; a number that names none is refused (R178). -/
def Obligations.GetReads : Prop :=
  ∀ (fr : Framing) (number : Byte) (s : State), s.Quiet → fr.fits 1 = true →
    (number.toNat = 0 ∨ number.toNat = 14 ∨ number.toNat = 15 ∨ 42 < number.toNat →
      exec (.get fr number) s = .next (s.replied s ⟨.badRequest, []⟩)) ∧
    (∀ k v, number.toNat = k + 1 → [s.cfg.busCap, s.cfg.holdBack, s.cfg.cutoff, s.cfg.uvFloor, s.cfg.failDebounce,
        s.cfg.returnDebounce, s.cfg.reloadN, s.cfg.windowCode, s.cfg.wakeWindow, s.cfg.retryLimit, s.cfg.testWindow,
        s.cfg.defaultCeiling, s.cfg.mask.toNat][k]? = some v →
      exec (.get fr number) s = .next (s.replied s ⟨.done, beBytes 4 v⟩)) ∧
    ∀ (c : Cls) (f : Nat) (v : Nat), number.toNat = 16 + 9 * c.rank + f →
      [(s.cfg.policy c).weight, (s.cfg.policy c).socFloor, (s.cfg.policy c).releaseLevel,
        (s.cfg.policy c).queryInterval, (s.cfg.policy c).restAfter, (s.cfg.policy c).wakePeriod,
        (s.cfg.policy c).shedLevel, (s.cfg.policy c).selfSufficient, (s.cfg.policy c).topUp][f]? = some v →
      exec (.get fr number) s = .next (s.replied s ⟨.done, beBytes 4 v⟩)

/-- SET of the bus cap (R83, R94, R95): the cap it holds changes nothing; another is stored, fed records are released
while the budget exceeds it, DEFERRED before STANDARD before LIFELINE and each class from its newest admission, and
rejoin at the heads of their class groups, first released first; CAPSHED is set exactly when one is. The decision that
follows takes the members in queue order, passes over the cooling ones and stops at the first that does not fit, and
each admission is as R90 and R91 give (R88, R89, R93). -/
def Obligations.SetBusCap : Prop :=
  (∀ (fr : Framing) (v : BitVec 32) (s : State), s.Quiet → fr.fits 5 = true →
    let stored := max 500 (min 20000 v.toNat)
    let reply : Reply := ⟨if 500 ≤ v.toNat ∧ v.toNat ≤ 20000 then .done else .clamped, beBytes 4 stored⟩
    let newest := s.arbiter.feedList.reverse
    let order := newest.filter (s.ofClass .deferred) ++ newest.filter (s.ofClass .standard) ++
      newest.filter (s.ofClass .lifeline)
    let left := fun n : Nat => s.budget - ((order.take n).map s.admittedOf).sum
    (stored = s.cfg.busCap → exec (.setBusCap fr v) s = .next (s.replied s reply)) ∧
    (stored ≠ s.cfg.busCap → ∃ t, exec (.setBusCap fr v) s = .next t ∧
      t.cfg = { s.cfg with busCap := stored } ∧
      t.dev = { s.dev with capshed := s.dev.capshed || decide (stored < s.budget) } ∧
      t.host = ⟨[], some reply, false, false, s.statusBits⟩ ∧ t.supply = s.supply ∧ t.clock = s.clock ∧
      t.schedule = s.schedule ∧ t.meter = s.meter ∧
      (s.FeedLaw → t.budget ≤ stored) ∧
      (s.FeedLaw → s.budget ≤ stored → ∀ i, i ∈ s.arbiter.feedList → i ∈ t.arbiter.feedList) ∧
      (s.FeedLaw → ∃ n u,
        left n ≤ stored ∧ (∀ m, m < n → stored < left m) ∧ t.arbiter = (decideAdmission u).arbiter ∧
        u.cfg = t.cfg ∧ u.supply = s.supply ∧ u.clock = s.clock ∧ u.agenda.due = [] ∧
        u.arbiter.feedList = s.arbiter.feedList.filter (fun i => !(order.take n).contains i) ∧
        u.arbiter.queue = [Cls.lifeline, .standard, .deferred].flatMap (fun c =>
          (order.take n).filter (s.ofClass c) ++ s.arbiter.queue.filter (s.ofClass c)) ∧
        ∀ i r, s.rec? i = some r → ∃ q, u.rec? i = some q ∧ r.SameTerms q ∧
          (i ∉ order.take n → q = r) ∧
          (i ∈ order.take n → q.st = .waiting ∧ q.entered = s.clock ∧ q.admitted = none ∧ q.cd.running = false ∧
            q.pend = r.pend)))) ∧
  ∀ s : State,
    (s.supply.mode = .mains ∨ s.supply.mode = .depleted → decideAdmission s = s) ∧
    (s.supply.mode = .outage ∨ s.supply.mode = .critical →
      ((∀ i ∈ s.arbiter.queue, s.cooling i = true) → decideAdmission s = s) ∧
      ∀ before i behind r, s.arbiter.queue = before ++ i :: behind → (∀ j ∈ before, s.cooling j = true) →
        s.cooling i = false → s.rec? i = some r →
        (s.cfg.busCap < r.ceiling + s.budget → decideAdmission s = s) ∧
        (r.ceiling + s.budget ≤ s.cfg.busCap → s.arbiter.queue.Nodup → r.st = .waiting →
          decideAdmission s = decideAdmission (admitMember i s) ∧
          (admitMember i s).arbiter = ⟨s.arbiter.feedList ++ [i], before ++ behind⟩ ∧
          ∃ q, (admitMember i s).rec? i = some q ∧ q.st = .fed ∧ q.entered = s.clock ∧
            q.admitted = some r.ceiling ∧
            q.cd = (r.cd.load ((s.cfg.policy r.cls).queryInterval * 10) true) ∧
            (∀ p, r.port = some p → (admitMember i s).cells[p].drive = .ramp ∧
              (s.cells[p].drive ≠ .ramp → (admitMember i s).cells[p].trip = some (3 * r.ceiling) ∧
                (admitMember i s).cells[p].rampCount = 2)) ∧
            ((s.cfg.policy r.cls).shedLevel = 0 → q.pend = r.pend) ∧
            (0 < (s.cfg.policy r.cls).shedLevel → (q.pend.map fun x => (x.kind, x.arg)) =
              some (.shed, (s.cfg.policy r.cls).shedLevel)) ∧
            ∀ j, j ≠ i → (admitMember i s).rec? j = s.rec? j))

/-! ### Appointments -/

/-- BOOK (R152, R153): the checks in order; an accepted one replaces the appointment of the same target and kind, is
placed by its due time with its clamped delay and period behind any of equal due, and is answered with its due time, its
position and the count. The schedule stays in order of remaining ticks (R151). -/
def Obligations.Book : Prop :=
  ∀ (fr : Framing) (kind target : Byte) (delay period : BitVec 32) (s : State), s.Quiet → fr.fits 10 = true →
    ((¬∃ (k : ApptKind) (tg : Target), kind = k.byte ∧ target = tg.byte ∧ (k = .apportion ↔ tg = .none)) →
      exec (.book fr kind target delay period) s = .next (s.replied s ⟨.badRequest, []⟩)) ∧
    ∀ k tg, kind = k.byte → target = tg.byte → (k = .apportion ↔ tg = .none) →
      ((∃ i, tg = .record i ∧ s.rec? i = none) →
        exec (.book fr kind target delay period) s = .next (s.replied s ⟨.noRecord, []⟩)) ∧
      ((∀ i, tg = .record i → s.rec? i ≠ none) → 32 ≤ s.schedule.length →
        (∀ a ∈ s.schedule, a.kind = k → a.target ≠ tg) →
        exec (.book fr kind target delay period) s = .next (s.replied s ⟨.scheduleFull, []⟩)) ∧
      ((∀ i, tg = .record i → s.rec? i ≠ none) →
        (s.schedule.length < 32 ∨ ∃ a ∈ s.schedule, a.kind = k ∧ a.target = tg) →
        let d := max 1 (min delay.toNat 2147483647)
        let p := if period.toNat = 0 then 0 else max 600 (min period.toNat 864000)
        let a : Appointment := ⟨s.clock + BitVec.ofNat 32 d, k, tg, p⟩
        let others := s.schedule.filter fun b => !(decide (b.kind = k) && decide (b.target = tg))
        let l := placeIn s.clock a others
        exec (.book fr kind target delay period) s = .next (s.replied { s with schedule := l }
          ⟨if d = delay.toNat ∧ p = period.toNat then .done else .clamped,
            bytes32 a.due ++ [byteOf (l.findIdx fun b => decide (b.kind = k) && decide (b.target = tg)),
              byteOf l.length]⟩) ∧
        (others.Pairwise (fun b c => b.remaining s.clock ≤ c.remaining s.clock) →
          l.Pairwise fun b c => b.remaining s.clock ≤ c.remaining s.clock) ∧
        ∃ before behind, l = before ++ a :: behind ∧ others = before ++ behind ∧
          (others.Pairwise (fun b c => b.remaining s.clock ≤ c.remaining s.clock) →
            ∀ b ∈ behind, a.remaining s.clock < b.remaining s.clock))

/-- CANCEL (R154): refused as BOOK's first check; DONE with the removed appointment's due time and period, the others
closing up; NO_APPOINTMENT, and nothing changed, where none has that target and kind. -/
def Obligations.Cancel : Prop :=
  ∀ (fr : Framing) (kind target : Byte) (s : State), s.Quiet →
    (fr.fits 2 = false ∨
        (¬∃ (k : ApptKind) (tg : Target), kind = k.byte ∧ target = tg.byte ∧ (k = .apportion ↔ tg = .none)) →
      exec (.cancel fr kind target) s = .next (s.replied s ⟨.badRequest, []⟩)) ∧
    ∀ k tg, fr.fits 2 = true → kind = k.byte → target = tg.byte → (k = .apportion ↔ tg = .none) →
      ((∀ a ∈ s.schedule, a.kind = k → a.target ≠ tg) →
        exec (.cancel fr kind target) s = .next (s.replied s ⟨.noAppointment, []⟩)) ∧
      ∀ before a behind, s.schedule = before ++ a :: behind → a.kind = k → a.target = tg →
        (∀ b ∈ before ++ behind, b.kind = k → b.target ≠ tg) →
        exec (.cancel fr kind target) s = .next (s.replied { s with schedule := before ++ behind }
          ⟨.done, bytes32 a.due ++ beBytes 4 a.period⟩)

/-- SCHEDULE (R155): reads one position and changes nothing. -/
def Obligations.ScheduleReads : Prop :=
  ∀ (fr : Framing) (position : Byte) (s : State), s.Quiet →
    (fr.fits 1 = false ∨ 31 < position.toNat →
      exec (.schedule fr position) s = .next (s.replied s ⟨.badRequest, []⟩)) ∧
    (fr.fits 1 = true → position.toNat ≤ 31 → s.schedule.length ≤ position.toNat →
      exec (.schedule fr position) s = .next (s.replied s ⟨.noAppointment, []⟩)) ∧
    ∀ a, fr.fits 1 = true → position.toNat ≤ 31 → s.schedule[position.toNat]? = some a →
      exec (.schedule fr position) s = .next (s.replied s ⟨.done,
        bytes32 a.due ++ beBytes 4 (a.due - s.clock).toNat ++ [a.kind.byte, a.target.byte] ++ beBytes 4 a.period ++
          [byteOf s.schedule.length]⟩)

/-- The tick's expiry, for one expired appointment at the head of the schedule (R156 to R160): it leaves the list and
comes back a period later if it repeats; its action is taken by kind, mode, class and state for the record it names, or
for every bound record, which passes over the ones it does not fit; a named TEST whose target is not eligible is skipped
with its flag. The QUERY of a record whose own expiry at the same tick will ask for a QUERY is still pending for it (R162):
that the pick of this event leaves it, as R133 gives for a pick taken first, is the model's reading, log entry 22. -/
def Obligations.AppointmentExpiry : Prop :=
  ∀ (a : Appointment) (rest : List Appointment) (s : State), s.inReset = false → s.isDue .appointments = true →
    s.schedule = a :: rest → (s.clock - a.due).toNat < 2147483648 →
    (∀ b, rest.head? = some b → 2147483648 ≤ (s.clock - b.due).toNat) → s.AdmissionQueueExact →
    ∃ t, exec .appointmentExpiry s = .next t ∧ t.isDue .appointments = false ∧ t.supply = s.supply ∧
      t.clock = s.clock ∧ t.cfg = s.cfg ∧ t.host = s.host ∧ t.meter.pool = s.meter.pool ∧
      t.schedule = (if 0 < a.period
        then placeIn s.clock { a with due := a.due + BitVec.ofNat 32 a.period } rest else rest) ∧
      (a.kind = .apportion → t.slots = s.slots ∧ (s.supply.q ≠ none → t.meter.mark ≠ .clear) ∧
        (s.supply.q = none → t.meter = s.meter)) ∧
      (a.kind ≠ .apportion → t.meter = s.meter ∧
        (s.supply.mode = .mains ∨ s.supply.mode = .depleted → t.slots = s.slots)) ∧
      ∀ i r, s.rec? i = some r → a.target = .record i ∨ a.target = .all ∧ r.port ≠ none ∧ s.UniquePorts →
        s.supply.mode = .outage ∨ s.supply.mode = .critical →
        ∃ q, t.rec? i = some q ∧
          let filtered := s.supply.mode = .critical ∧ r.cls ≠ .lifeline
          let wakes := (r.st = .resting ∨ r.st = .silent) ∧ ¬filtered
          let asked := r.st = .carrying ∨ r.st = .fed
          let rests := asked ∧ r.call = false ∧ ¬(s.supply.mode = .critical ∧ r.cls = .lifeline)
          (a.kind = .wake → wakes → q.st = .waking ∧ t.Holds i .wake 0) ∧
          (a.kind = .query → asked → q.st = r.st ∧ t.HoldsQuery i ∧
            (r.pend = none → s.isDue (.expiry i) = true → ¬(filtered ∧ r.st = .carrying) →
              q.pend = some ⟨.query, 0, .appointment⟩ ∧ t.inFlight i = s.inFlight i)) ∧
          (a.kind = .rest → rests → q.st = r.st ∧ t.Holds i .rest 0) ∧
          (a.kind = .test → s.testEligible i = true → q.st = .testing ∧ t.Holds i .query 0) ∧
          (a.kind = .test → s.testEligible i = false → a.target = .record i →
            (r.st ≠ .waiting → q.st = r.st) ∧ q.has .tested = true ∧ q.testOutcome = some .skipped) ∧
          (a.kind = .wake ∧ ¬wakes ∨ a.kind = .query ∧ ¬asked ∨ a.kind = .rest ∧ ¬rests ∨
              a.kind = .test ∧ s.testEligible i = false ∧ a.target = .all →
            r.st ≠ .waiting → { q with pend := r.pend } = r ∧ (q.pend = r.pend ∨ q.pend = none))

/-! ### SEND and TEST -/

/-- SEND of each kind (R132): the checks in order; an accepted one leaves the record with the exchange, a WAKE makes it
WAKING, and the reply is MERGED, CLAMPED or DONE with the state and the pending exchange, as they stand after the pick:
the model's reading, log entry 18. -/
def Obligations.Send : Prop :=
  ∀ (k : ExKind) (fr : Framing) (index arg : Byte) (s : State), s.Quiet → fr.fits 3 = true →
    (63 < index.toNat → exec (sendRow k fr index arg) s = .next (s.replied s ⟨.badRequest, []⟩)) ∧
    ∀ i : Idx, index.toNat = i.val →
      (s.rec? i = none → exec (sendRow k fr index arg) s = .next (s.replied s ⟨.noRecord, []⟩)) ∧
      ∀ r, s.rec? i = some r →
        let allowed : Prop := match k with
          | .wake => r.st = .resting ∨ r.st = .silent
          | .query => r.st = .carrying ∨ r.st = .fed ∨ r.st = .waiting ∨ r.st = .lapsed
          | .rest => r.st = .carrying ∨ r.st = .fed ∨ r.st = .waiting ∨ r.st = .lapsed
          | .shed => r.st = .fed ∨ r.st = .carrying
        let n : Nat := if k = .shed then max 1 (min 3 arg.toNat) else 0
        let dropped : Prop := ∃ y, r.pend = some y ∧
          ((y.kind = .wake ∧ k = .query) ∨ (y.kind = k ∧ y.arg = n))
        ((s.supply.mode = .mains ∨ s.supply.mode = .depleted) ∨ ¬allowed →
          exec (sendRow k fr index arg) s = .next (s.replied s ⟨.badState, []⟩)) ∧
        (s.supply.mode = .outage ∨ s.supply.mode = .critical → allowed →
          ∃ t q status, exec (sendRow k fr index arg) s = .next t ∧ t.rec? i = some q ∧
            q.st = (if k = .wake then .waking else r.st) ∧
            (dropped → status = .merged) ∧
            (¬dropped → status = if k = .shed ∧ arg.toNat ≠ n then .clamped else .done) ∧
            t.host = ⟨[], some ⟨status, q.st.byte ::
              optBytes (fun x : Exchange => [x.kind.byte, x.origin.byte]) q.pend⟩, false, false, s.statusBits⟩ ∧
            (t.Holds i k n ∨ k = .query ∧ t.HoldsQuery i) ∧ s.RestKept i t ∧ t.meter = s.meter ∧ t.dev = s.dev ∧
            t.arbiter = s.arbiter)

/-- TEST (R164, R165): refused for an index above 63, a free slot and an ineligible record; an eligible one gives up its
feed, enters TESTING with a fresh context in Q0 and its cell in SENSE, and a TEST QUERY is queued. -/
def Obligations.Test : Prop :=
  ∀ (fr : Framing) (index : Byte) (s : State), s.Quiet → fr.fits 1 = true →
    (63 < index.toNat → exec (.test fr index) s = .next (s.replied s ⟨.badRequest, []⟩)) ∧
    ∀ i : Idx, index.toNat = i.val →
      (s.rec? i = none → exec (.test fr index) s = .next (s.replied s ⟨.noRecord, []⟩)) ∧
      ∀ r, s.rec? i = some r →
        let eligible := ∃ p, r.port = some p ∧ (r.st = .fed ∨ r.st = .carrying) ∧
          s.cells[p].presence = .present ∧ r.call = false ∧ s.supply.mode = .outage
        (¬eligible → exec (.test fr index) s = .next (s.replied s ⟨.badState, []⟩)) ∧
        (eligible → s.AdmissionQueueExact → s.FeedListExact → s.UniquePorts →
          ∃ t q, exec (.test fr index) s = .next t ∧ t.rec? i = some q ∧ q.st = .testing ∧ q.entered = s.clock ∧
            q.cd.running = false ∧ q.test = some ⟨.q0, none, false⟩ ∧ q.admitted = none ∧
            q.allowance = r.allowance ∧ i ∉ t.arbiter.feedList ∧ t.Holds i .query 0 ∧
            (∀ p, r.port = some p → t.cells[p].drive = .sense) ∧
            t.host = ⟨[], some ⟨.done, [byteOf i.val, 6, 0]⟩, false, false, s.statusBits⟩ ∧ s.RestKept i t ∧
            t.meter = s.meter)

/-! ### The link scheduler -/

/-- The merge rule (R119): what asking for an exchange does to the pending slot and the exchange queue. -/
def Obligations.MergeRule : Prop :=
  ∀ (i : Idx) (x : Exchange) (r : Record) (s : State), s.rec? i = some r →
    (r.pend = none → ask i x s = { s with
      slots := s.slots.set i (some { r with pend := some x })
      link := { s.link with queue := s.link.queue ++ [i] }
      agenda := { s.agenda with pick := true } }) ∧
    ∀ y, r.pend = some y →
      (x.origin ≠ .test → (y.kind = .wake ∧ x.kind = .query) ∨ (y.kind = x.kind ∧ y.arg = x.arg) →
        ask i x s = s) ∧
      (x.origin = .test ∨ ¬((y.kind = .wake ∧ x.kind = .query) ∨ (y.kind = x.kind ∧ y.arg = x.arg)) →
        ask i x s = { s with slots := s.slots.set i (some { r with pend := some x }) })

/-- A pick (R121, R122): a free engine takes the record nearest the head of the exchange queue that has no exchange in
flight, with the settings and the tag copied; A takes first, and B from what A left. It leaves a record whose exchange
another event of the tick is to meet pending (R146, R162, log entry 22), which needs an event due. The attempts used are 1
from the pick on (log entry 13). The baseline is the pair current, within the 10 mA of SENSE, and the threshold half a
step above it (R101). -/
def Obligations.PickTakes : Prop :=
  (∀ s : State, pickBoth s = pickFor .b (pickFor .a s)) ∧
  (∀ (s : State) (i : Idx), s.agenda.due = [] → s.held i = false) ∧
  ∀ (e : Engine) (before behind : List Idx) (i : Idx) (r : Record) (x : Exchange) (s : State), s.engine e = none →
    s.link.queue = before ++ i :: behind → s.link.queue.Nodup →
    (∀ j ∈ before, s.inFlight j ≠ none ∨ s.held j = true) →
    s.inFlight i = none → s.held i = false → s.rec? i = some r → r.pend = some x →
    ∃ t g, pickFor e s = t ∧ t.engine e = some g ∧
      (g.idx = i ∧ g.port = r.port ∧ g.ex = x ∧ g.attempts = 1 ∧ g.phase = .sending ∧ g.sent = [] ∧ g.rx = [] ∧
        g.midChar = false ∧ g.ranOut = false ∧ g.outcome = none ∧ g.reloadN = s.cfg.reloadN ∧
        g.retryLimit = s.cfg.retryLimit ∧ g.tag = r.identity.extractLsb' 0 8) ∧
      (x.kind = .wake → g.windowMs = s.cfg.wakeWindow * 1000) ∧
      (x.kind ≠ .wake → s.cfg.windowCode ≤ 3 → some g.windowMs = [50, 100, 200, 500][s.cfg.windowCode]?) ∧
      (∃ reading, g.baseline = match s.driveOn r.port with
        | .off => 0
        | .sense => min 10000 reading
        | .ramp => reading
        | .feed => reading) ∧
      (s.driveOn r.port = .sense → g.threshold = g.baseline + 2000) ∧
      (s.driveOn r.port = .ramp ∨ s.driveOn r.port = .feed → g.threshold = g.baseline + 15000) ∧
      t.link.queue = before ++ behind ∧ t.rec? i = some { r with pend := none } ∧
      ∀ j, j ≠ i → t.rec? j = s.rec? j

/-- FRAME_SENT and GUARD_END, and the line (R100, R105, R106, R110, R113, R114, R115, R123): the bits of an attempt are
the wake notch for a WAKE and then the four characters of 11 bits, each in the form of the port's drive level: 5 V bias
or its removal in SENSE, reserve voltage or its drop in RAMP and FEED, nothing in OFF. A change of level in SENDING
leaves the bits out so far in the old form, the frame's end puts out the rest in the present one, and an abort leaves
the bits up to the cut. The pair is at mark whenever no engine sends on the port: in LISTENING, in GUARD, and from an abort
on. How many bits a change or a cut finds sent is a free value (log entry 11). A change of level in
LISTENING or GUARD takes the baseline and the threshold anew and leaves the rest, or, during a character, ends the
attempt BADREPLY. After the frame the engine listens, and after the guard the next attempt sends again. -/
def Obligations.FrameAndGuard : Prop :=
  (∀ mark : Bool, lineForm .off mark = .nothing ∧ lineForm .sense mark = (if mark then .bias else .biasRemoved) ∧
    lineForm .ramp mark = (if mark then .reserve else .dropped) ∧ lineForm .feed mark = lineForm .ramp mark) ∧
  (∀ (p : Port) (s : State),
    ((∀ e g, s.engineOn p = some e → s.engine e = some g → g.phase ≠ .sending) →
      ∀ space, s.lineLevel p space = lineForm s.cells[p].drive true) ∧
    ∀ e g, s.engineOn p = some e → s.engine e = some g → g.phase = .sending →
      s.lineLevel p true = lineForm s.cells[p].drive false ∧ s.lineLevel p false = lineForm s.cells[p].drive true) ∧
  ∀ (e : Engine) (g : Engagement) (s : State), s.inReset = false → s.engine e = some g → g.outcome = none →
    (g.phase = .sending → ∃ bits : List Bool,
      (g.ex.kind = .wake → bits = List.replicate 30 false ++ List.replicate 10 true ++
        (([0xA1, g.tag, byteOf g.ex.arg, 0xA1 ^^^ g.tag ^^^ byteOf g.ex.arg] : List Byte).flatMap charBits)) ∧
      (∀ k, (g.ex.kind = .query ∧ k = (0xA2 : Byte)) ∨ (g.ex.kind = .rest ∧ k = 0xA3) ∨
          (g.ex.kind = .shed ∧ k = 0xA4) →
        bits = ([k, g.tag, byteOf g.ex.arg, k ^^^ g.tag ^^^ byteOf g.ex.arg] : List Byte).flatMap charBits) ∧
      bits.length = (if g.ex.kind = .wake then 84 else 44) ∧
      let rest := (bits.drop g.sent.length).map (lineForm (s.driveOn g.port))
      exec (.frameSent e) s = .next (setLine e (g.sent ++ rest) (setEngine e (some { g with
        phase := .listening, sent := [], rx := [], midChar := false, ranOut := false }) s)) ∧
      (∀ p t space, s.engineOn p = some e → exec (.frameSent e) s = .next t →
        t.lineLevel p space = lineForm t.cells[p].drive true) ∧
      (∀ p o space, s.engineOn p = some e → (∀ f, f ≠ e → s.engagedOn p f = false) →
        (abortEngine o e s).lineLevel p space = lineForm (abortEngine o e s).cells[p].drive true) ∧
      (∀ p lvl admitted, s.engineOn p = some e → g.port = some p → lvl ≠ .off → s.cells[p].drive ≠ .off →
        s.cells[p].drive ≠ lvl → ∃ n h, (orderLevel p admitted lvl s).engine e = some h ∧ h.phase = .sending ∧
          h.sent = g.sent ++ rest.take n ∧ h.threshold = h.baseline + (if lvl = .sense then 2000 else 15000)) ∧
      ∀ o, (abortEngine o e s).engine e = none ∧
        (s.driveOn g.port = .off → (abortEngine o e s).lineOf e = g.sent) ∧
        ∃ n, (abortEngine o e s).lineOf e = g.sent ++ rest.take n) ∧
    (g.phase ≠ .sending → exec (.frameSent e) s = .next s ∧
      ∀ o, (abortEngine o e s).engine e = none ∧ (abortEngine o e s).lineOf e = s.lineOf e) ∧
    (∀ p lvl admitted, g.phase ≠ .sending → s.engineOn p = some e → g.port = some p → lvl ≠ .off →
      s.cells[p].drive ≠ lvl → ∃ h base, (orderLevel p admitted lvl s).engine e = some h ∧
        (lvl = .sense → base ≤ 10000) ∧
        let anew := { g with baseline := base, threshold := base + (if lvl = .sense then 2000 else 15000) }
        (g.phase = .guarding ∨ g.midChar = false → h = anew) ∧
        (g.phase = .listening → g.midChar = true →
          (g.attempts ≤ g.retryLimit → h = { anew with
            phase := .guarding, sent := [], rx := [], midChar := false, ranOut := false }) ∧
          (g.retryLimit < g.attempts → h = { anew with midChar := false, outcome := some (.badReply, none) } ∧
            (orderLevel p admitted lvl s).isDue (.complete e) = true))) ∧
    (g.phase = .guarding → exec (.guardEnd e) s = .next (setEngine e (some { g with
      phase := .sending, attempts := g.attempts + 1, sent := [], rx := [], midChar := false, ranOut := false }) s)) ∧
    (g.phase ≠ .guarding → exec (.guardEnd e) s = .next s)

/-- An attempt that ends TIMEOUT or BADREPLY (R111, R112, R123): the window closing with no start bit, 22 bit times behind
a character without a start bit, and a false start after either has run out. While a start bit is unconfirmed the verdict
waits for it. At or below the retry limit the engine enters GUARD; above it the exchange has that outcome and its
completion is due. -/
def Obligations.AttemptFails : Prop :=
  ∀ (e : Engine) (g : Engagement) (s : State), s.inReset = false → s.engine e = some g → g.outcome = none →
    let failed := fun o : ExOutcome =>
      if g.attempts ≤ g.retryLimit then setEngine e (some { g with
        phase := .guarding, sent := [], rx := [], midChar := false, ranOut := false }) s
      else makeDue (.complete e) (setEngine e (some { g with midChar := false, outcome := some (o, none) }) s)
    let waits := setEngine e (some { g with ranOut := true }) s
    (g.phase = .listening →
      (g.rx = [] → exec (.interCharacterGapTimeout e) s = .next s ∧
        (g.midChar = false → exec (.replyWindowTimeout e) s = .next (failed .timeout)) ∧
        (g.midChar = true → exec (.replyWindowTimeout e) s = .next waits)) ∧
      (g.rx ≠ [] → exec (.replyWindowTimeout e) s = .next s ∧
        (g.midChar = false → exec (.interCharacterGapTimeout e) s = .next (failed .badReply)) ∧
        (g.midChar = true → exec (.interCharacterGapTimeout e) s = .next waits)) ∧
      (∀ (start : BitSample) (out : Bool), s.driveOn g.port ≠ .off →
        (judgeMark (s.driveOn g.port) g.threshold start = false → exec (.falseStart e start out) s = .next s) ∧
        (judgeMark (s.driveOn g.port) g.threshold start = true →
          (out = true ∨ g.ranOut = true → g.rx = [] → exec (.falseStart e start out) s = .next (failed .timeout)) ∧
          (out = true ∨ g.ranOut = true → g.rx ≠ [] →
            exec (.falseStart e start out) s = .next (failed .badReply)) ∧
          (out = false → g.ranOut = false → exec (.falseStart e start out) s =
            .next (setEngine e (some { g with midChar := false }) s))))) ∧
    (g.phase ≠ .listening → ∀ start out chars begun,
      exec (.replyWindowTimeout e) s = .next s ∧ exec (.interCharacterGapTimeout e) s = .next s ∧
      exec (.falseStart e start out) s = .next s ∧ exec (.reportReceived e chars begun) s = .next s)

/-- A REPORT is accepted exactly when its five characters are received with the REPORT kind, the tag sent and the right
check, however they are spread over the commands that bring them; the exchange then has outcome OK with the fields of
R109. The first error at any of them, a framing or parity error, another kind, another tag, a wrong check, ends the
attempt BADREPLY (R109, R112, R123). A false start among them is discarded (R104). Until then the characters are kept
(R112). -/
def Obligations.ReportReceived : Prop :=
  ∀ (e : Engine) (g : Engagement) (chars : List RxChar) (begun : Bool) (s : State), s.inReset = false →
    s.engine e = some g → g.outcome = none → g.phase = .listening → s.driveOn g.port ≠ .off →
    let judge := judgeChar (s.driveOn g.port) g.threshold
    let guard := setEngine e (some { g with
      phase := .guarding, sent := [], rx := [], midChar := false, ranOut := false }) s
    let failed := fun o : ExOutcome => if g.attempts ≤ g.retryLimit then guard
      else makeDue (.complete e) (setEngine e (some { g with midChar := false, outcome := some (o, none) }) s)
    (∀ (vs : List Byte) (cs more : List RxChar), chars = cs ++ more → cs.map judge = vs.map .received →
      let l := g.rx ++ vs
      (∀ a b : Byte, vs ≠ [] → l = [0x5C, g.tag, a, b, 0x5C ^^^ g.tag ^^^ a ^^^ b] →
        exec (.reportReceived e chars begun) s = .next (makeDue (.complete e) (setEngine e (some { g with
          midChar := false
          outcome := some (.ok, some ⟨min a.toNat 100, (b.toNat / 2) % 4, b.getLsbD 0, b.getLsbD 3⟩) }) s))) ∧
      (l.length ≤ 4 → (∀ v, g.rx.length = 0 → l[0]? = some v → v = 0x5C) →
        (∀ v, g.rx.length ≤ 1 → l[1]? = some v → v = g.tag) →
        (more = [] → exec (.reportReceived e chars begun) s = .next (setEngine e (some { g with
          rx := l
          midChar := begun || (decide (vs = []) && g.midChar)
          ranOut := decide (vs = []) && g.ranOut }) s)) ∧
        (∀ c post, more = c :: post →
          (judge c = .framingError ∨ judge c = .parityError ∨ (∃ v, judge c = .received v ∧
            (l.length = 0 ∧ v ≠ 0x5C ∨ l.length = 1 ∧ v ≠ g.tag ∨
              ∃ a b x y, l = [a, b, x, y] ∧ v ≠ a ^^^ b ^^^ x ^^^ y)) →
            exec (.reportReceived e chars begun) s = .next (failed .badReply)) ∧
          (judge c = .falseStart → cs ++ post ≠ [] → g.ranOut = false →
            exec (.reportReceived e chars begun) s = exec (.reportReceived e (cs ++ post) begun) s) ∧
          (judge c = .falseStart → cs = [] → g.ranOut = true → exec (.reportReceived e chars begun) s =
            .next (failed (if g.rx = [] then .timeout else .badReply))))))

/-- A character is 11 bits: a start bit of space, the data bits least significant first, an odd parity bit and a stop bit
of mark (R103). As a terminal sends it, with its space at or above the threshold and its mark below, it is received with
its value (R103, R104). In SENSE the comparator meets at most 10 mA, so behind a threshold above that nothing is a start
bit (R101). -/
def Obligations.CharacterRoundTrip : Prop :=
  (∀ (v : Byte) (mark space threshold : Nat) (d : Drive), d ≠ .off → mark < threshold → threshold ≤ space →
    (d = .sense → threshold ≤ 10000) → judgeChar d threshold (sentChar mark space v) = .received v) ∧
  (∀ (threshold : Nat) (c : RxChar), 10000 < threshold → judgeChar .sense threshold c = .falseStart) ∧
  ∀ v : Byte, (charBits v).length = 11 ∧ (charBits v)[0]? = some false ∧
    (∀ k, k < 8 → (charBits v)[k + 1]? = some (v.getLsbD k)) ∧ (charBits v)[10]? = some true ∧
    (((charBits v).drop 1).take 9).count true % 2 = 1

/-! ### Completions -/

/-- A WAKE completes (R124, R126, R127, R131): the REPORT's fields are taken; WAKING, RESTING and SILENT enter CARRYING,
where the REPORT is judged (R138, R139, R140); any other state is judged as it stands, CARRYING by R138 and R141, FED by
R142, WAITING and LAPSED not at all (R143); in TESTING a call-active yes abandons the test (R170); a final failure sets
LINKFAIL and makes WAKING SILENT; a REQUEST exchange sets SENT. -/
def Obligations.WakeCompletes : Prop :=
  ∀ (e : Engine) (g : Engagement) (o : ExOutcome) (rep : Option Report) (r : Record) (s : State),
    s.inReset = false → s.isDue (.complete e) = true → s.engine e = some g → g.outcome = some (o, rep) →
    g.ex.kind = .wake → s.rec? g.idx = some r → s.AdmissionQueueExact →
    ∃ t q, exec (.wakeComplete e) s = .next t ∧ t.rec? g.idx = some q ∧ t.supply = s.supply ∧ t.clock = s.clock ∧
      t.cfg = s.cfg ∧ t.host = s.host ∧ s.OthersKept g.idx t ∧
      (g.ex.origin = .request → q.has .sent = true ∧ q.lastOutcome = some (.wake, o)) ∧
      (g.ex.origin ≠ .request → q.lastOutcome = r.lastOutcome) ∧
      (∀ p, rep = some p → q.soc = some p.soc ∧ q.load = some p.load ∧ q.call = p.call ∧
        q.batteryFault = p.batteryFault ∧ q.lastSeen = some s.clock ∧
        (r.st ≠ .testing → q.selfMinutes = (if p.batteryFault then some 0 else r.selfMinutes)) ∧
        (r.st = .waking ∨ r.st = .resting ∨ r.st = .silent →
          let row := s.cfg.policy r.cls
          let wants := r.cls = .lifeline ∧ p.call = true ∨ p.soc ≤ row.socFloor
          (s.supply.mode = .critical → r.cls ≠ .lifeline → q.st = .carrying ∧ t.Holds g.idx .rest 0) ∧
          (s.supply.mode = .outage ∨ s.supply.mode = .critical ∧ r.cls = .lifeline →
            (¬wants → q.st = .carrying ∧ q.entered = s.clock) ∧
            (wants → 0 < r.allowance → q.st = .waiting ∨ q.st = .fed) ∧
            (wants → r.allowance = 0 → row.topUp = 0 → q.st = .lapsed ∧ q.has .lapsed = true))) ∧
        (r.st = .carrying →
          let row := s.cfg.policy r.cls
          let filtered := s.supply.mode = .critical ∧ r.cls ≠ .lifeline
          let wants := r.cls = .lifeline ∧ p.call = true ∨ p.soc ≤ row.socFloor
          let rests := 0 < row.restAfter ∧ p.call = false ∧ row.restAfter * 10 ≤ (s.clock - r.entered).toNat
          (filtered → q.st = .carrying ∧ q.entered = r.entered ∧ t.Holds g.idx .rest 0) ∧
          (¬filtered → wants → (0 < r.allowance → q.st = .waiting ∨ q.st = .fed) ∧
            (r.allowance = 0 → row.topUp = 0 → q.st = .lapsed ∧ q.has .lapsed = true)) ∧
          (¬filtered → ¬wants → q.st = .carrying ∧ q.entered = r.entered ∧ (rests → t.Holds g.idx .rest 0) ∧
            (¬rests → q.pend = r.pend ∨ q.pend = none))) ∧
        (r.st = .fed →
          let row := s.cfg.policy r.cls
          let minutes := if p.batteryFault then some 0 else r.selfMinutes
          let releases := p.call = false ∧ row.releaseLevel ≤ p.soc ∧ ∀ m, minutes = some m → row.selfSufficient ≤ m
          (releases → q.st = .carrying ∧ q.entered = s.clock ∧ q.admitted = none) ∧
          (¬releases → q.st = .fed ∧ q.admitted = r.admitted)) ∧
        (r.st = .waiting ∨ r.st = .lapsed → q.st = r.st ∧ q.entered = r.entered) ∧
        (r.st = .testing → (p.call = false → q.st = .testing) ∧ (p.call = true →
          q.has .tested = true ∧ q.testOutcome = some .abandoned ∧
          (0 < r.allowance → q.st = .waiting ∨ s.supply.mode ≠ .mains ∧ s.supply.mode ≠ .depleted ∧ q.st = .fed)))) ∧
      (rep = none → q.has .linkfail = true ∧ q.soc = r.soc ∧ (r.st = .waking → q.st = .silent) ∧
        (r.st ≠ .waking → q.st = r.st ∧ q.test = r.test))

/-- A QUERY completes (R124, R126, R128, R131): CARRYING is judged in the order of R138, and so are WAKING, RESTING and
SILENT once they have entered it: the CRITICAL filter, the lifeline call and the low charge that want feed (R139), the
rest after (R141); FED by R142; WAITING and LAPSED only take the fields (R143). A final failure sets LINKFAIL, makes
CARRYING SILENT and leaves every other state, but in the test's own phases it fails the test (R171). The Q0 answer opens
the window (R166), also with a battery fault, the Q1 answer grades the battery (R168) and places the record (R169), and a
call-active yes abandons a test (R170). -/
def Obligations.QueryCompletes : Prop :=
  ∀ (e : Engine) (g : Engagement) (o : ExOutcome) (rep : Option Report) (r : Record) (s : State),
    s.inReset = false → s.isDue (.complete e) = true → s.engine e = some g → g.outcome = some (o, rep) →
    g.ex.kind = .query → s.rec? g.idx = some r → s.AdmissionQueueExact →
    s.supply.mode = .outage ∨ s.supply.mode = .critical →
    ∃ t q, exec (.queryComplete e) s = .next t ∧ t.rec? g.idx = some q ∧ t.supply = s.supply ∧ t.clock = s.clock ∧
      t.cfg = s.cfg ∧ t.host = s.host ∧ s.OthersKept g.idx t ∧
      (g.ex.origin = .request → q.has .sent = true ∧ q.lastOutcome = some (.query, o)) ∧
      (∀ p, rep = some p →
        let row := s.cfg.policy r.cls
        let minutes := if p.batteryFault then some 0 else r.selfMinutes
        let fed : Prop :=
          (0 < r.allowance → q.st = .waiting ∨ q.st = .fed) ∧
          (r.allowance = 0 → row.topUp = 0 → q.st = .lapsed ∧ q.has .lapsed = true ∧ q.allowance = 0)
        q.soc = some p.soc ∧ q.load = some p.load ∧ q.call = p.call ∧ q.batteryFault = p.batteryFault ∧
        q.lastSeen = some s.clock ∧ (r.st ≠ .testing → q.selfMinutes = minutes) ∧
        (r.st = .carrying ∨ r.st = .waking ∨ r.st = .resting ∨ r.st = .silent →
          let filtered := s.supply.mode = .critical ∧ r.cls ≠ .lifeline
          let wants := r.cls = .lifeline ∧ p.call = true ∨ p.soc ≤ row.socFloor
          let rests := 0 < row.restAfter ∧ p.call = false ∧
            row.restAfter * 10 ≤ (if r.st = .carrying then (s.clock - r.entered).toNat else 0)
          (filtered → q.st = .carrying ∧ t.Holds g.idx .rest 0) ∧
          (¬filtered → wants → fed) ∧
          (¬filtered → ¬wants → q.st = .carrying ∧
            q.entered = (if r.st = .carrying then r.entered else s.clock) ∧
            (rests → t.Holds g.idx .rest 0) ∧
            (¬rests → q.pend = r.pend ∨ q.pend = none))) ∧
        (r.st = .fed →
          let releases := p.call = false ∧ row.releaseLevel ≤ p.soc ∧ ∀ m, minutes = some m → row.selfSufficient ≤ m
          (releases → q.st = .carrying ∧ q.entered = s.clock ∧ q.admitted = none) ∧
          (¬releases → q.st = .fed ∧ q.admitted = r.admitted)) ∧
        (r.st = .waiting → q.st = .waiting ∨ q.st = .fed) ∧ (r.st = .lapsed → q.st = .lapsed) ∧
        (r.st = .testing → p.call = true → q.has .tested = true ∧ q.testOutcome = some .abandoned ∧ q.test = none ∧
          (0 < r.allowance → q.st = .waiting ∨ q.st = .fed) ∧
          (r.allowance = 0 → row.topUp = 0 → q.st = .lapsed ∧ q.has .lapsed = true)) ∧
        (∀ c m, r.st = .testing → g.ex.origin = .test → r.test = some ⟨.q0, c, m⟩ → p.call = false →
          q.st = .testing ∧ q.test = some ⟨.window, some p.soc, m || p.batteryFault⟩ ∧ q.selfMinutes = minutes ∧
          (0 < s.cfg.testWindow → q.cd = ⟨s.cfg.testWindow * 10, s.cfg.testWindow * 10, false, true⟩)) ∧
        (∀ x, r.st = .testing → g.ex.origin ≠ .test ∨ x.phase = .window → r.test = some x → p.call = false →
          q.st = .testing ∧ q.test = some { x with faultMark := x.faultMark || p.batteryFault } ∧ q.cd = r.cd) ∧
        (∀ soc0 m, r.st = .testing → g.ex.origin = .test → r.test = some ⟨.q1, some soc0, m⟩ → p.call = false →
          let grade := if m || p.batteryFault then 0 else if soc0 ≤ p.soc then 65535
            else min 65535 (p.soc * (r.cd.reload / 10) / (60 * (soc0 - p.soc)))
          q.has .tested = true ∧ q.testOutcome = some .graded ∧ q.selfMinutes = some grade ∧ q.test = none ∧
          (row.selfSufficient ≤ grade → row.socFloor < p.soc → q.st = .carrying ∧ q.entered = s.clock) ∧
          (grade < row.selfSufficient ∨ p.soc ≤ row.socFloor → fed))) ∧
      (rep = none →
        (r.st = .carrying → q.st = .silent ∧ q.has .linkfail = true) ∧
        (r.st = .fed ∨ r.st = .waiting ∨ r.st = .lapsed ∨ r.st = .waking ∨ r.st = .resting ∨ r.st = .silent →
          q.st = r.st ∧ q.has .linkfail = true) ∧
        (∀ x, r.st = .testing → g.ex.origin ≠ .test ∨ x.phase = .window → r.test = some x →
          q.st = .testing ∧ q.test = some x ∧ q.has .linkfail = true) ∧
        (∀ c m, r.st = .testing → g.ex.origin = .test → r.test = some ⟨.q0, c, m⟩ ∨ r.test = some ⟨.q1, c, m⟩ →
          q.st = .silent ∧ q.has .tested = true ∧ q.testOutcome = some .failed ∧ q.has .linkfail = r.has .linkfail))

/-- A REST and a SHED complete (R124, R126, R129, R130, R131): a REST that is answered takes every serving state to
RESTING, dropping what the terminal would not hear, TESTING with a call active too (log entry 17, R129 against R170); a
SHED leaves the state, but that its call-active yes abandons a test (R170); a final failure of either sets LINKFAIL and
leaves the state. -/
def Obligations.RestAndShedComplete : Prop :=
  ∀ (e : Engine) (g : Engagement) (o : ExOutcome) (rep : Option Report) (r : Record) (s : State),
    s.inReset = false → s.isDue (.complete e) = true → s.engine e = some g → g.outcome = some (o, rep) →
    s.rec? g.idx = some r → s.AdmissionQueueExact →
    (g.ex.kind = .rest → ∃ t q, exec (.restComplete e) s = .next t ∧ t.rec? g.idx = some q ∧
      t.supply = s.supply ∧ t.clock = s.clock ∧ t.cfg = s.cfg ∧ t.host = s.host ∧ s.OthersKept g.idx t ∧
      (g.ex.origin = .request → q.has .sent = true ∧ q.lastOutcome = some (.rest, o)) ∧
      (∀ p, rep = some p → q.soc = some p.soc ∧ q.call = p.call ∧ q.lastSeen = some s.clock ∧
        (r.st = .carrying ∨ r.st = .lapsed ∨ r.st = .silent ∨ r.st = .fed ∨ r.st = .waiting ∨ r.st = .testing →
          q.st = .resting ∧ (∀ x, q.pend = some x → x.kind = .wake) ∧
          (r.st = .fed → q.admitted = none) ∧
          (r.st = .testing → q.has .tested = true ∧ q.testOutcome = some .abandoned)) ∧
        (r.st = .waking ∨ r.st = .resting → q.st = r.st)) ∧
      (rep = none → q.has .linkfail = true ∧ q.st = r.st)) ∧
    (g.ex.kind = .shed → ∃ t q, exec (.shedComplete e) s = .next t ∧ t.rec? g.idx = some q ∧
      t.supply = s.supply ∧ t.clock = s.clock ∧ t.cfg = s.cfg ∧ t.host = s.host ∧ s.OthersKept g.idx t ∧
      (g.ex.origin = .request → q.has .sent = true ∧ q.lastOutcome = some (.shed, o)) ∧
      (∀ p, rep = some p → q.soc = some p.soc ∧ q.load = some p.load ∧ q.lastSeen = some s.clock ∧
        (r.st ≠ .testing → q.st = r.st) ∧
        (∀ x, r.st = .testing → r.test = some x → p.call = false → q.st = .testing ∧
          q.test = some { x with faultMark := x.faultMark || p.batteryFault }) ∧
        (r.st = .testing → p.call = true →
          q.has .tested = true ∧ q.testOutcome = some .abandoned ∧ q.test = none ∧
          (0 < r.allowance → q.st = .waiting ∨ q.st = .fed) ∧
          (r.allowance = 0 → (s.cfg.policy r.cls).topUp = 0 → q.st = .lapsed ∧ q.has .lapsed = true))) ∧
      (rep = none → q.has .linkfail = true ∧ q.load = r.load ∧ q.st = r.st))

/-! ### The tick and the events it makes due -/

/-- A tick (R10, R29, R31, R34, R35, R36, R65, R66, R68, R75, R149, R156): the clock goes up by 1; the codes are kept; the
mark is taken up as the tick begins (log entry 4); outside MAINS Q is debited by 20 times the bus code; the undervoltage run
counts; in MAINS the mains-fail count runs to its limit, where its debounce is due, and outside it the mains-return
count; where no supply event is due the mode is evaluated, OUTAGE and CRITICAL by the new Q and DEPLETED not at all; the
running countdowns fall by 1, and one that falls to 0 makes its expiry due; the debit pass debits a FED record on a cell in
RAMP or FEED by its port's code (R68). `order` names the events that the tick takes ahead of a step of the meter's work
(log entry 3). -/
def Obligations.Tick : Prop :=
  (∀ (s : State) (i : Idx) (r : Record), s.rec? i = some r →
    let last := decide (r.cd.running = true ∧ r.cd.remaining ≤ 1)
    (countDown s).rec? i = some { r with cd :=
      if r.cd.running = false then r.cd
      else if 1 < r.cd.remaining then { r.cd with remaining := r.cd.remaining - 1 }
      else if r.cd.repeats = true then { r.cd with remaining := r.cd.reload }
      else { r.cd with remaining := 0, running := false } } ∧
    (countDown s).isDue (.expiry i) = (s.isDue (.expiry i) || last)) ∧
  ∀ (scan : Scan) (order : TickOrder) (s : State), s.inReset = false → s.agenda = ⟨[], false, false⟩ →
    let now := if s.meter.mark = .clear then s.meter.now else s.meter.mark
    let low := scan.volt.toNat * 50 < s.cfg.uvFloor * 100
    let latches := low ∧ 2 ≤ s.supply.uvRun ∧ s.supply.latch = false
    let returned := s.supply.mode ≠ .mains ∧ scan.mains = true ∧
      s.cfg.returnDebounce * 10 ≤ s.supply.returnCount + 1
    let counted := if scan.mains then min (s.cfg.returnDebounce * 10) (s.supply.returnCount + 1) else 0
    ∃ t, exec (.tick scan order) s = .next t ∧ t.clock = s.clock + 1 ∧ t.meter.lastBus = scan.bus.toNat ∧
      t.meter.lastVolt = scan.volt.toNat ∧ (∀ p : Port, t.cells[p].lastScan = scan.codes[p].toNat) ∧
      t.tick.bias = scan.bias ∧
      (∀ p : Port, p ∈ t.tick.spaces ↔ ∃ e g, s.engineOn p = some e ∧ s.engine e = some g ∧ g.phase = .sending ∧
        (e = .a → scan.spaceA = true) ∧ (e = .b → scan.spaceB = true)) ∧
      t.meter.now = now ∧ (t.isDue .apportion = true ↔ now ≠ .clear) ∧
      t.cfg = s.cfg ∧ t.host = s.host ∧ t.inReset = s.inReset ∧ t.pending = s.pending ∧
      t.supply.lastMains = some scan.mains ∧ t.supply.latch = s.supply.latch ∧
      t.supply.q = (if s.supply.mode = .mains then s.supply.q
        else s.supply.q.map fun q => q - 20 * scan.bus.toNat) ∧
      t.supply.uvRun = (if low then min 3 (s.supply.uvRun + 1) else 0) ∧
      (t.isDue .latch = true ↔ latches) ∧ (t.isDue .returnDebounce = true ↔ returned) ∧
      (s.supply.mode = .mains → t.supply.mode = .mains ∧
        (scan.mains = true → t.supply.failCount = 0) ∧
        (scan.mains = false → t.supply.failCount = min (s.cfg.failDebounce * 10) (s.supply.failCount + 1) ∧
          (t.isDue .failDebounce = true ↔
            s.cfg.failDebounce * 10 ≤ s.supply.failCount + 1 ∧ s.supply.held = false))) ∧
      (s.supply.mode ≠ .mains → latches ∨ returned →
        t.supply.mode = s.supply.mode ∧ t.supply.returnCount = counted) ∧
      (s.supply.mode = .depleted → t.supply.mode = .depleted ∧ t.supply.returnCount = counted) ∧
      (∀ q0, s.supply.mode = .outage ∨ s.supply.mode = .critical → ¬latches → ¬returned → s.supply.q = some q0 →
        let q := q0 - 20 * scan.bus.toNat
        let selected : Mode := if q ≤ s.cfg.cutoff ∨ s.supply.latch = true then .depleted
          else if q ≤ s.cfg.holdBack then .critical else .outage
        t.supply.mode = selected ∧ (selected = s.supply.mode → t.supply.returnCount = counted) ∧
        (selected ≠ s.supply.mode → t.supply.returnCount = 0 ∧ t.dev.mode = true ∧ t.meter.mark ≠ .clear)) ∧
      (order.early = [] → order.mid = [] → ∀ (p : Port) (i : Idx) (r : Record), s.boundAt p = some i →
        s.rec? i = some r → r.st = .fed → s.cells[p].drive = .ramp ∨ s.cells[p].drive = .feed →
        scan.codes[p].toNat < r.allowance →
        ∃ q, t.rec? i = some q ∧ q.allowance = r.allowance - scan.codes[p].toNat) ∧
      (order.early = [] → order.mid = [] →
        ((∃ a, s.schedule.head? = some a ∧ (s.clock + 1 - a.due).toNat < 2147483648) ↔
          t.isDue .appointments = true) ∧
        ∀ i r, s.rec? i = some r → s.AdmissionQueueExact → r.st ≠ .fed → r.st ≠ .waiting →
          t.supply.mode = s.supply.mode → ∃ q, t.rec? i = some q ∧
            ((countDown s).rec? i).map (·.cd) = some q.cd ∧ q.st = r.st ∧ q.allowance = r.allowance ∧
            (t.isDue (.expiry i) = true ↔ r.cd.running = true ∧ r.cd.remaining ≤ 1))

/-- The debit pass at one port (R67, R68): a FED record on a cell in RAMP or FEED is debited by the code, saturating at
0; a debit that leaves 0 makes it lapse with its flag and its feed released, and the class top-up moves what the pool and
the cap allow, upon which it leaves LAPSED (R71, R73); a record that is not FED is not debited. -/
def Obligations.DebitPort : Prop :=
  ∀ (scan : Scan) (p : Port) (i : Idx) (r : Record) (s : State), s.boundAt p = some i → s.rec? i = some r →
    (r.st ≠ .fed → debitPort scan s p = s) ∧
    (r.st = .fed → s.cells[p].drive = .ramp ∨ s.cells[p].drive = .feed →
      (scan.codes[p].toNat < r.allowance →
        debitPort scan s p = setRec i (some { r with allowance := r.allowance - scan.codes[p].toNat }) s) ∧
      (r.allowance ≤ scan.codes[p].toNat → ∃ q, (debitPort scan s p).rec? i = some q ∧ q.has .lapsed = true ∧
        q.admitted = none ∧ i ∉ (debitPort scan s p).arbiter.feedList ∧ (debitPort scan s p).agenda.decision = true ∧
        ((s.cfg.policy r.cls).topUp = 0 → q.st = .lapsed ∧ q.allowance = 0) ∧
        (s.meter.pool = 0 → 0 < (s.cfg.policy r.cls).topUp →
          q.st = .lapsed ∧ (debitPort scan s p).dev.poolEmpty = true) ∧
        (0 < s.meter.pool → 0 < (s.cfg.policy r.cls).topUp →
          let asked := min (s.cfg.policy r.cls).topUp s.meter.pool
          let moved := min asked (r.cap.getD asked)
          q.allowance = moved ∧ (debitPort scan s p).meter = { s.meter with pool := s.meter.pool - moved } ∧
          (debitPort scan s p).dev = s.dev ∧ (moved = 0 → q.st = .lapsed) ∧
          (0 < moved →
            (s.supply.mode = .outage ∨ s.supply.mode = .critical ∧ r.cls = .lifeline →
              q.st = .waiting ∧ q.cd.running = false ∧ i ∈ (debitPort scan s p).arbiter.queue) ∧
            (s.supply.mode = .critical → r.cls ≠ .lifeline → q.st = .carrying)))))

/-- The supply controller's events (R30, R31, R35, R36, R38 to R45): the latch sends OUTAGE and CRITICAL to DEPLETED; the
mains-fail debounce leaves MAINS for the selected mode, or holds the outage while Q is unset; the mains-return debounce
enters MAINS with its orders. Each entry gives the orders of its mode. -/
def Obligations.SupplyEvents : Prop :=
  ∀ s : State, s.inReset = false →
    (s.isDue .latch = true → s.isDue .failDebounce = false → s.isDue .returnDebounce = false →
      ∃ t, exec .undervoltageLatch s = .next t ∧ t.supply.latch = true ∧ t.supply.q = s.supply.q ∧
        (s.supply.mode = .mains ∨ s.supply.mode = .depleted → t.supply = { s.supply with latch := true }) ∧
        (s.supply.mode = .outage ∨ s.supply.mode = .critical → s.supply.q ≠ none →
          t.supply.mode = .depleted ∧ (s.FeedLaw → s.OrdersGiven t))) ∧
    (s.isDue .failDebounce = true → s.isDue .latch = false → s.supply.mode = .mains →
      (s.supply.q = none → ∃ t, exec .mainsFailDebounce s = .next t ∧ t.slots = s.slots ∧ t.cells = s.cells ∧
        t.supply = { s.supply with held := true } ∧ t.dev = { s.dev with outagePending := true }) ∧
      ∀ q, s.supply.q = some q → ∃ t, exec .mainsFailDebounce s = .next t ∧
        t.supply = { s.supply with
          mode := if q ≤ s.cfg.cutoff ∨ s.supply.latch = true then .depleted
            else if q ≤ s.cfg.holdBack then .critical else .outage
          failCount := 0, returnCount := 0, held := false } ∧ (s.FeedLaw → s.OrdersGiven t)) ∧
    (s.isDue .returnDebounce = true → s.isDue .latch = false → s.supply.mode ≠ .mains →
      ∃ t, exec .mainsReturnDebounce s = .next t ∧
        t.supply = { s.supply with
          mode := .mains, failCount := 0, returnCount := 0, held := false, latch := false, uvRun := 0 } ∧
        t.dev.mode = true ∧ t.meter = s.meter ∧ t.arbiter = ⟨[], []⟩ ∧ t.link.queue = [] ∧ t.link.engA = none ∧
        t.link.engB = none ∧ t.schedule = s.schedule ∧
        (∀ p : Port, t.cells[p].drive = .off ∧ t.cells[p].faultCount = 0) ∧
        ∀ i r, s.rec? i = some r → ∃ u, t.rec? i = some u ∧ u.st = .idle ∧ u.cd.running = false ∧
          u.admitted = none ∧ u.pend = none ∧ u.allowance = r.allowance ∧
          (r.st = .testing → u.has .tested = true ∧ u.testOutcome = some .abandoned))

/-- The expiries of a countdown by the state the record holds (R10, R144, R145, R146, R167). The exchange that an expiry in
CARRYING or FED asks for is placed by what the record holds pending (R119): dropped where that is of its kind, or a WAKE,
and placed in an empty slot, also behind one in flight. The one it is dropped against stays, or is taken by the pick that
was left for it (R146, R162, log entry 22). Cooling ends with a decision. -/
def Obligations.Expiries : Prop :=
  ∀ (i : Idx) (r : Record) (s : State), s.inReset = false → s.isDue (.expiry i) = true → s.rec? i = some r →
    (r.st = .carrying ∨ r.st = .fed → ∃ t q, exec (.queryIntervalExpiry i) s = .next t ∧ t.rec? i = some q ∧
      q.st = r.st ∧ t.isDue (.expiry i) = false ∧ s.RestKept i t ∧ t.arbiter = s.arbiter ∧ t.meter = s.meter ∧
      (s.supply.mode = .critical ∧ r.cls ≠ .lifeline ∧ r.st = .carrying → t.Holds i .rest 0) ∧
      (¬(s.supply.mode = .critical ∧ r.cls ≠ .lifeline ∧ r.st = .carrying) → t.HoldsQuery i) ∧
      (∀ k, (k = .rest ↔ s.supply.mode = .critical ∧ r.cls ≠ .lifeline ∧ r.st = .carrying) → k = .rest ∨ k = .query →
        (r.pend = none → s.inFlight i ≠ none → q.pend = some ⟨k, 0, .policy⟩ ∧ t.inFlight i = s.inFlight i) ∧
        (∀ y, r.pend = some y → y.kind = k ∧ y.arg = 0 ∨ y.kind = .wake ∧ k = .query →
          q.pend = some y ∧ t.inFlight i = s.inFlight i ∨ s.inFlight i = none ∧ q.pend = none ∧
            ∃ e g, t.inFlight i = some e ∧ t.engine e = some g ∧ g.ex = y))) ∧
    (r.st = .resting ∨ r.st = .silent → ∃ t q, exec (.wakePeriodExpiry i) s = .next t ∧ t.rec? i = some q ∧
      t.isDue (.expiry i) = false ∧ s.RestKept i t ∧ t.arbiter = s.arbiter ∧ t.meter = s.meter ∧
      (s.supply.mode = .critical ∧ r.cls ≠ .lifeline → q = { r with cd := r.cd.again }) ∧
      (¬(s.supply.mode = .critical ∧ r.cls ≠ .lifeline) →
        q.st = .waking ∧ q.cd.running = false ∧ t.Holds i .wake 0)) ∧
    (r.st = .waiting → ∃ t q, exec (.coolingEnd i) s = .next t ∧ t.rec? i = some q ∧
      t.isDue (.expiry i) = false ∧ s.RestKept i t ∧ t.meter = s.meter ∧ (q.st = .waiting ∨ q.st = .fed) ∧
      (∀ rest, s.arbiter.queue = i :: rest → r.cd.running = false → r.ceiling + s.budget ≤ s.cfg.busCap →
        s.supply.mode = .outage ∨ s.supply.mode = .critical →
        q.st = .fed ∧ q.admitted = some r.ceiling ∧ i ∈ t.arbiter.feedList)) ∧
    (∀ c m, r.st = .testing → r.test = some ⟨.window, c, m⟩ →
      ∃ t q, exec (.testWindowExpiry i) s = .next t ∧ t.rec? i = some q ∧ q.st = .testing ∧
        q.test = some ⟨.q1, c, m⟩ ∧ q.cd = r.cd ∧ q.entered = r.entered ∧ t.Holds i .query 0 ∧ s.RestKept i t ∧
        t.arbiter = s.arbiter ∧ t.meter = s.meter)

/-- The sample of a port cell, one event (R46), and the works it brings, RAMP_END, FEED_RUN_COMPLETE, CALL_PULSE,
OVER_CEILING_SHED and PRESENCE_SETTLE (R49, R54, R57, R62, R63). A tick takes a sample that brings none and leaves one
that does due, here for a tick whose order names no event, and for a bound port whose record the same tick does not
lapse, admit, take for an exchange or move to another mode. Any row of a work that the sample brings takes the whole
sample (log entry 21); a gain and a call of one sample are both done, the gain first. A call that the tick finds in a
test window sets CALL behind the window's expiry too (R172). -/
def Obligations.CellEvents : Prop :=
  (∀ (scan : Scan) (p : Port) (i : Idx) (r : Record) (s t : State), s.inReset = false →
    s.agenda = ⟨[], false, false⟩ → s.UniquePorts → s.AdmissionQueueExact → s.rec? i = some r → r.port = some p →
    r.pend = none → r.st ≠ .waiting → (r.st = .fed → scan.codes[p].toNat < r.allowance) →
    exec (.tick scan {}) s = .next t → t.supply.mode = s.supply.mode →
    let c := s.cells[p]
    let v := scan.codes[p].toNat
    let space := decide (p ∈ t.tick.spaces)
    ∃ d, c.Counts (sampleReads c.drive space scan.bias[p] v) (s.engineOn p).isSome (r.admitted.getD 0) v d ∧
      (t.isDue (.sample p) = true ↔ c.Brings d) ∧ (¬c.Brings d → t.cells[p] = d) ∧
      (c.Brings d → t.cells[p] = { c with lastScan := v })) ∧
  ∀ (p : Port) (i : Idx) (r : Record) (s : State), s.inReset = false → s.boundAt p = some i → s.rec? i = some r →
    s.isDue (.sample p) = true →
    let c := s.cells[p]
    let d := s.sampled p
    let v := c.lastScan
    let calls := c.drive = .sense ∧ s.engineOn p = none ∧ c.callHeld = false ∧ 0 < c.callRun ∧
      ∃ b, c.callBase = some b ∧ b + 4 ≤ v
    let alone := c.presRun < 2 ∧ p ∉ s.tick.calls
    c.Counts (sampleReads c.drive (decide (p ∈ s.tick.spaces)) s.tick.bias[p] v) (s.engineOn p).isSome
      (r.admitted.getD 0) v d ∧
    (∃ t, t.isDue (.sample p) = false ∧
      (c.presRun < 3 → d.presRun = 3 → exec (.presenceSettle p) s = .next t) ∧
      (c.callHeld = false → d.callHeld = true → exec (.callPulse p) s = .next t) ∧
      (c.overRun < 3 → d.overRun = 3 → exec (.overCeilingShed p) s = .next t) ∧
      (c.drive = .ramp → d.rampCount = 0 → exec (.rampEnd p) s = .next t) ∧
      (c.feedRun < 600 → d.feedRun = 600 → exec (.feedRunComplete p) s = .next t)) ∧
    (∀ a, alone → c.drive = .ramp → c.rampCount ≤ 1 → r.admitted = some a →
      ∃ t, exec (.rampEnd p) s = .next t ∧ t.slots = s.slots ∧ t.cells = s.cells.set p { d with
        drive := .feed, trip := some (a * 3 / 2), rampCount := 0, feedRun := 0, overRun := 0 }) ∧
    (alone → c.drive = .feed → c.feedRun = 599 → c.overRun ≠ 2 ∨ v ≤ r.admitted.getD 0 →
      ∃ t, exec (.feedRunComplete p) s = .next t ∧ t.slots = s.slots ∧
        t.cells = s.cells.set p { d with faultCount := 0 }) ∧
    (alone → c.drive = .feed → c.overRun = 2 → r.admitted.getD 0 < v →
      ∃ t, exec (.overCeilingShed p) s = .next t ∧ s.RestKept i t ∧ (r.load = some 3 → t.slots = s.slots) ∧
        (r.load ≠ some 3 →
          t.Holds i .shed (min 3 (max (r.load.getD 0) (s.cfg.policy r.cls).shedLevel + 1)))) ∧
    (calls → c.presRun < 2 → ∃ t q, exec (.callPulse p) s = .next t ∧ t.rec? i = some q ∧ q.has .call = true ∧
      (r.has .call = true → q.rep = true) ∧ s.RestKept i t ∧
      (r.st = .resting → q.st = .carrying ∧ t.HoldsQuery i) ∧
      (r.st = .carrying ∨ r.st = .waiting ∨ r.st = .lapsed → q.st = r.st ∧ t.HoldsQuery i) ∧
      (r.st = .silent → q.st = .waking ∧ t.Holds i .wake 0) ∧
      (r.st = .waking → q.st = .waking) ∧
      (∀ x m, r.st = .testing → r.test = some ⟨.window, x, m⟩ →
        q.st ≠ .testing ∧ q.has .tested = true ∧ q.testOutcome = some .abandoned) ∧
      (∀ x m, r.st = .testing → r.test = some ⟨.q0, x, m⟩ ∨ r.test = some ⟨.q1, x, m⟩ → q.st = .testing)) ∧
    (calls → c.presence = .absent → c.cand = some .present → c.presRun = 2 → s.tick.bias[p] = true →
      p ∉ s.tick.spaces → r.st = .silent → (s.supply.mode = .critical → r.cls = .lifeline) →
      ∃ t q, exec (.callPulse p) s = .next t ∧ t.rec? i = some q ∧ q.st = .waking ∧ q.has .presence = true ∧
        q.has .call = true ∧ t.Holds i .wake 0) ∧
    (∀ x m, p ∈ s.tick.calls → c.presRun < 2 → c.drive = .sense → r.st = .testing → r.test = some ⟨.q1, x, m⟩ →
      ∃ t q, exec (.callPulse p) s = .next t ∧ t.rec? i = some q ∧ q.st = .testing ∧ q.test = r.test ∧
        q.has .call = true ∧ q.cd = r.cd)

/-- PRESENCE_SETTLE (R57, R58, R59), for a sample that recognises no call: a first sighting and a gain set last seen; a
gain and a loss set PRESENCE; a gain wakes a SILENT record; a loss makes every serving record SILENT without exchanges,
feed or test, and takes a FED record's cell to SENSE before the sample's later works. In DEPLETED every cell is OFF and
settles nothing (R43, R55). -/
def Obligations.PresenceSettles : Prop :=
  ∀ (p : Port) (i : Idx) (r : Record) (s : State), s.inReset = false → s.boundAt p = some i → s.rec? i = some r →
    s.isDue (.sample p) = true → s.cells[p].presRun = 2 → p ∉ s.tick.spaces → p ∉ s.tick.calls →
    s.recognises p = false → s.supply.mode ≠ .depleted → s.AdmissionQueueExact → s.OneEngineEach → s.UniquePorts →
    let reads := sampleReads s.cells[p].drive false s.tick.bias[p] s.cells[p].lastScan
    (reads = some .present → s.cells[p].cand = some .present → s.cells[p].presence ≠ .present → ∃ t q,
      exec (.presenceSettle p) s = .next t ∧ t.rec? i = some q ∧ q.lastSeen = some s.clock ∧
      t.cells[p].presence = .present ∧ t.cells[p].stamp = some s.clock ∧ t.cells[p].cand = none ∧
      t.cells[p].presRun = 0 ∧ s.RestKept i t ∧
      (s.cells[p].presence = .unknown → q.flags = r.flags ∧ q.st = r.st) ∧
      (s.cells[p].presence = .absent → q.has .presence = true ∧
        (r.st = .silent → (s.supply.mode = .critical → r.cls = .lifeline) → q.st = .waking ∧ t.Holds i .wake 0) ∧
        (r.st = .silent → s.supply.mode = .critical → r.cls ≠ .lifeline → q.st = .silent) ∧
        (r.st ≠ .silent → q.st = r.st))) ∧
    (reads = some .absent → s.cells[p].cand = some .absent → s.cells[p].presence ≠ .absent → ∃ t q,
      exec (.presenceSettle p) s = .next t ∧ t.rec? i = some q ∧ q.has .presence = true ∧
      t.cells[p].presence = .absent ∧ t.cells[p].stamp = some s.clock ∧ s.RestKept i t ∧
      (r.st = .lapsed ∨ r.st = .silent → q.st = r.st) ∧
      (r.st = .fed → r.port = some p → t.cells[p].drive = .sense ∧ t.cells[p].feedRun = 0 ∧ t.cells[p].overRun = 0 ∧
        t.cells[p].rampCount = 0 ∧ t.cells[p].faultCount = s.cells[p].faultCount) ∧
      (r.st = .waking ∨ r.st = .carrying ∨ r.st = .resting ∨ r.st = .waiting ∨ r.st = .fed ∨ r.st = .testing →
        q.st = .silent ∧ q.pend = none ∧ t.inFlight i = none ∧ (r.st = .fed → q.admitted = none) ∧
        (r.st = .testing → q.has .tested = true ∧ q.testOutcome = some .abandoned)))

/-- A trip (R50 to R53): the cell goes OFF, the feed is released, TRIP is set, the exchange in flight ends LINE (R51,
R125) and the fault count goes up; below 4 the pending exchange is kept or taken by the pick (R120) and the record waits,
cooling for 50 ticks, with its cell back in SENSE; at 4 it is FAULTED with its cell OFF and no pending exchange. A
current at or below the trip level, or a disarmed comparator, does nothing. -/
def Obligations.Trip : Prop :=
  ∀ (p : Port) (current : Nat) (s : State), s.inReset = false →
    (s.agenda.decision = false → s.agenda.pick = false →
      (s.cells[p].drive = .off ∨ s.cells[p].drive = .sense ∨ s.cells[p].trip = none ∨
        ∃ level, s.cells[p].trip = some level ∧ current ≤ level) → exec (.trip p current) s = .next s) ∧
    ∀ i r level, s.boundAt p = some i → s.rec? i = some r → r.st = .fed →
      s.cells[p].drive = .ramp ∨ s.cells[p].drive = .feed → s.cells[p].trip = some level → level < current →
      s.AdmissionQueueExact → s.FeedListExact → s.UniquePorts →
      ∃ t q, exec (.trip p current) s = .next t ∧ t.rec? i = some q ∧ q.admitted = none ∧ q.has .trip = true ∧
        i ∉ t.arbiter.feedList ∧ t.cells[p].faultCount = min 4 (s.cells[p].faultCount + 1) ∧
        t.cells[p].presence = .unknown ∧ t.cells[p].trip = none ∧ q.allowance = r.allowance ∧ s.RestKept i t ∧
        t.meter = s.meter ∧
        (s.cells[p].faultCount < 3 → q.st = .waiting ∧ q.cd = ⟨50, 50, false, true⟩ ∧ i ∈ t.arbiter.queue ∧
          t.cells[p].drive = .sense) ∧
        (s.OneEngineEach →
          (∀ e g, s.inFlight i = some e → s.engine e = some g → g.ex.origin = .request →
            q.has .sent = true ∧ q.lastOutcome = some (g.ex.kind, .line)) ∧
          (s.cells[p].faultCount < 3 → q.pend = r.pend ∧ t.inFlight i = none ∨ q.pend = none ∧
            ∃ e h, t.inFlight i = some e ∧ t.engine e = some h ∧ r.pend = some h.ex ∧ h.attempts = 1 ∧
              h.outcome = none)) ∧
        (3 ≤ s.cells[p].faultCount → q.st = .faulted ∧ q.has .faulted = true ∧ q.pend = none ∧
          (s.OneEngineEach → t.inFlight i = none) ∧ t.cells[p].drive = .off)

/-! ### NEXT and CLEAR -/

/-- NEXT (R181): the device flags first, or else the lowest record of the attention set with its whole flag set, or else
NONE; it clears exactly what it reports. -/
def Obligations.NextReports : Prop :=
  ∀ (fr : Framing) (s : State), s.Quiet → fr.fits 0 = true →
    let set := s.dev.mode || s.dev.poolEmpty || s.dev.capshed || s.dev.outagePending
    (set = true → exec (.next fr) s = .next (s.replied { s with dev := ⟨false, false, false, false⟩ }
      ⟨.done, [255, s.dev.byte]⟩)) ∧
    (set = false →
      ((∀ i r, s.rec? i = some r → r.flags &&& ~~~s.cfg.mask = 0) →
        exec (.next fr) s = .next (s.replied s ⟨.none, []⟩)) ∧
      ∀ i r, s.rec? i = some r → r.flags &&& ~~~s.cfg.mask ≠ 0 →
        (∀ j q, j < i → s.rec? j = some q → q.flags &&& ~~~s.cfg.mask = 0) →
        exec (.next fr) s = .next (s.replied (setRec i (some { r with flags := 0, rep := false }) s)
          ⟨.done, [byteOf i.val, r.flags, boolByte r.rep] ++ optBytes (fun o => [TestOutcome.byte o]) r.testOutcome ++
            optBytes (fun o : ExKind × ExOutcome => [o.1.byte, o.2.byte]) r.lastOutcome⟩))

/-- CLEAR (R182): the table, the collections, the schedule, the pool, the cells and the device flags go back to empty;
the supply controller, the clock, the mark, the scan codes and every setting are kept. What an engine that is not sending
has put on its pair stays; the bits of one that is are cut (R115). -/
def Obligations.ClearEmpties : Prop :=
  ∀ (fr : Framing) (s : State), s.Quiet → fr.fits 0 = true →
    ∃ t, exec (.clear fr) s = .next t ∧ (∀ i : Idx, t.rec? i = none) ∧
      (∀ p : Port, t.cells[p] = { Cell.reset with lastScan := s.cells[p].lastScan }) ∧
      t = s.replied { s with
        slots := t.slots, cells := t.cells, dev := ⟨false, false, false, false⟩
        meter := { s.meter with pool := 0 }, arbiter := ⟨[], []⟩, link := t.link, schedule := [] } ⟨.done, []⟩ ∧
      t.link.queue = [] ∧ t.link.engA = none ∧ t.link.engB = none ∧
      (∀ e : Engine, (∀ g, s.engine e = some g → g.phase ≠ .sending) → t.lineOf e = s.lineOf e) ∧
      t.attn = false
end

