-- ==== Sys2Proof/Laws/State.lean ====
section
/-! SUPPORT. One lemma per field for each plain update of the state: what the update leaves as it was, and what it
writes. All are true by definition, those of an engine's or a line's update by definition for either engine. -/

namespace Sys2Proof.Machine

open Sys2Proof

@[simp] theorem setRec_dev (i : Idx) (r : Option Record) (s : State) : (setRec i r s).dev = s.dev := rfl
@[simp] theorem setRec_cells (i : Idx) (r : Option Record) (s : State) : (setRec i r s).cells = s.cells := rfl
@[simp] theorem setRec_supply (i : Idx) (r : Option Record) (s : State) : (setRec i r s).supply = s.supply := rfl
@[simp] theorem setRec_meter (i : Idx) (r : Option Record) (s : State) : (setRec i r s).meter = s.meter := rfl
@[simp] theorem setRec_arbiter (i : Idx) (r : Option Record) (s : State) : (setRec i r s).arbiter = s.arbiter := rfl
@[simp] theorem setRec_link (i : Idx) (r : Option Record) (s : State) : (setRec i r s).link = s.link := rfl
@[simp] theorem setRec_clock (i : Idx) (r : Option Record) (s : State) : (setRec i r s).clock = s.clock := rfl
@[simp] theorem setRec_schedule (i : Idx) (r : Option Record) (s : State) : (setRec i r s).schedule = s.schedule := rfl
@[simp] theorem setRec_cfg (i : Idx) (r : Option Record) (s : State) : (setRec i r s).cfg = s.cfg := rfl
@[simp] theorem setRec_host (i : Idx) (r : Option Record) (s : State) : (setRec i r s).host = s.host := rfl
@[simp] theorem setRec_inReset (i : Idx) (r : Option Record) (s : State) : (setRec i r s).inReset = s.inReset := rfl
@[simp] theorem setRec_tick (i : Idx) (r : Option Record) (s : State) : (setRec i r s).tick = s.tick := rfl
@[simp] theorem setRec_agenda (i : Idx) (r : Option Record) (s : State) : (setRec i r s).agenda = s.agenda := rfl
@[simp] theorem setRec_pending (i : Idx) (r : Option Record) (s : State) : (setRec i r s).pending = s.pending := rfl

@[simp] theorem updCell_slots (p : Port) (f : Cell → Cell) (s : State) : (updCell p f s).slots = s.slots := rfl
@[simp] theorem updCell_dev (p : Port) (f : Cell → Cell) (s : State) : (updCell p f s).dev = s.dev := rfl
@[simp] theorem updCell_supply (p : Port) (f : Cell → Cell) (s : State) : (updCell p f s).supply = s.supply := rfl
@[simp] theorem updCell_meter (p : Port) (f : Cell → Cell) (s : State) : (updCell p f s).meter = s.meter := rfl
@[simp] theorem updCell_arbiter (p : Port) (f : Cell → Cell) (s : State) : (updCell p f s).arbiter = s.arbiter := rfl
@[simp] theorem updCell_link (p : Port) (f : Cell → Cell) (s : State) : (updCell p f s).link = s.link := rfl
@[simp] theorem updCell_clock (p : Port) (f : Cell → Cell) (s : State) : (updCell p f s).clock = s.clock := rfl
@[simp] theorem updCell_schedule (p : Port) (f : Cell → Cell) (s : State) : (updCell p f s).schedule = s.schedule := rfl
@[simp] theorem updCell_cfg (p : Port) (f : Cell → Cell) (s : State) : (updCell p f s).cfg = s.cfg := rfl
@[simp] theorem updCell_host (p : Port) (f : Cell → Cell) (s : State) : (updCell p f s).host = s.host := rfl
@[simp] theorem updCell_inReset (p : Port) (f : Cell → Cell) (s : State) : (updCell p f s).inReset = s.inReset := rfl
@[simp] theorem updCell_tick (p : Port) (f : Cell → Cell) (s : State) : (updCell p f s).tick = s.tick := rfl
@[simp] theorem updCell_agenda (p : Port) (f : Cell → Cell) (s : State) : (updCell p f s).agenda = s.agenda := rfl
@[simp] theorem updCell_pending (p : Port) (f : Cell → Cell) (s : State) : (updCell p f s).pending = s.pending := rfl

@[simp] theorem callDecision_slots (s : State) : (callDecision s).slots = s.slots := rfl
@[simp] theorem callDecision_dev (s : State) : (callDecision s).dev = s.dev := rfl
@[simp] theorem callDecision_cells (s : State) : (callDecision s).cells = s.cells := rfl
@[simp] theorem callDecision_supply (s : State) : (callDecision s).supply = s.supply := rfl
@[simp] theorem callDecision_meter (s : State) : (callDecision s).meter = s.meter := rfl
@[simp] theorem callDecision_arbiter (s : State) : (callDecision s).arbiter = s.arbiter := rfl
@[simp] theorem callDecision_link (s : State) : (callDecision s).link = s.link := rfl
@[simp] theorem callDecision_clock (s : State) : (callDecision s).clock = s.clock := rfl
@[simp] theorem callDecision_schedule (s : State) : (callDecision s).schedule = s.schedule := rfl
@[simp] theorem callDecision_cfg (s : State) : (callDecision s).cfg = s.cfg := rfl
@[simp] theorem callDecision_host (s : State) : (callDecision s).host = s.host := rfl
@[simp] theorem callDecision_inReset (s : State) : (callDecision s).inReset = s.inReset := rfl
@[simp] theorem callDecision_tick (s : State) : (callDecision s).tick = s.tick := rfl
@[simp] theorem callDecision_pending (s : State) : (callDecision s).pending = s.pending := rfl

@[simp] theorem callPick_slots (s : State) : (callPick s).slots = s.slots := rfl
@[simp] theorem callPick_dev (s : State) : (callPick s).dev = s.dev := rfl
@[simp] theorem callPick_cells (s : State) : (callPick s).cells = s.cells := rfl
@[simp] theorem callPick_supply (s : State) : (callPick s).supply = s.supply := rfl
@[simp] theorem callPick_meter (s : State) : (callPick s).meter = s.meter := rfl
@[simp] theorem callPick_arbiter (s : State) : (callPick s).arbiter = s.arbiter := rfl
@[simp] theorem callPick_link (s : State) : (callPick s).link = s.link := rfl
@[simp] theorem callPick_clock (s : State) : (callPick s).clock = s.clock := rfl
@[simp] theorem callPick_schedule (s : State) : (callPick s).schedule = s.schedule := rfl
@[simp] theorem callPick_cfg (s : State) : (callPick s).cfg = s.cfg := rfl
@[simp] theorem callPick_host (s : State) : (callPick s).host = s.host := rfl
@[simp] theorem callPick_inReset (s : State) : (callPick s).inReset = s.inReset := rfl
@[simp] theorem callPick_tick (s : State) : (callPick s).tick = s.tick := rfl
@[simp] theorem callPick_pending (s : State) : (callPick s).pending = s.pending := rfl

@[simp] theorem makeDue_slots (ev : Event) (s : State) : (makeDue ev s).slots = s.slots := rfl
@[simp] theorem makeDue_dev (ev : Event) (s : State) : (makeDue ev s).dev = s.dev := rfl
@[simp] theorem makeDue_cells (ev : Event) (s : State) : (makeDue ev s).cells = s.cells := rfl
@[simp] theorem makeDue_supply (ev : Event) (s : State) : (makeDue ev s).supply = s.supply := rfl
@[simp] theorem makeDue_meter (ev : Event) (s : State) : (makeDue ev s).meter = s.meter := rfl
@[simp] theorem makeDue_arbiter (ev : Event) (s : State) : (makeDue ev s).arbiter = s.arbiter := rfl
@[simp] theorem makeDue_link (ev : Event) (s : State) : (makeDue ev s).link = s.link := rfl
@[simp] theorem makeDue_clock (ev : Event) (s : State) : (makeDue ev s).clock = s.clock := rfl
@[simp] theorem makeDue_schedule (ev : Event) (s : State) : (makeDue ev s).schedule = s.schedule := rfl
@[simp] theorem makeDue_cfg (ev : Event) (s : State) : (makeDue ev s).cfg = s.cfg := rfl
@[simp] theorem makeDue_host (ev : Event) (s : State) : (makeDue ev s).host = s.host := rfl
@[simp] theorem makeDue_inReset (ev : Event) (s : State) : (makeDue ev s).inReset = s.inReset := rfl
@[simp] theorem makeDue_tick (ev : Event) (s : State) : (makeDue ev s).tick = s.tick := rfl
@[simp] theorem makeDue_pending (ev : Event) (s : State) : (makeDue ev s).pending = s.pending := rfl

@[simp] theorem dropDue_slots (ev : Event) (s : State) : (dropDue ev s).slots = s.slots := rfl
@[simp] theorem dropDue_dev (ev : Event) (s : State) : (dropDue ev s).dev = s.dev := rfl
@[simp] theorem dropDue_cells (ev : Event) (s : State) : (dropDue ev s).cells = s.cells := rfl
@[simp] theorem dropDue_supply (ev : Event) (s : State) : (dropDue ev s).supply = s.supply := rfl
@[simp] theorem dropDue_meter (ev : Event) (s : State) : (dropDue ev s).meter = s.meter := rfl
@[simp] theorem dropDue_arbiter (ev : Event) (s : State) : (dropDue ev s).arbiter = s.arbiter := rfl
@[simp] theorem dropDue_link (ev : Event) (s : State) : (dropDue ev s).link = s.link := rfl
@[simp] theorem dropDue_clock (ev : Event) (s : State) : (dropDue ev s).clock = s.clock := rfl
@[simp] theorem dropDue_schedule (ev : Event) (s : State) : (dropDue ev s).schedule = s.schedule := rfl
@[simp] theorem dropDue_cfg (ev : Event) (s : State) : (dropDue ev s).cfg = s.cfg := rfl
@[simp] theorem dropDue_host (ev : Event) (s : State) : (dropDue ev s).host = s.host := rfl
@[simp] theorem dropDue_inReset (ev : Event) (s : State) : (dropDue ev s).inReset = s.inReset := rfl
@[simp] theorem dropDue_tick (ev : Event) (s : State) : (dropDue ev s).tick = s.tick := rfl
@[simp] theorem dropDue_pending (ev : Event) (s : State) : (dropDue ev s).pending = s.pending := rfl

@[simp] theorem clearNotes_slots (s : State) : (clearNotes s).slots = s.slots := rfl
@[simp] theorem clearNotes_dev (s : State) : (clearNotes s).dev = s.dev := rfl
@[simp] theorem clearNotes_cells (s : State) : (clearNotes s).cells = s.cells := rfl
@[simp] theorem clearNotes_supply (s : State) : (clearNotes s).supply = s.supply := rfl
@[simp] theorem clearNotes_meter (s : State) : (clearNotes s).meter = s.meter := rfl
@[simp] theorem clearNotes_arbiter (s : State) : (clearNotes s).arbiter = s.arbiter := rfl
@[simp] theorem clearNotes_link (s : State) : (clearNotes s).link = s.link := rfl
@[simp] theorem clearNotes_clock (s : State) : (clearNotes s).clock = s.clock := rfl
@[simp] theorem clearNotes_schedule (s : State) : (clearNotes s).schedule = s.schedule := rfl
@[simp] theorem clearNotes_cfg (s : State) : (clearNotes s).cfg = s.cfg := rfl
@[simp] theorem clearNotes_host (s : State) : (clearNotes s).host = s.host := rfl
@[simp] theorem clearNotes_inReset (s : State) : (clearNotes s).inReset = s.inReset := rfl
@[simp] theorem clearNotes_tick (s : State) : (clearNotes s).tick = s.tick := rfl
@[simp] theorem clearNotes_pending (s : State) : (clearNotes s).pending = s.pending := rfl

@[simp] theorem joinTail_slots (i : Idx) (s : State) : (joinTail i s).slots = s.slots := rfl
@[simp] theorem joinTail_dev (i : Idx) (s : State) : (joinTail i s).dev = s.dev := rfl
@[simp] theorem joinTail_cells (i : Idx) (s : State) : (joinTail i s).cells = s.cells := rfl
@[simp] theorem joinTail_supply (i : Idx) (s : State) : (joinTail i s).supply = s.supply := rfl
@[simp] theorem joinTail_meter (i : Idx) (s : State) : (joinTail i s).meter = s.meter := rfl
@[simp] theorem joinTail_link (i : Idx) (s : State) : (joinTail i s).link = s.link := rfl
@[simp] theorem joinTail_clock (i : Idx) (s : State) : (joinTail i s).clock = s.clock := rfl
@[simp] theorem joinTail_schedule (i : Idx) (s : State) : (joinTail i s).schedule = s.schedule := rfl
@[simp] theorem joinTail_cfg (i : Idx) (s : State) : (joinTail i s).cfg = s.cfg := rfl
@[simp] theorem joinTail_host (i : Idx) (s : State) : (joinTail i s).host = s.host := rfl
@[simp] theorem joinTail_inReset (i : Idx) (s : State) : (joinTail i s).inReset = s.inReset := rfl
@[simp] theorem joinTail_tick (i : Idx) (s : State) : (joinTail i s).tick = s.tick := rfl
@[simp] theorem joinTail_pending (i : Idx) (s : State) : (joinTail i s).pending = s.pending := rfl

@[simp] theorem joinHead_slots (i : Idx) (s : State) : (joinHead i s).slots = s.slots := rfl
@[simp] theorem joinHead_dev (i : Idx) (s : State) : (joinHead i s).dev = s.dev := rfl
@[simp] theorem joinHead_cells (i : Idx) (s : State) : (joinHead i s).cells = s.cells := rfl
@[simp] theorem joinHead_supply (i : Idx) (s : State) : (joinHead i s).supply = s.supply := rfl
@[simp] theorem joinHead_meter (i : Idx) (s : State) : (joinHead i s).meter = s.meter := rfl
@[simp] theorem joinHead_link (i : Idx) (s : State) : (joinHead i s).link = s.link := rfl
@[simp] theorem joinHead_clock (i : Idx) (s : State) : (joinHead i s).clock = s.clock := rfl
@[simp] theorem joinHead_schedule (i : Idx) (s : State) : (joinHead i s).schedule = s.schedule := rfl
@[simp] theorem joinHead_cfg (i : Idx) (s : State) : (joinHead i s).cfg = s.cfg := rfl
@[simp] theorem joinHead_host (i : Idx) (s : State) : (joinHead i s).host = s.host := rfl
@[simp] theorem joinHead_inReset (i : Idx) (s : State) : (joinHead i s).inReset = s.inReset := rfl
@[simp] theorem joinHead_tick (i : Idx) (s : State) : (joinHead i s).tick = s.tick := rfl
@[simp] theorem joinHead_pending (i : Idx) (s : State) : (joinHead i s).pending = s.pending := rfl

@[simp] theorem leaveQueue_slots (i : Idx) (s : State) : (leaveQueue i s).slots = s.slots := rfl
@[simp] theorem leaveQueue_dev (i : Idx) (s : State) : (leaveQueue i s).dev = s.dev := rfl
@[simp] theorem leaveQueue_cells (i : Idx) (s : State) : (leaveQueue i s).cells = s.cells := rfl
@[simp] theorem leaveQueue_supply (i : Idx) (s : State) : (leaveQueue i s).supply = s.supply := rfl
@[simp] theorem leaveQueue_meter (i : Idx) (s : State) : (leaveQueue i s).meter = s.meter := rfl
@[simp] theorem leaveQueue_link (i : Idx) (s : State) : (leaveQueue i s).link = s.link := rfl
@[simp] theorem leaveQueue_clock (i : Idx) (s : State) : (leaveQueue i s).clock = s.clock := rfl
@[simp] theorem leaveQueue_schedule (i : Idx) (s : State) : (leaveQueue i s).schedule = s.schedule := rfl
@[simp] theorem leaveQueue_cfg (i : Idx) (s : State) : (leaveQueue i s).cfg = s.cfg := rfl
@[simp] theorem leaveQueue_host (i : Idx) (s : State) : (leaveQueue i s).host = s.host := rfl
@[simp] theorem leaveQueue_inReset (i : Idx) (s : State) : (leaveQueue i s).inReset = s.inReset := rfl
@[simp] theorem leaveQueue_tick (i : Idx) (s : State) : (leaveQueue i s).tick = s.tick := rfl
@[simp] theorem leaveQueue_pending (i : Idx) (s : State) : (leaveQueue i s).pending = s.pending := rfl

@[simp] theorem advanceClock_slots (s : State) : (advanceClock s).slots = s.slots := rfl
@[simp] theorem advanceClock_dev (s : State) : (advanceClock s).dev = s.dev := rfl
@[simp] theorem advanceClock_cells (s : State) : (advanceClock s).cells = s.cells := rfl
@[simp] theorem advanceClock_supply (s : State) : (advanceClock s).supply = s.supply := rfl
@[simp] theorem advanceClock_meter (s : State) : (advanceClock s).meter = s.meter := rfl
@[simp] theorem advanceClock_arbiter (s : State) : (advanceClock s).arbiter = s.arbiter := rfl
@[simp] theorem advanceClock_link (s : State) : (advanceClock s).link = s.link := rfl
@[simp] theorem advanceClock_schedule (s : State) : (advanceClock s).schedule = s.schedule := rfl
@[simp] theorem advanceClock_cfg (s : State) : (advanceClock s).cfg = s.cfg := rfl
@[simp] theorem advanceClock_host (s : State) : (advanceClock s).host = s.host := rfl
@[simp] theorem advanceClock_inReset (s : State) : (advanceClock s).inReset = s.inReset := rfl
@[simp] theorem advanceClock_tick (s : State) : (advanceClock s).tick = s.tick := rfl
@[simp] theorem advanceClock_agenda (s : State) : (advanceClock s).agenda = s.agenda := rfl
@[simp] theorem advanceClock_pending (s : State) : (advanceClock s).pending = s.pending := rfl

@[simp] theorem placeAppointment_slots (a : Appointment) (s : State) : (placeAppointment a s).slots = s.slots := rfl
@[simp] theorem placeAppointment_dev (a : Appointment) (s : State) : (placeAppointment a s).dev = s.dev := rfl
@[simp] theorem placeAppointment_cells (a : Appointment) (s : State) : (placeAppointment a s).cells = s.cells := rfl
@[simp] theorem placeAppointment_supply (a : Appointment) (s : State) : (placeAppointment a s).supply = s.supply := rfl
@[simp] theorem placeAppointment_meter (a : Appointment) (s : State) : (placeAppointment a s).meter = s.meter := rfl
@[simp] theorem placeAppointment_arbiter (a : Appointment) (s : State) : (placeAppointment a s).arbiter = s.arbiter := rfl
@[simp] theorem placeAppointment_link (a : Appointment) (s : State) : (placeAppointment a s).link = s.link := rfl
@[simp] theorem placeAppointment_clock (a : Appointment) (s : State) : (placeAppointment a s).clock = s.clock := rfl
@[simp] theorem placeAppointment_cfg (a : Appointment) (s : State) : (placeAppointment a s).cfg = s.cfg := rfl
@[simp] theorem placeAppointment_host (a : Appointment) (s : State) : (placeAppointment a s).host = s.host := rfl
@[simp] theorem placeAppointment_inReset (a : Appointment) (s : State) : (placeAppointment a s).inReset = s.inReset := rfl
@[simp] theorem placeAppointment_tick (a : Appointment) (s : State) : (placeAppointment a s).tick = s.tick := rfl
@[simp] theorem placeAppointment_agenda (a : Appointment) (s : State) : (placeAppointment a s).agenda = s.agenda := rfl
@[simp] theorem placeAppointment_pending (a : Appointment) (s : State) : (placeAppointment a s).pending = s.pending := rfl

@[simp] theorem removeAppointment_slots (k : ApptKind) (t : Target) (s : State) : (removeAppointment k t s).slots = s.slots := rfl
@[simp] theorem removeAppointment_dev (k : ApptKind) (t : Target) (s : State) : (removeAppointment k t s).dev = s.dev := rfl
@[simp] theorem removeAppointment_cells (k : ApptKind) (t : Target) (s : State) : (removeAppointment k t s).cells = s.cells := rfl
@[simp] theorem removeAppointment_supply (k : ApptKind) (t : Target) (s : State) : (removeAppointment k t s).supply = s.supply := rfl
@[simp] theorem removeAppointment_meter (k : ApptKind) (t : Target) (s : State) : (removeAppointment k t s).meter = s.meter := rfl
@[simp] theorem removeAppointment_arbiter (k : ApptKind) (t : Target) (s : State) : (removeAppointment k t s).arbiter = s.arbiter := rfl
@[simp] theorem removeAppointment_link (k : ApptKind) (t : Target) (s : State) : (removeAppointment k t s).link = s.link := rfl
@[simp] theorem removeAppointment_clock (k : ApptKind) (t : Target) (s : State) : (removeAppointment k t s).clock = s.clock := rfl
@[simp] theorem removeAppointment_cfg (k : ApptKind) (t : Target) (s : State) : (removeAppointment k t s).cfg = s.cfg := rfl
@[simp] theorem removeAppointment_host (k : ApptKind) (t : Target) (s : State) : (removeAppointment k t s).host = s.host := rfl
@[simp] theorem removeAppointment_inReset (k : ApptKind) (t : Target) (s : State) : (removeAppointment k t s).inReset = s.inReset := rfl
@[simp] theorem removeAppointment_tick (k : ApptKind) (t : Target) (s : State) : (removeAppointment k t s).tick = s.tick := rfl
@[simp] theorem removeAppointment_agenda (k : ApptKind) (t : Target) (s : State) : (removeAppointment k t s).agenda = s.agenda := rfl
@[simp] theorem removeAppointment_pending (k : ApptKind) (t : Target) (s : State) : (removeAppointment k t s).pending = s.pending := rfl

@[simp] theorem dropAppointments_slots (i : Idx) (s : State) : (dropAppointments i s).slots = s.slots := rfl
@[simp] theorem dropAppointments_dev (i : Idx) (s : State) : (dropAppointments i s).dev = s.dev := rfl
@[simp] theorem dropAppointments_cells (i : Idx) (s : State) : (dropAppointments i s).cells = s.cells := rfl
@[simp] theorem dropAppointments_supply (i : Idx) (s : State) : (dropAppointments i s).supply = s.supply := rfl
@[simp] theorem dropAppointments_meter (i : Idx) (s : State) : (dropAppointments i s).meter = s.meter := rfl
@[simp] theorem dropAppointments_arbiter (i : Idx) (s : State) : (dropAppointments i s).arbiter = s.arbiter := rfl
@[simp] theorem dropAppointments_link (i : Idx) (s : State) : (dropAppointments i s).link = s.link := rfl
@[simp] theorem dropAppointments_clock (i : Idx) (s : State) : (dropAppointments i s).clock = s.clock := rfl
@[simp] theorem dropAppointments_cfg (i : Idx) (s : State) : (dropAppointments i s).cfg = s.cfg := rfl
@[simp] theorem dropAppointments_host (i : Idx) (s : State) : (dropAppointments i s).host = s.host := rfl
@[simp] theorem dropAppointments_inReset (i : Idx) (s : State) : (dropAppointments i s).inReset = s.inReset := rfl
@[simp] theorem dropAppointments_tick (i : Idx) (s : State) : (dropAppointments i s).tick = s.tick := rfl
@[simp] theorem dropAppointments_agenda (i : Idx) (s : State) : (dropAppointments i s).agenda = s.agenda := rfl
@[simp] theorem dropAppointments_pending (i : Idx) (s : State) : (dropAppointments i s).pending = s.pending := rfl

@[simp] theorem orderAgenda_slots (s : State) : (orderAgenda s).slots = s.slots := rfl
@[simp] theorem orderAgenda_dev (s : State) : (orderAgenda s).dev = s.dev := rfl
@[simp] theorem orderAgenda_cells (s : State) : (orderAgenda s).cells = s.cells := rfl
@[simp] theorem orderAgenda_supply (s : State) : (orderAgenda s).supply = s.supply := rfl
@[simp] theorem orderAgenda_meter (s : State) : (orderAgenda s).meter = s.meter := rfl
@[simp] theorem orderAgenda_arbiter (s : State) : (orderAgenda s).arbiter = s.arbiter := rfl
@[simp] theorem orderAgenda_link (s : State) : (orderAgenda s).link = s.link := rfl
@[simp] theorem orderAgenda_clock (s : State) : (orderAgenda s).clock = s.clock := rfl
@[simp] theorem orderAgenda_schedule (s : State) : (orderAgenda s).schedule = s.schedule := rfl
@[simp] theorem orderAgenda_cfg (s : State) : (orderAgenda s).cfg = s.cfg := rfl
@[simp] theorem orderAgenda_host (s : State) : (orderAgenda s).host = s.host := rfl
@[simp] theorem orderAgenda_inReset (s : State) : (orderAgenda s).inReset = s.inReset := rfl
@[simp] theorem orderAgenda_tick (s : State) : (orderAgenda s).tick = s.tick := rfl
@[simp] theorem orderAgenda_pending (s : State) : (orderAgenda s).pending = s.pending := rfl

@[simp] theorem shiftOut_slots (bits : List Bool) (s : State) : (shiftOut bits s).slots = s.slots := rfl
@[simp] theorem shiftOut_dev (bits : List Bool) (s : State) : (shiftOut bits s).dev = s.dev := rfl
@[simp] theorem shiftOut_cells (bits : List Bool) (s : State) : (shiftOut bits s).cells = s.cells := rfl
@[simp] theorem shiftOut_supply (bits : List Bool) (s : State) : (shiftOut bits s).supply = s.supply := rfl
@[simp] theorem shiftOut_meter (bits : List Bool) (s : State) : (shiftOut bits s).meter = s.meter := rfl
@[simp] theorem shiftOut_arbiter (bits : List Bool) (s : State) : (shiftOut bits s).arbiter = s.arbiter := rfl
@[simp] theorem shiftOut_link (bits : List Bool) (s : State) : (shiftOut bits s).link = s.link := rfl
@[simp] theorem shiftOut_clock (bits : List Bool) (s : State) : (shiftOut bits s).clock = s.clock := rfl
@[simp] theorem shiftOut_schedule (bits : List Bool) (s : State) : (shiftOut bits s).schedule = s.schedule := rfl
@[simp] theorem shiftOut_cfg (bits : List Bool) (s : State) : (shiftOut bits s).cfg = s.cfg := rfl
@[simp] theorem shiftOut_inReset (bits : List Bool) (s : State) : (shiftOut bits s).inReset = s.inReset := rfl
@[simp] theorem shiftOut_tick (bits : List Bool) (s : State) : (shiftOut bits s).tick = s.tick := rfl
@[simp] theorem shiftOut_agenda (bits : List Bool) (s : State) : (shiftOut bits s).agenda = s.agenda := rfl
@[simp] theorem shiftOut_pending (bits : List Bool) (s : State) : (shiftOut bits s).pending = s.pending := rfl

@[simp] theorem discardRequest_slots (s : State) : (discardRequest s).slots = s.slots := rfl
@[simp] theorem discardRequest_dev (s : State) : (discardRequest s).dev = s.dev := rfl
@[simp] theorem discardRequest_cells (s : State) : (discardRequest s).cells = s.cells := rfl
@[simp] theorem discardRequest_supply (s : State) : (discardRequest s).supply = s.supply := rfl
@[simp] theorem discardRequest_meter (s : State) : (discardRequest s).meter = s.meter := rfl
@[simp] theorem discardRequest_arbiter (s : State) : (discardRequest s).arbiter = s.arbiter := rfl
@[simp] theorem discardRequest_link (s : State) : (discardRequest s).link = s.link := rfl
@[simp] theorem discardRequest_clock (s : State) : (discardRequest s).clock = s.clock := rfl
@[simp] theorem discardRequest_schedule (s : State) : (discardRequest s).schedule = s.schedule := rfl
@[simp] theorem discardRequest_cfg (s : State) : (discardRequest s).cfg = s.cfg := rfl
@[simp] theorem discardRequest_inReset (s : State) : (discardRequest s).inReset = s.inReset := rfl
@[simp] theorem discardRequest_tick (s : State) : (discardRequest s).tick = s.tick := rfl
@[simp] theorem discardRequest_agenda (s : State) : (discardRequest s).agenda = s.agenda := rfl
@[simp] theorem discardRequest_pending (s : State) : (discardRequest s).pending = s.pending := rfl

@[simp] theorem takeRequest_slots (s : State) : (takeRequest s).slots = s.slots := rfl
@[simp] theorem takeRequest_dev (s : State) : (takeRequest s).dev = s.dev := rfl
@[simp] theorem takeRequest_cells (s : State) : (takeRequest s).cells = s.cells := rfl
@[simp] theorem takeRequest_supply (s : State) : (takeRequest s).supply = s.supply := rfl
@[simp] theorem takeRequest_meter (s : State) : (takeRequest s).meter = s.meter := rfl
@[simp] theorem takeRequest_arbiter (s : State) : (takeRequest s).arbiter = s.arbiter := rfl
@[simp] theorem takeRequest_link (s : State) : (takeRequest s).link = s.link := rfl
@[simp] theorem takeRequest_clock (s : State) : (takeRequest s).clock = s.clock := rfl
@[simp] theorem takeRequest_schedule (s : State) : (takeRequest s).schedule = s.schedule := rfl
@[simp] theorem takeRequest_cfg (s : State) : (takeRequest s).cfg = s.cfg := rfl
@[simp] theorem takeRequest_inReset (s : State) : (takeRequest s).inReset = s.inReset := rfl
@[simp] theorem takeRequest_tick (s : State) : (takeRequest s).tick = s.tick := rfl
@[simp] theorem takeRequest_agenda (s : State) : (takeRequest s).agenda = s.agenda := rfl
@[simp] theorem takeRequest_pending (s : State) : (takeRequest s).pending = s.pending := rfl

@[simp] theorem completeRequest_slots (r : Reply) (s : State) : (completeRequest r s).slots = s.slots := rfl
@[simp] theorem completeRequest_dev (r : Reply) (s : State) : (completeRequest r s).dev = s.dev := rfl
@[simp] theorem completeRequest_cells (r : Reply) (s : State) : (completeRequest r s).cells = s.cells := rfl
@[simp] theorem completeRequest_supply (r : Reply) (s : State) : (completeRequest r s).supply = s.supply := rfl
@[simp] theorem completeRequest_meter (r : Reply) (s : State) : (completeRequest r s).meter = s.meter := rfl
@[simp] theorem completeRequest_arbiter (r : Reply) (s : State) : (completeRequest r s).arbiter = s.arbiter := rfl
@[simp] theorem completeRequest_link (r : Reply) (s : State) : (completeRequest r s).link = s.link := rfl
@[simp] theorem completeRequest_clock (r : Reply) (s : State) : (completeRequest r s).clock = s.clock := rfl
@[simp] theorem completeRequest_schedule (r : Reply) (s : State) : (completeRequest r s).schedule = s.schedule := rfl
@[simp] theorem completeRequest_cfg (r : Reply) (s : State) : (completeRequest r s).cfg = s.cfg := rfl
@[simp] theorem completeRequest_inReset (r : Reply) (s : State) : (completeRequest r s).inReset = s.inReset := rfl
@[simp] theorem completeRequest_tick (r : Reply) (s : State) : (completeRequest r s).tick = s.tick := rfl
@[simp] theorem completeRequest_agenda (r : Reply) (s : State) : (completeRequest r s).agenda = s.agenda := rfl
@[simp] theorem completeRequest_pending (r : Reply) (s : State) : (completeRequest r s).pending = s.pending := rfl

@[simp] theorem awaitApportion_slots (s : State) : (awaitApportion s).slots = s.slots := rfl
@[simp] theorem awaitApportion_dev (s : State) : (awaitApportion s).dev = s.dev := rfl
@[simp] theorem awaitApportion_cells (s : State) : (awaitApportion s).cells = s.cells := rfl
@[simp] theorem awaitApportion_supply (s : State) : (awaitApportion s).supply = s.supply := rfl
@[simp] theorem awaitApportion_arbiter (s : State) : (awaitApportion s).arbiter = s.arbiter := rfl
@[simp] theorem awaitApportion_link (s : State) : (awaitApportion s).link = s.link := rfl
@[simp] theorem awaitApportion_clock (s : State) : (awaitApportion s).clock = s.clock := rfl
@[simp] theorem awaitApportion_schedule (s : State) : (awaitApportion s).schedule = s.schedule := rfl
@[simp] theorem awaitApportion_cfg (s : State) : (awaitApportion s).cfg = s.cfg := rfl
@[simp] theorem awaitApportion_inReset (s : State) : (awaitApportion s).inReset = s.inReset := rfl
@[simp] theorem awaitApportion_tick (s : State) : (awaitApportion s).tick = s.tick := rfl
@[simp] theorem awaitApportion_agenda (s : State) : (awaitApportion s).agenda = s.agenda := rfl
@[simp] theorem awaitApportion_pending (s : State) : (awaitApportion s).pending = s.pending := rfl

/-! ### Engines and their lines -/

@[simp] theorem setEngine_slots (e : Engine) (g : Option Engagement) (s : State) : (setEngine e g s).slots = s.slots := by
  cases e <;> rfl
@[simp] theorem setEngine_dev (e : Engine) (g : Option Engagement) (s : State) : (setEngine e g s).dev = s.dev := by
  cases e <;> rfl
@[simp] theorem setEngine_cells (e : Engine) (g : Option Engagement) (s : State) : (setEngine e g s).cells = s.cells := by
  cases e <;> rfl
@[simp] theorem setEngine_supply (e : Engine) (g : Option Engagement) (s : State) : (setEngine e g s).supply = s.supply := by
  cases e <;> rfl
@[simp] theorem setEngine_meter (e : Engine) (g : Option Engagement) (s : State) : (setEngine e g s).meter = s.meter := by
  cases e <;> rfl
@[simp] theorem setEngine_arbiter (e : Engine) (g : Option Engagement) (s : State) : (setEngine e g s).arbiter = s.arbiter := by
  cases e <;> rfl
@[simp] theorem setEngine_clock (e : Engine) (g : Option Engagement) (s : State) : (setEngine e g s).clock = s.clock := by
  cases e <;> rfl
@[simp] theorem setEngine_schedule (e : Engine) (g : Option Engagement) (s : State) : (setEngine e g s).schedule = s.schedule := by
  cases e <;> rfl
@[simp] theorem setEngine_cfg (e : Engine) (g : Option Engagement) (s : State) : (setEngine e g s).cfg = s.cfg := by
  cases e <;> rfl
@[simp] theorem setEngine_host (e : Engine) (g : Option Engagement) (s : State) : (setEngine e g s).host = s.host := by
  cases e <;> rfl
@[simp] theorem setEngine_inReset (e : Engine) (g : Option Engagement) (s : State) : (setEngine e g s).inReset = s.inReset := by
  cases e <;> rfl
@[simp] theorem setEngine_tick (e : Engine) (g : Option Engagement) (s : State) : (setEngine e g s).tick = s.tick := by
  cases e <;> rfl
@[simp] theorem setEngine_agenda (e : Engine) (g : Option Engagement) (s : State) : (setEngine e g s).agenda = s.agenda := by
  cases e <;> rfl
@[simp] theorem setEngine_pending (e : Engine) (g : Option Engagement) (s : State) : (setEngine e g s).pending = s.pending := by
  cases e <;> rfl

@[simp] theorem setLine_slots (e : Engine) (l : List LineLevel) (s : State) : (setLine e l s).slots = s.slots := by
  cases e <;> rfl
@[simp] theorem setLine_dev (e : Engine) (l : List LineLevel) (s : State) : (setLine e l s).dev = s.dev := by
  cases e <;> rfl
@[simp] theorem setLine_cells (e : Engine) (l : List LineLevel) (s : State) : (setLine e l s).cells = s.cells := by
  cases e <;> rfl
@[simp] theorem setLine_supply (e : Engine) (l : List LineLevel) (s : State) : (setLine e l s).supply = s.supply := by
  cases e <;> rfl
@[simp] theorem setLine_meter (e : Engine) (l : List LineLevel) (s : State) : (setLine e l s).meter = s.meter := by
  cases e <;> rfl
@[simp] theorem setLine_arbiter (e : Engine) (l : List LineLevel) (s : State) : (setLine e l s).arbiter = s.arbiter := by
  cases e <;> rfl
@[simp] theorem setLine_clock (e : Engine) (l : List LineLevel) (s : State) : (setLine e l s).clock = s.clock := by
  cases e <;> rfl
@[simp] theorem setLine_schedule (e : Engine) (l : List LineLevel) (s : State) : (setLine e l s).schedule = s.schedule := by
  cases e <;> rfl
@[simp] theorem setLine_cfg (e : Engine) (l : List LineLevel) (s : State) : (setLine e l s).cfg = s.cfg := by
  cases e <;> rfl
@[simp] theorem setLine_host (e : Engine) (l : List LineLevel) (s : State) : (setLine e l s).host = s.host := by
  cases e <;> rfl
@[simp] theorem setLine_inReset (e : Engine) (l : List LineLevel) (s : State) : (setLine e l s).inReset = s.inReset := by
  cases e <;> rfl
@[simp] theorem setLine_tick (e : Engine) (l : List LineLevel) (s : State) : (setLine e l s).tick = s.tick := by
  cases e <;> rfl
@[simp] theorem setLine_agenda (e : Engine) (l : List LineLevel) (s : State) : (setLine e l s).agenda = s.agenda := by
  cases e <;> rfl
@[simp] theorem setLine_pending (e : Engine) (l : List LineLevel) (s : State) : (setLine e l s).pending = s.pending := by
  cases e <;> rfl

@[simp] theorem setEngine_engine (e : Engine) (g : Option Engagement) (s : State) : (setEngine e g s).engine e = g := by
  cases e <;> rfl
theorem setEngine_other {e f : Engine} (h : f ≠ e) (g : Option Engagement) (s : State) :
    (setEngine e g s).engine f = s.engine f := by
  cases e <;> cases f <;> first | rfl | exact absurd rfl h
@[simp] theorem setEngine_lineOf (e f : Engine) (g : Option Engagement) (s : State) :
    (setEngine e g s).lineOf f = s.lineOf f := by
  cases e <;> cases f <;> rfl
@[simp] theorem setEngine_queue (e : Engine) (g : Option Engagement) (s : State) :
    (setEngine e g s).link.queue = s.link.queue := by
  cases e <;> rfl
@[simp] theorem setLine_lineOf (e : Engine) (l : List LineLevel) (s : State) : (setLine e l s).lineOf e = l := by
  cases e <;> rfl
theorem setLine_other {e f : Engine} (h : f ≠ e) (l : List LineLevel) (s : State) :
    (setLine e l s).lineOf f = s.lineOf f := by
  cases e <;> cases f <;> first | rfl | exact absurd rfl h
@[simp] theorem setLine_engine (e f : Engine) (l : List LineLevel) (s : State) :
    (setLine e l s).engine f = s.engine f := by
  cases e <;> cases f <;> rfl
@[simp] theorem setLine_queue (e : Engine) (l : List LineLevel) (s : State) :
    (setLine e l s).link.queue = s.link.queue := by
  cases e <;> rfl

/-! ### What the updates write -/

@[simp] theorem setRec_slots (i : Idx) (r : Option Record) (s : State) : (setRec i r s).slots = s.slots.set i r := rfl
@[simp] theorem updCell_cells (p : Port) (f : Cell → Cell) (s : State) :
    (updCell p f s).cells = s.cells.set p (f s.cells[p]) := rfl
@[simp] theorem callDecision_agenda (s : State) : (callDecision s).agenda = { s.agenda with decision := true } := rfl
@[simp] theorem callPick_agenda (s : State) : (callPick s).agenda = { s.agenda with pick := true } := rfl
@[simp] theorem makeDue_agenda (ev : Event) (s : State) :
    (makeDue ev s).agenda = { s.agenda with due := s.agenda.due ++ [ev] } := rfl
@[simp] theorem dropDue_agenda (ev : Event) (s : State) :
    (dropDue ev s).agenda = { s.agenda with due := s.agenda.due.filter (· ≠ ev) } := rfl
@[simp] theorem clearNotes_agenda (s : State) :
    (clearNotes s).agenda = { s.agenda with decision := false, pick := false } := rfl
@[simp] theorem advanceClock_clock (s : State) : (advanceClock s).clock = s.clock + 1 := rfl
@[simp] theorem placeAppointment_schedule (a : Appointment) (s : State) :
    (placeAppointment a s).schedule = placeIn s.clock a s.schedule := rfl
@[simp] theorem shiftOut_host (bits : List Bool) (s : State) :
    (shiftOut bits s).host = { s.host with miso := bits } := rfl
@[simp] theorem discardRequest_host (s : State) : (discardRequest s).host = { s.host with refused := true } := rfl
@[simp] theorem takeRequest_host (s : State) :
    (takeRequest s).host = { s.host with refused := false, reply := none, busy := true } := rfl
@[simp] theorem completeRequest_host (r : Reply) (s : State) :
    (completeRequest r s).host = { s.host with reply := some r, busy := false, request := [] } := rfl

end Sys2Proof.Machine
end

