-- ==== Sys2Proof/Laws/Ops.lean ====
section
/-! SUPPORT. What each shared operation can do, said once: how it changes a slot or a cell that is read afterwards, and
the parts of the state (`State.outer`) that work on records, cells and exchanges never touches. -/

namespace Sys2Proof.Machine

open Sys2Proof

/-! ### Reading a slot or a cell after an update -/

/-- A slot after `setRec`. -/
theorem rec?_setRec (i j : Idx) (r : Option Record) (s : State) :
    (setRec i r s).rec? j = if j = i then r else s.rec? j := by
  simp only [State.rec?, setRec_slots, Fin.getElem_fin, Vector.getElem_set, Fin.ext_iff, eq_comm]

/-- The slot that `setRec` writes. -/
@[simp] theorem rec?_setRec_self (i : Idx) (r : Option Record) (s : State) : (setRec i r s).rec? i = r := by
  simp [rec?_setRec]

/-- A slot after `updRec`: the record of slot `i` is changed, every other slot is as it was. -/
theorem rec?_updRec (i j : Idx) (f : Record → Record) (s : State) :
    (updRec i f s).rec? j = if j = i then (s.rec? i).map f else s.rec? j := by
  unfold updRec
  cases h : s.rec? i with
  | none => by_cases hj : j = i <;> simp [hj, h]
  | some r => simp [rec?_setRec]

/-- The slot that `updRec` changes. -/
@[simp] theorem rec?_updRec_self (i : Idx) (f : Record → Record) (s : State) :
    (updRec i f s).rec? i = (s.rec? i).map f := by simp [rec?_updRec]

/-- A cell after `updCell`. -/
theorem cells_updCell (p q : Port) (f : Cell → Cell) (s : State) :
    (updCell p f s).cells[q] = if q = p then f s.cells[p] else s.cells[q] := by
  simp only [updCell_cells, Fin.getElem_fin, Vector.getElem_set, Fin.ext_iff, eq_comm]

/-- Reading a slot looks at nothing but the slots. -/
theorem rec?_congr {s t : State} (h : s.slots = t.slots) (i : Idx) : s.rec? i = t.rec? i := by
  simp [State.rec?, h]

/-! ### The outer part of the state -/

/-- The parts of the state that no work on records, cells and exchanges touches: the supply controller, the clock, the
schedule, the settings, the host port, the reset mark and the queue of commands. -/
def State.outer (s : State) : Supply × Stamp × List Appointment × Settings × HostPort × Bool × List Instr :=
  (s.supply, s.clock, s.schedule, s.cfg, s.host, s.inReset, s.pending)

@[simp] theorem outer_setRec (i : Idx) (r : Option Record) (s : State) : (setRec i r s).outer = s.outer := rfl
@[simp] theorem outer_updCell (p : Port) (f : Cell → Cell) (s : State) : (updCell p f s).outer = s.outer := rfl
@[simp] theorem outer_callDecision (s : State) : (callDecision s).outer = s.outer := rfl
@[simp] theorem outer_callPick (s : State) : (callPick s).outer = s.outer := rfl
@[simp] theorem outer_makeDue (ev : Event) (s : State) : (makeDue ev s).outer = s.outer := rfl
@[simp] theorem outer_dropDue (ev : Event) (s : State) : (dropDue ev s).outer = s.outer := rfl
@[simp] theorem outer_clearNotes (s : State) : (clearNotes s).outer = s.outer := rfl
@[simp] theorem outer_joinTail (i : Idx) (s : State) : (joinTail i s).outer = s.outer := rfl
@[simp] theorem outer_joinHead (i : Idx) (s : State) : (joinHead i s).outer = s.outer := rfl
@[simp] theorem outer_leaveQueue (i : Idx) (s : State) : (leaveQueue i s).outer = s.outer := rfl

@[simp] theorem outer_updRec (i : Idx) (f : Record → Record) (s : State) : (updRec i f s).outer = s.outer := by
  unfold updRec; split <;> simp

@[simp] theorem outer_raiseFlag (i : Idx) (f : RecFlag) (s : State) : (raiseFlag i f s).outer = s.outer := by
  simp [raiseFlag]

@[simp] theorem outer_setTested (i : Idx) (o : TestOutcome) (s : State) : (setTested i o s).outer = s.outer := by
  simp [setTested]

@[simp] theorem outer_setCountdown (i : Idx) (f : Countdown → Countdown) (s : State) :
    (setCountdown i f s).outer = s.outer := by simp [setCountdown]

@[simp] theorem outer_setEngine (e : Engine) (g : Option Engagement) (s : State) :
    (setEngine e g s).outer = s.outer := by cases e <;> rfl

@[simp] theorem outer_updEngine (e : Engine) (f : Engagement → Engagement) (s : State) :
    (updEngine e f s).outer = s.outer := by unfold updEngine; split <;> simp

@[simp] theorem outer_takeBaseline (e : Engine) (s : State) : (takeBaseline e s).outer = s.outer := by
  unfold takeBaseline
  split
  · cases e <;> rfl
  · rfl

@[simp] theorem outer_setLine (e : Engine) (l : List LineLevel) (s : State) : (setLine e l s).outer = s.outer := by
  cases e <;> rfl

@[simp] theorem outer_sendPart (e : Engine) (s : State) : (sendPart e s).outer = s.outer := by
  unfold sendPart
  split
  · dsimp only
    split
    · cases e <;> rfl
    · rfl
  · rfl

@[simp] theorem outer_sendPartOn (p : Port) (s : State) : (sendPartOn p s).outer = s.outer := by
  unfold sendPartOn; split <;> simp

@[simp] theorem outer_cutLine (e : Engine) (s : State) : (cutLine e s).outer = s.outer := by
  unfold cutLine
  dsimp only
  split
  · split <;> simp
  · simp

@[simp] theorem outer_failAttempt (e : Engine) (o : ExOutcome) (s : State) :
    (failAttempt e o s).outer = s.outer := by
  unfold failAttempt
  split
  · split <;> simp
  · rfl

@[simp] theorem outer_succeedAttempt (e : Engine) (r : Report) (s : State) :
    (succeedAttempt e r s).outer = s.outer := by unfold succeedAttempt; split <;> simp

@[simp] theorem outer_linkAtLevelChange (p : Port) (l : Drive) (s : State) :
    (linkAtLevelChange p l s).outer = s.outer := by
  unfold linkAtLevelChange
  split
  · rfl
  · split
    · rfl
    · dsimp only; split <;> simp

@[simp] theorem outer_orderLevel (p : Port) (n : Nat) (l : Drive) (s : State) :
    (orderLevel p n l s).outer = s.outer := by unfold orderLevel; split <;> simp

@[simp] theorem outer_dropPending (i : Idx) (s : State) : (dropPending i s).outer = s.outer := by
  unfold dropPending
  exact outer_updRec i (fun r => { r with pend := none }) s

@[simp] theorem outer_ask (i : Idx) (x : Exchange) (s : State) : (ask i x s).outer = s.outer := by
  unfold ask
  split
  · rfl
  · split
    · rfl
    · dsimp only; split <;> rfl

@[simp] theorem outer_restartCall (p : Option Port) (s : State) : (restartCall p s).outer = s.outer := by
  unfold restartCall; split <;> simp

@[simp] theorem outer_freeEngine (e : Engine) (s : State) : (freeEngine e s).outer = s.outer := by
  unfold freeEngine; split <;> simp

@[simp] theorem outer_noteSent (i : Idx) (x : Exchange) (o : ExOutcome) (s : State) :
    (noteSent i x o s).outer = s.outer := by unfold noteSent; split <;> simp

@[simp] theorem outer_abortEngine (o : ExOutcome) (e : Engine) (s : State) :
    (abortEngine o e s).outer = s.outer := by unfold abortEngine; split <;> simp

@[simp] theorem outer_abortInFlight (o : ExOutcome) (i : Idx) (s : State) :
    (abortInFlight o i s).outer = s.outer := by unfold abortInFlight; split <;> simp

@[simp] theorem outer_engage (e : Engine) (i : Idx) (s : State) : (engage e i s).outer = s.outer := by
  unfold engage
  split
  · rfl
  · split
    · rfl
    · simp

@[simp] theorem outer_pickFor (e : Engine) (s : State) : (pickFor e s).outer = s.outer := by
  unfold pickFor
  split
  · rfl
  · split <;> simp

@[simp] theorem outer_pickBoth (s : State) : (pickBoth s).outer = s.outer := by simp [pickBoth]

@[simp] theorem outer_releaseFeed (i : Idx) (s : State) : (releaseFeed i s).outer = s.outer := by
  unfold releaseFeed
  exact outer_updRec i (fun r => { r with admitted := none }) s

@[simp] theorem outer_enterState (b : Bool) (st : RState) (i : Idx) (s : State) :
    (enterState b st i s).outer = s.outer := by
  unfold enterState
  split
  · rfl
  · split
    · rfl
    · dsimp only
      split <;> split <;> simp

@[simp] theorem outer_enter (st : RState) (i : Idx) (s : State) : (enter st i s).outer = s.outer := by simp [enter]

@[simp] theorem outer_leaveService (i : Idx) (s : State) : (leaveService i s).outer = s.outer := by
  unfold leaveService; split <;> simp

@[simp] theorem outer_leaveLapsed (i : Idx) (s : State) : (leaveLapsed i s).outer = s.outer := by
  unfold leaveLapsed
  split
  · rfl
  · split
    · split
      · simp
      · split <;> simp
      · rfl
      · rfl
    · rfl

@[simp] theorem outer_grantTo (i : Idx) (n : Nat) (s : State) : (grantTo i n s).outer = s.outer := by
  unfold grantTo
  split
  · rfl
  · simp only [outer_leaveLapsed, outer_updRec]; rfl

@[simp] theorem outer_topUp (i : Idx) (s : State) : (topUp i s).outer = s.outer := by
  unfold topUp
  split
  · rfl
  · dsimp only
    split
    · rfl
    · split
      · rfl
      · simp

@[simp] theorem outer_lapse (i : Idx) (s : State) : (lapse i s).outer = s.outer := by simp [lapse]

@[simp] theorem outer_wantFeed (i : Idx) (s : State) : (wantFeed i s).outer = s.outer := by
  unfold wantFeed
  split
  · rfl
  · split <;> simp

@[simp] theorem outer_abandonTest (i : Idx) (s : State) : (abandonTest i s).outer = s.outer := by
  unfold abandonTest; split <;> simp

@[simp] theorem outer_enterTest (i : Idx) (s : State) : (enterTest i s).outer = s.outer := by simp [enterTest]

@[simp] theorem outer_abandonForCall (i : Idx) (s : State) : (abandonForCall i s).outer = s.outer := by
  unfold abandonForCall
  dsimp only
  split
  · split <;> simp
  · simp

@[simp] theorem outer_admitMember (i : Idx) (s : State) : (admitMember i s).outer = s.outer := by
  unfold admitMember
  split
  · rfl
  · dsimp only
    split
    · simp only [outer_enter, outer_updRec]; rfl
    · simp only [outer_ask, outer_enter, outer_updRec]; rfl

@[simp] theorem outer_decideLoop (n : Nat) (s : State) : (decideLoop n s).outer = s.outer := by
  induction n generalizing s with
  | zero => rfl
  | succ n ih =>
    unfold decideLoop
    split
    · rfl
    · split
      · rw [ih, outer_admitMember]
      · rfl

@[simp] theorem outer_decideAdmission (s : State) : (decideAdmission s).outer = s.outer := by
  unfold decideAdmission; split <;> simp

/-- The end of an event: its decision and its pick leave the outer part alone. -/
@[simp] theorem outer_finishEvent (s t : State) : (finishEvent s t).outer = t.outer := by
  unfold finishEvent
  dsimp only
  split <;> split <;> simp

/-- An event whose work leaves the outer part alone leaves it alone. -/
theorem outer_event {f : State → State} (h : ∀ s, (f s).outer = s.outer) (s : State) :
    (event f s).outer = s.outer := by simp [event, h]

/-- A fold of work that leaves the outer part alone leaves it alone. -/
theorem outer_foldl {α : Type} (f : State → α → State) (h : ∀ s a, (f s a).outer = s.outer) (l : List α)
    (s : State) : (l.foldl f s).outer = s.outer := by
  induction l generalizing s with
  | nil => rfl
  | cons a l ih => rw [List.foldl_cons, ih, h]

/-! ### Events and the agenda -/

/-- With nothing due no record is held from the pick. -/
theorem held_quiet (s : State) (h : s.agenda.due = []) (i : Idx) : s.held i = false := by
  simp [State.held, State.isDue, h]

/-- Work that changes no hold calls for no pick of its own. -/
theorem releasesPick_self (s t : State) (h : ∀ i, t.held i = s.held i) : releasesPick s t = false := by
  simp [releasesPick, h]

/-- An event that begins with nothing due calls for no pick beyond its work's. -/
theorem releasesPick_quiet (s t : State) (h : s.agenda.due = []) : releasesPick s t = false := by
  simp [releasesPick, held_quiet s h]

/-- With nothing due there is nothing to settle. -/
theorem settle_quiet (s : State) (h : s.agenda.due = []) : settle s = s := by
  have hl : settleLoop 1000 s = s := by
    unfold settleLoop
    simp [h]
  unfold settle
  rw [hl]
  cases s with
  | mk slots dev cells supply meter arbiter link clock schedule cfg host inReset agenda tick pending =>
    cases agenda with
    | mk due d p => simp_all

/-- After settling nothing is due. -/
@[simp] theorem settle_due (s : State) : (settle s).agenda.due = [] := rfl

/-- Settling twice is settling once. -/
@[simp] theorem settle_settle (s : State) : settle (settle s) = settle s := settle_quiet _ (settle_due s)

/-- An event that is not due changes nothing. -/
theorem takeEvent_not_due (ev : Event) (s : State) (h : s.isDue ev = false) : takeEvent ev s = s := by
  simp [takeEvent, h]

/-- An event that is due is taken. -/
theorem takeEvent_due (ev : Event) (s : State) (h : s.isDue ev = true) : takeEvent ev s = eventWork ev s := by
  simp [takeEvent, h]

/-- A part held in reset does no work. -/
theorem live_held (f : State → State) (s : State) (h : s.inReset = true) : live f s = s := by simp [live, h]

/-- A part that is not held does its work. -/
theorem live_free (f : State → State) (s : State) (h : s.inReset = false) : live f s = f s := by simp [live, h]

/-! ### The host port -/

/-- The rising edge leaves BUSY as the due events leave it. -/
@[simp] theorem risingEdge_busy (s : State) : (risingEdge s).host.busy = (settle s).host.busy := rfl

/-- A request discarded while BUSY is shown. -/
theorem arrive_busy (fr : Framing) (n : Nat) (owner : State → Answer) (s : State) (h : (settle s).host.busy = true) :
    arrive fr n owner s = discardRequest (risingEdge s) := by
  simp [arrive, h]

/-- A request with bad framing, when BUSY is not shown. -/
theorem arrive_bad (fr : Framing) (n : Nat) (owner : State → Answer) (s : State)
    (h : (settle s).host.busy = false) (hf : fr.fits n = false) :
    arrive fr n owner s = completeRequest ⟨.badRequest, []⟩ (takeRequest (risingEdge s)) := by
  simp [arrive, h, hf]

/-- A request that reaches its owner. -/
theorem arrive_good (fr : Framing) (n : Nat) (owner : State → Answer) (s : State)
    (h : (settle s).host.busy = false) (hf : fr.fits n = true) :
    arrive fr n owner s = runOwner owner (takeRequest (risingEdge s)) := by
  simp [arrive, h, hf]

/-- A request whose owner changes nothing and calls for nothing is answered, and only the host port changes. -/
theorem runOwner_answer (owner : State → Answer) (s : State) (r : Reply)
    (h : owner (clearNotes s) = answer r (clearNotes s)) :
    runOwner owner s = completeRequest r (clearNotes s) := by
  have hr : releasesPick s (clearNotes s) = false := releasesPick_self s _ fun _ => rfl
  unfold runOwner
  rw [h]
  simp [answer, finishEvent, clearNotes] at hr ⊢
  simp [hr]

end Sys2Proof.Machine
end

