-- ==== Sys2Proof/Laws/Effects.lean ====
section
/-! SUPPORT. The case lemmas of the operations that branch: everything each can answer, said once. -/

namespace Sys2Proof.Machine

open Sys2Proof

/-- What asking for an exchange can do (R119): nothing on a free slot; dropped; replaced in place; placed, with the
record at the tail of the exchange queue and a pick called for. -/
theorem ask_cases (i : Idx) (x : Exchange) (s : State) :
    (s.rec? i = none ∧ ask i x s = s) ∨
    ∃ r, s.rec? i = some r ∧
      ((mergeDrops r.pend x = true ∧ ask i x s = s) ∨
       (mergeDrops r.pend x = false ∧ r.pend.isSome = true ∧
          ask i x s = setRec i (some { r with pend := some x }) s) ∨
       (r.pend = none ∧ ask i x s =
          callPick { setRec i (some { r with pend := some x }) s with
            link := { s.link with queue := s.link.queue ++ [i] } })) := by
  unfold ask
  cases h : s.rec? i with
  | none => simp
  | some r =>
    right
    refine ⟨r, rfl, ?_⟩
    cases hp : r.pend with
    | none =>
      right; right
      simp [hp, mergeDrops]
    | some y =>
      cases hm : mergeDrops (some y) x with
      | true => left; simp [hp, hm]
      | false => right; left; simp [hp, hm]

/-- What a pick for one engine can do (R122): an engaged engine and an empty choice change nothing; otherwise the engine
takes the eligible record nearest the head. -/
theorem pickFor_cases (e : Engine) (s : State) :
    pickFor e s = s ∨
    ∃ i, s.engine e = none ∧ s.link.queue.find? s.eligible = some i ∧ pickFor e s = engage e i s := by
  unfold pickFor
  cases h : s.engine e with
  | some g => simp
  | none =>
    cases hq : s.link.queue.find? s.eligible with
    | none => simp
    | some i => exact Or.inr ⟨i, rfl, rfl, rfl⟩

/-- What entering a state can do (R7): nothing on a free slot or for the state held; otherwise the new record, the drop of
an expiry of the old countdown, the drop of the pending exchange in FAULTED, and the drive order of a bound record. -/
theorem enterState_cases (b : Bool) (st : RState) (i : Idx) (s : State) :
    enterState b st i s = s ∨
    ∃ r, s.rec? i = some r ∧ r.st ≠ st ∧
      let q := { r with
        st := st, entered := s.clock, cd := r.cd.forEntry s.supply.mode (s.cfg.policy r.cls) b st,
        test := if st = .testing then some ⟨.q0, none, false⟩ else none }
      let t := dropDue (.expiry i) (setRec i (some q) s)
      let u := if st = .faulted then dropPending i t else t
      enterState b st i s =
        match r.port with
        | none => u
        | some p => orderLevel p (r.admitted.getD 0) (driveFor s.supply.mode st) u := by
  unfold enterState
  cases h : s.rec? i with
  | none => simp
  | some r =>
    by_cases hst : r.st = st
    · simp [hst]
    · right
      refine ⟨r, rfl, hst, ?_⟩
      simp only [hst, if_false]
      have hm : ∀ t : State, t.outer = s.outer → t.supply.mode = s.supply.mode := fun t ht =>
        congrArg (fun o => o.1.mode) ht
      by_cases hf : st = .faulted
      · cases hp : r.port with
        | none => simp [hf]
        | some p => simp only [hf, if_true]; rw [hm _ (by simp)]
      · cases hp : r.port <;> simp [hf]

/-- What a change of level or a cut does to an engine's sending (R113, R115): nothing where it is not sending or its port
is OFF; otherwise some first of its remaining bits have gone out in the form of the present level. -/
theorem sendPart_cases (e : Engine) (s : State) :
    sendPart e s = s ∨
    ∃ g n, s.engine e = some g ∧ g.phase = .sending ∧ s.driveOn g.port ≠ .off ∧
      let t := setEngine e (some { g with sent := g.sent ++ (g.bitsLeft (s.driveOn g.port)).take n }) s
      sendPart e s = { t with link := { t.link with readings := t.link.readings + 1 } } := by
  unfold sendPart
  cases h : s.engine e with
  | none => exact .inl rfl
  | some g =>
    by_cases hg : g.phase = .sending ∧ s.driveOn g.port ≠ .off
    · refine .inr ⟨g, Config.bitsOut s.link.readings % ((g.bitsLeft (s.driveOn g.port)).length + 1), rfl, hg.1, hg.2, ?_⟩
      simp [hg]
    · exact .inl (if_neg hg)

/-- What a cut leaves on the line of an engine (R115): nothing new where it was not sending. -/
theorem cutLine_idle (e : Engine) (s : State) (h : ∀ g, s.engine e = some g → g.phase ≠ .sending) : cutLine e s = s := by
  obtain hs | ⟨g, -, hg, hp, -⟩ := sendPart_cases e s
  · unfold cutLine
    cases hg : s.engine e with
    | none => simp [hs, hg]
    | some g => simp [hs, hg, h g hg]
  · exact absurd hp (h g hg)

/-- What a failed attempt leads to (R123): the guard at or below the retry limit, the final outcome above it. -/
theorem failAttempt_cases (e : Engine) (o : ExOutcome) (s : State) (g : Engagement) (h : s.engine e = some g) :
    (g.attempts ≤ g.retryLimit ∧ failAttempt e o s = setEngine e (some { g.fresh with phase := .guarding }) s) ∨
    (g.retryLimit < g.attempts ∧ failAttempt e o s =
      makeDue (.complete e) (setEngine e (some { g with midChar := false, outcome := some (o, none) }) s)) := by
  unfold failAttempt
  rw [h]
  by_cases hl : g.attempts ≤ g.retryLimit
  · exact .inl ⟨hl, by simp only [hl, if_true]⟩
  · exact .inr ⟨Nat.lt_of_not_le hl, by simp only [hl, if_false]⟩

/-- What a grant moves (R72) and where the record goes. -/
theorem grantTo_record (i : Idx) (n : Nat) (s : State) (r : Record) (h : s.rec? i = some r) :
    grantTo i n s =
      leaveLapsed i (updRec i (fun q => { q with allowance := q.allowance + grantMoves r s.meter.pool n })
        { s with meter := { s.meter with pool := s.meter.pool - grantMoves r s.meter.pool n } }) := by
  unfold grantTo
  rw [h]

/-- An admission decision in MAINS or DEPLETED admits no record (R88). -/
theorem decideAdmission_closed (s : State) (h : s.supply.mode = .mains ∨ s.supply.mode = .depleted) :
    decideAdmission s = s := by simp [decideAdmission, h]

/-- An event that calls for no decision and no pick, and changes no hold, ends as its work left it. -/
theorem finishEvent_none (s t : State) (hd : t.agenda.decision = false) (hp : t.agenda.pick = false)
    (hh : ∀ i, t.held i = s.held i) : finishEvent s t = clearNotes t := by
  simp [finishEvent, hd, hp, releasesPick_self s t hh]

/-- The clamp of a value within its range is the value. -/
theorem clampTo_of_mem (lo hi v : Nat) (h1 : lo ≤ v) (h2 : v ≤ hi) : clampTo lo hi v = v := by
  simp [clampTo, Nat.min_eq_right h2, Nat.max_eq_right h1]

/-- A clamped value lies in the range. -/
theorem clampTo_mem (lo hi v : Nat) (h : lo ≤ hi) : lo ≤ clampTo lo hi v ∧ clampTo lo hi v ≤ hi := by
  unfold clampTo
  omega

/-! ### The tick -/

/-- Equal outer parts have equal supply parts. -/
theorem supply_of_outer {s t : State} (h : t.outer = s.outer) : t.supply = s.supply := congrArg (fun o => o.1) h

/-- Equal outer parts have equal settings. -/
theorem cfg_of_outer {s t : State} (h : t.outer = s.outer) : t.cfg = s.cfg := congrArg (fun o => o.2.2.2.1) h

/-- The debit pass leaves the outer part alone. -/
@[simp] theorem outer_debitPass (scan : Scan) (s : State) : (debitPass scan s).outer = s.outer :=
  outer_foldl _ (fun s p => by
    unfold debitPort
    split
    · rfl
    · split
      · dsimp only
        split <;> simp
      · rfl) _ s

/-- A presence settle leaves the outer part alone. -/
@[simp] theorem outer_settleWork (p : Port) (s : State) : (settleWork p s).outer = s.outer := by
  have hl : ∀ (i : Idx) (t : State), (presenceLoss i t).outer = t.outer := fun i t => by
    unfold presenceLoss
    dsimp only
    split <;> simp [presenceLoss.lost]
  have hg : ∀ (i : Idx) (t : State), (presenceGain i t).outer = t.outer := fun i t => by
    unfold presenceGain
    dsimp only
    split <;> simp [seenNow]
  have he : ∀ b r (i : Idx) (t : State), (settleEffect b r i t).outer = t.outer := fun b r i t => by
    cases b <;> cases r <;> simp [settleEffect, hl, hg, seenNow]
  unfold settleWork
  dsimp only
  split
  · rfl
  · split
    · split <;> simp [he]
    · rfl

/-- A call leaves the outer part alone. -/
@[simp] theorem outer_callWork (p : Port) (s : State) : (callWork p s).outer = s.outer := by
  unfold callWork callEffect
  split
  · rfl
  · dsimp only
    split <;> try simp
    split <;> simp

/-- A cell's sample leaves the outer part alone. -/
@[simp] theorem outer_sampleWork (p : Port) (s : State) : (sampleWork p s).outer = s.outer := by
  have hw : ∀ (t : State) (w : CellWork), (cellWork p w t).outer = t.outer := fun t w => by
    cases w with
    | settle => exact outer_settleWork p t
    | call => exact outer_callWork p t
    | overCeiling =>
      simp only [cellWork, overWork]
      repeat' split
      all_goals simp
    | rampEnd =>
      simp only [cellWork, rampWork]
      repeat' split
      all_goals simp
    | feedRun =>
      simp only [cellWork, feedRunWork]
      split <;> simp
  exact (outer_foldl _ hw _ _).trans (outer_updCell p _ s)

/-- A late sample leaves the outer part alone. -/
@[simp] theorem outer_lateSample (late : List Port) (s : State) (p : Port) : (lateSample late s p).outer = s.outer := by
  unfold lateSample takeEvent
  split
  · rfl
  · split
    · exact outer_event (fun t => (outer_sampleWork p _).trans (outer_dropDue _ t)) s
    · rfl

/-- The countdowns leave the outer part alone. -/
@[simp] theorem outer_countDown (s : State) : (countDown s).outer = s.outer :=
  outer_foldl _ (fun s i => by
    unfold countRecord
    split
    · rfl
    · dsimp only
      split <;> simp) _ s

/-- The scan's codes and the mark leave the outer part alone. -/
theorem outer_storeScan (scan : Scan) (s : State) : (storeScan scan (takeUpMark s)).outer = s.outer := by
  unfold storeScan
  rw [outer_foldl _ (fun s p => outer_updCell _ _ s)]
  unfold takeUpMark
  split <;> rfl

/-- Marking the samples leaves the outer part alone. -/
@[simp] theorem outer_markSamples (s : State) : (markSamples s).outer = s.outer :=
  outer_foldl _ (fun s _ => outer_makeDue _ s) _ _

/-- With nothing left due and no event taken ahead of the meter's work, a tick's supply part is what the supply
controller makes of the one before it, under the same settings. -/
theorem tickWork_supply (scan : Scan) (late : List Port) (s : State) (h : s.agenda.due = []) :
    ∃ u : State, u.supply = s.supply ∧ u.cfg = s.cfg ∧
      (tickWork scan { late := late } s).supply = (supplyTick scan u).supply := by
  let w := markSamples (markAppointments (countDown (storeScan scan (takeUpMark (advanceClock (settle s))))))
  let v := event (debitPass scan) w
  have hw : w.outer = (advanceClock s).outer := by
    show (markSamples (markAppointments _)).outer = _
    rw [outer_markSamples, settle_quiet s h]
    unfold markAppointments
    split <;> simp [outer_storeScan]
  have hv : (clearNotes v).outer = (advanceClock s).outer :=
    (outer_clearNotes v).trans ((outer_event (outer_debitPass scan) w).trans hw)
  refine ⟨clearNotes v, (supply_of_outer hv).trans rfl, (cfg_of_outer hv).trans rfl, ?_⟩
  have ht : (orderAgenda (allPorts.foldl (lateSample late) (event (supplyTick scan) v))).outer =
      (supplyTick scan (clearNotes v)).outer := by
    have ho : ∀ x : State, (orderAgenda x).outer = x.outer := fun _ => rfl
    rw [ho, outer_foldl _ (outer_lateSample late), event, outer_finishEvent]
  have hb : settleBefore { late := late } s = settle s := by simp [settleBefore, endsIn]
  have hf : tickWork scan { late := late } s =
      orderAgenda (allPorts.foldl (lateSample late) (event (supplyTick scan) v)) := by
    simp only [tickWork, hb, List.foldl_nil, v, w]
  rw [hf]
  exact supply_of_outer ht

end Sys2Proof.Machine
end

