-- ==== Sys2Proof/Laws/PerInstr.lean ====
section
/-! SUPPORT. The per-command family `CodeKnown`: a host request carries a framing exactly when its row has a request code
other than READ, and its code is one of section 11.6. -/

namespace Sys2Proof.Laws

open Sys2Proof

namespace CodeKnown

/-- The row's request code, where it has one, is in the table of section 11.6, and a row with a framing has a code. -/
def Statement (i : Instr) : Prop :=
  (∀ c, i.requestCode = some c → c ∈ requestCodes) ∧ (i.framing.isSome = true → i.requestCode.isSome = true)

/-- A row whose code is in the table. -/
theorem of_code {i : Instr} {c : Byte} (h : i.requestCode = some c) (hc : requestCodes.contains c = true) :
    Statement i :=
  ⟨fun c' h' => (by rw [h] at h'; cases h'; exact List.contains_iff_mem.mp hc), fun _ => (by rw [h]; rfl)⟩

/-- A row that is no transaction with a code, and no frame. -/
theorem of_none {i : Instr} (h : i.requestCode = none) (hf : i.framing = none) : Statement i :=
  ⟨fun _ h' => (by simp [h] at h'), fun h' => (by simp [hf] at h')⟩

theorem enroll (fr : Framing) (identity : Identity) (cls : Byte) (port : Option Byte) : Statement (.enroll fr identity cls port) :=
  of_code (c := 0x01) rfl (by decide)

theorem find (fr : Framing) (sel : Selector) : Statement (.find fr sel) :=
  of_code (c := 0x02) rfl (by decide)

theorem amendCeiling (fr : Framing) (index : Byte) (ma : Option (BitVec 16)) (also : List AmendChange) : Statement (.amendCeiling fr index ma also) :=
  of_code (c := 0x03) rfl (by decide)

theorem amendCap (fr : Framing) (index : Byte) (cap : Option (BitVec 32)) (also : List AmendChange) : Statement (.amendCap fr index cap also) :=
  of_code (c := 0x03) rfl (by decide)

theorem amendClass (fr : Framing) (index : Byte) (cls : Byte) (also : List AmendChange) : Statement (.amendClass fr index cls also) :=
  of_code (c := 0x03) rfl (by decide)

theorem amendPort (fr : Framing) (index : Byte) (port : Byte) (also : List AmendChange) : Statement (.amendPort fr index port also) :=
  of_code (c := 0x03) rfl (by decide)

theorem unbind (fr : Framing) (index : Byte) (also : List AmendChange) : Statement (.unbind fr index also) :=
  of_code (c := 0x03) rfl (by decide)

theorem clearFault (fr : Framing) (index : Byte) (also : List AmendChange) : Statement (.clearFault fr index also) :=
  of_code (c := 0x03) rfl (by decide)

theorem retire (fr : Framing) (index : Byte) : Statement (.retire fr index) :=
  of_code (c := 0x04) rfl (by decide)

theorem grant (fr : Framing) (index : Byte) (amount : BitVec 32) : Statement (.grant fr index amount) :=
  of_code (c := 0x05) rfl (by decide)

theorem apportion (fr : Framing) : Statement (.apportion fr) :=
  of_code (c := 0x06) rfl (by decide)

theorem book (fr : Framing) (kind : Byte) (target : Byte) (delay : BitVec 32) (period : BitVec 32) : Statement (.book fr kind target delay period) :=
  of_code (c := 0x07) rfl (by decide)

theorem cancel (fr : Framing) (kind : Byte) (target : Byte) : Statement (.cancel fr kind target) :=
  of_code (c := 0x08) rfl (by decide)

theorem schedule (fr : Framing) (position : Byte) : Statement (.schedule fr position) :=
  of_code (c := 0x09) rfl (by decide)

theorem sendWake (fr : Framing) (index : Byte) (arg : Byte) : Statement (.sendWake fr index arg) :=
  of_code (c := 0x0A) rfl (by decide)

theorem sendQuery (fr : Framing) (index : Byte) (arg : Byte) : Statement (.sendQuery fr index arg) :=
  of_code (c := 0x0A) rfl (by decide)

theorem sendRest (fr : Framing) (index : Byte) (arg : Byte) : Statement (.sendRest fr index arg) :=
  of_code (c := 0x0A) rfl (by decide)

theorem sendShed (fr : Framing) (index : Byte) (arg : Byte) : Statement (.sendShed fr index arg) :=
  of_code (c := 0x0A) rfl (by decide)

theorem test (fr : Framing) (index : Byte) : Statement (.test fr index) :=
  of_code (c := 0x0B) rfl (by decide)

theorem setBusCap (fr : Framing) (value : BitVec 32) : Statement (.setBusCap fr value) :=
  of_code (c := 0x0C) rfl (by decide)

theorem setH (fr : Framing) (value : BitVec 32) : Statement (.setH fr value) :=
  of_code (c := 0x0C) rfl (by decide)

theorem setK (fr : Framing) (value : BitVec 32) : Statement (.setK fr value) :=
  of_code (c := 0x0C) rfl (by decide)

theorem setUndervoltageFloor (fr : Framing) (value : BitVec 32) : Statement (.setUndervoltageFloor fr value) :=
  of_code (c := 0x0C) rfl (by decide)

theorem setMainsFailDebounce (fr : Framing) (value : BitVec 32) : Statement (.setMainsFailDebounce fr value) :=
  of_code (c := 0x0C) rfl (by decide)

theorem setMainsReturnDebounce (fr : Framing) (value : BitVec 32) : Statement (.setMainsReturnDebounce fr value) :=
  of_code (c := 0x0C) rfl (by decide)

theorem setBitRateReload (fr : Framing) (value : BitVec 32) : Statement (.setBitRateReload fr value) :=
  of_code (c := 0x0C) rfl (by decide)

theorem setReplyWindowCode (fr : Framing) (value : BitVec 32) : Statement (.setReplyWindowCode fr value) :=
  of_code (c := 0x0C) rfl (by decide)

theorem setWakeWindow (fr : Framing) (value : BitVec 32) : Statement (.setWakeWindow fr value) :=
  of_code (c := 0x0C) rfl (by decide)

theorem setRetryLimit (fr : Framing) (value : BitVec 32) : Statement (.setRetryLimit fr value) :=
  of_code (c := 0x0C) rfl (by decide)

theorem setTestWindow (fr : Framing) (value : BitVec 32) : Statement (.setTestWindow fr value) :=
  of_code (c := 0x0C) rfl (by decide)

theorem setDefaultCeiling (fr : Framing) (value : BitVec 32) : Statement (.setDefaultCeiling fr value) :=
  of_code (c := 0x0C) rfl (by decide)

theorem setAttentionMask (fr : Framing) (value : BitVec 32) : Statement (.setAttentionMask fr value) :=
  of_code (c := 0x0C) rfl (by decide)

theorem setClassPolicy (fr : Framing) (number : Byte) (value : BitVec 32) : Statement (.setClassPolicy fr number value) :=
  of_code (c := 0x0C) rfl (by decide)

theorem get (fr : Framing) (number : Byte) : Statement (.get fr number) :=
  of_code (c := 0x0D) rfl (by decide)

theorem reserve (fr : Framing) (q : BitVec 32) : Statement (.reserve fr q) :=
  of_code (c := 0x0E) rfl (by decide)

theorem state (fr : Framing) (sect : Byte) (start : Byte) : Statement (.state fr sect start) :=
  of_code (c := 0x0F) rfl (by decide)

theorem port (fr : Framing) (port : Byte) : Statement (.port fr port) :=
  of_code (c := 0x10) rfl (by decide)

theorem next (fr : Framing) : Statement (.next fr) :=
  of_code (c := 0x11) rfl (by decide)

theorem clear (fr : Framing) : Statement (.clear fr) :=
  of_code (c := 0x12) rfl (by decide)

theorem read (bits : Nat) : Statement (.read bits) :=
  of_code (c := 0x80) rfl (by decide)

theorem statusPoll (bits : Nat) : Statement (.statusPoll bits) := of_none rfl rfl

theorem powerOnReset (holding : Bool) : Statement (.powerOnReset holding) := of_none rfl rfl

theorem tick (scan : Scan) (order : TickOrder) : Statement (.tick scan order) := of_none rfl rfl

theorem undervoltageLatch : Statement (.undervoltageLatch) := of_none rfl rfl

theorem mainsFailDebounce : Statement (.mainsFailDebounce) := of_none rfl rfl

theorem mainsReturnDebounce : Statement (.mainsReturnDebounce) := of_none rfl rfl

theorem apportionment : Statement (.apportionment) := of_none rfl rfl

theorem queryIntervalExpiry (i : Idx) : Statement (.queryIntervalExpiry i) := of_none rfl rfl

theorem wakePeriodExpiry (i : Idx) : Statement (.wakePeriodExpiry i) := of_none rfl rfl

theorem coolingEnd (i : Idx) : Statement (.coolingEnd i) := of_none rfl rfl

theorem testWindowExpiry (i : Idx) : Statement (.testWindowExpiry i) := of_none rfl rfl

theorem appointmentExpiry : Statement (.appointmentExpiry) := of_none rfl rfl

theorem rampEnd (p : Port) : Statement (.rampEnd p) := of_none rfl rfl

theorem feedRunComplete (p : Port) : Statement (.feedRunComplete p) := of_none rfl rfl

theorem presenceSettle (p : Port) : Statement (.presenceSettle p) := of_none rfl rfl

theorem callPulse (p : Port) : Statement (.callPulse p) := of_none rfl rfl

theorem overCeilingShed (p : Port) : Statement (.overCeilingShed p) := of_none rfl rfl

theorem trip (p : Port) (current : Nat) : Statement (.trip p current) := of_none rfl rfl

theorem frameSent (e : Engine) : Statement (.frameSent e) := of_none rfl rfl

theorem replyWindowTimeout (e : Engine) : Statement (.replyWindowTimeout e) := of_none rfl rfl

theorem reportReceived (e : Engine) (chars : List RxChar) (begun : Bool) : Statement (.reportReceived e chars begun) := of_none rfl rfl

theorem interCharacterGapTimeout (e : Engine) : Statement (.interCharacterGapTimeout e) := of_none rfl rfl

theorem guardEnd (e : Engine) : Statement (.guardEnd e) := of_none rfl rfl

theorem wakeComplete (e : Engine) : Statement (.wakeComplete e) := of_none rfl rfl

theorem queryComplete (e : Engine) : Statement (.queryComplete e) := of_none rfl rfl

theorem restComplete (e : Engine) : Statement (.restComplete e) := of_none rfl rfl

theorem shedComplete (e : Engine) : Statement (.shedComplete e) := of_none rfl rfl

theorem falseStart (e : Engine) (start : BitSample) (windowClosed : Bool) : Statement (.falseStart e start windowClosed) := of_none rfl rfl

theorem malformedRequestFrame (bytes : List Byte) (extra : Nat) : Statement (.malformedRequestFrame bytes extra) := of_none rfl rfl

end CodeKnown

end Sys2Proof.Laws
end

