-- ==== Sys2Proof/Laws/Requests.lean ====
section
/-! SUPPORT. What a request does between events, said once: how it reaches its owner and how its reply is stored. -/

namespace Sys2Proof.Machine

open Sys2Proof

/-- Between events there is nothing to settle. -/
theorem quiet_settle {s : State} (h : s.Quiet) : settle s = s := settle_quiet s (by rw [h.2.1])

/-- Between events the rising edge only puts the status byte on the data output. -/
theorem quiet_risingEdge {s : State} (h : s.Quiet) : risingEdge s = shiftOut s.statusBits s := by
  rw [risingEdge, quiet_settle h]

/-- The state in which an owner judges a request, between events: the unread reply is discarded, REFUSED is clear, BUSY
is shown, and the status byte is on the data output. -/
theorem quiet_taken {s : State} (h : s.Quiet) : clearNotes (takeRequest (shiftOut s.statusBits s)) =
    { s with host := ⟨s.host.request, none, true, false, s.statusBits⟩ } := by
  obtain ⟨-, ha, -⟩ := h
  cases s
  simp_all [clearNotes, takeRequest, shiftOut]

/-- A request that fits its framing runs its owner's work as one event. -/
theorem request_fits {s : State} {fr : Framing} {n : Nat} {owner : State → Answer} (h : s.Quiet)
    (hf : fr.fits n = true) : request fr n owner s = runOwner owner (takeRequest (shiftOut s.statusBits s)) := by
  have hb : (shiftOut s.statusBits s).host.busy = false := h.2.2
  simp only [request, live, h.1, arrive, quiet_risingEdge h, hb, hf, Bool.false_eq_true, if_false, if_true]

/-- A request whose owner calls for no decision and no pick: its effect, and its reply stored. -/
theorem request_plain {s t : State} {fr : Framing} {n : Nat} {owner : State → Answer} {r : Reply} (h : s.Quiet)
    (hf : fr.fits n = true)
    (ho : owner { s with host := ⟨s.host.request, none, true, false, s.statusBits⟩ } = ⟨t, some fun _ => r⟩)
    (ht : t.agenda = ⟨[], false, false⟩) : request fr n owner s = completeRequest r t := by
  rw [request_fits h hf]
  have hr : releasesPick (takeRequest (shiftOut s.statusBits s)) t = false :=
    releasesPick_quiet _ _ (by show s.agenda.due = []; rw [h.2.1])
  simp only [runOwner, quiet_taken h, ho, finishEvent, ht]
  cases t
  simp_all [clearNotes]

/-- A request that is refused, or that only reads: the host port alone changes. -/
theorem request_answer {s : State} {fr : Framing} {n : Nat} {owner : State → Answer} {r : Reply} (h : s.Quiet)
    (hf : fr.fits n = true)
    (ho : owner { s with host := ⟨s.host.request, none, true, false, s.statusBits⟩ } =
      answer r { s with host := ⟨s.host.request, none, true, false, s.statusBits⟩ }) :
    request fr n owner s = s.replied s r := by
  rw [request_plain h hf ho h.2.1]
  rfl

end Sys2Proof.Machine
end

