-- ==== Sys2Proof/Tests/Slice0.lean ====
section
/-! SUPPORT. Tests: ill-formed terms that WellFormed refuses, frames written out from section 11.6, single steps from the
manual's worked examples, and for every statement with hypotheses a state and operands that meet them. -/

namespace Sys2Proof.Tests

open Sys2Proof Sys2Proof.Machine

-- The kernel evaluations below are made one after another: each waits for the one before it, and each waiting one
-- would hold a thread and its stack.
set_option Elab.async false

/-! ### Ill-formed terms -/

theorem test_wf_selector : (Instr.find ⟨1, 1⟩ (.other 2)).wf = false := by decide
theorem test_wf_leading_change : (Instr.amendCeiling ⟨2, 2⟩ 0 none [.unbind]).wf = false := by decide
theorem test_wf_policy_number : (Instr.setClassPolicy ⟨5, 5⟩ 13 0).wf = false := by decide
theorem test_wf_poll : (Instr.statusPoll 9).wf = false := by decide
theorem test_wf_read : (Instr.read 8).wf = false := by decide
theorem test_wf_order (sc : Scan) :
    (Instr.tick sc { early := [.cell 3], mid := [.cell 3] }).wf = false ∧
      (Instr.tick sc { mid := [.cell 3], late := [3] }).wf = false := ⟨rfl, rfl⟩
theorem test_wf_chars (c : RxChar) : (Instr.reportReceived .a [c, c, c, c, c, c] false).wf = false := rfl
theorem test_wf_malformed_extra : (Instr.malformedRequestFrame [1] 8).wf = false := by decide
theorem test_wf_malformed_next : (Instr.malformedRequestFrame [0x11, 0] 0).wf = false := by decide

/-! ### Frames of section 11.6, byte by byte -/

/-- ENROLL 0x01, length 10, identity, class STANDARD, port P3. -/
theorem test_frame_enroll :
    decodeTransaction [0x01, 10, 0x11, 0x22, 0x33, 0x44, 0x55, 0x66, 0x77, 0x88, 1, 3] 0 =
      .enroll ⟨10, 10⟩ 0x1122334455667788 1 (some 3) := by decide

/-- AMEND 0x03: index 5, ceiling 0x0190 mA, then the port P9. -/
theorem test_frame_amend :
    decodeTransaction [0x03, 6, 5, 0x02, 0x01, 0x90, 0x05, 9] 0 =
      .amendCeiling ⟨6, 6⟩ 5 (some 400) [.port 9] := by decide

/-- GRANT 0x05: index 2, 0x00010000 cu. -/
theorem test_frame_grant : decodeTransaction [0x05, 5, 2, 0, 1, 0, 0] 0 = .grant ⟨5, 5⟩ 2 65536 := by decide

/-- BOOK 0x07: kind TEST 5, target ALL 0xFE, delay 50, period 600. -/
theorem test_frame_book :
    decodeTransaction [0x07, 10, 5, 0xFE, 0, 0, 0, 50, 0, 0, 2, 88] 0 = .book ⟨10, 10⟩ 5 0xFE 50 600 := by decide

/-- SEND 0x0A: index 1, kind SHED 4, level 2. -/
theorem test_frame_send : decodeTransaction [0x0A, 3, 1, 4, 2] 0 = .sendShed ⟨3, 3⟩ 1 2 := by decide

/-- SET 0x0C: setting 3 is K. -/
theorem test_frame_set : decodeTransaction [0x0C, 5, 3, 0, 0, 1, 0] 0 = .setK ⟨5, 5⟩ 256 := by decide

/-- RESERVE 0x0E. -/
theorem test_frame_reserve : decodeTransaction [0x0E, 4, 1, 2, 3, 4] 0 = .reserve ⟨4, 4⟩ 0x01020304 := by decide

/-- READ 0x80 with two further bytes clocked, and a lone byte, which is a status poll. -/
theorem test_frame_read :
    decodeTransaction [0x80, 0, 0] 0 = .read 24 ∧ decodeTransaction [0x80] 0 = .statusPoll 8 := by decide

/-- A length byte that is not the number of bytes that follow reaches the framing check as it stands. -/
theorem test_frame_short : decodeTransaction [0x04, 2, 7] 0 = .retire ⟨2, 1⟩ 7 := by decide

/-! ### Small states -/

/-- A record in slot 0's place in the tests: STANDARD, bound to P1, identity 7. -/
def recIn (st : RState) : Record where
  identity := 7
  port := some 0
  cls := .standard
  st := st
  entered := 0
  ceiling := 400
  admitted := if st = .fed then some 400 else none
  allowance := if st = .lapsed then 0 else 1000
  cap := none
  soc := none
  load := none
  call := false
  batteryFault := false
  selfMinutes := none
  lastSeen := none
  cd := ⟨0, 0, false, false⟩
  pend := none
  test := if st = .testing then some ⟨.q0, none, false⟩ else none
  lastOutcome := none
  flags := 0
  rep := false
  testOutcome := none

/-- A cell at a level, present, with the trip level of an admitted current of 400 mA. -/
def cellAt (d : Drive) : Cell :=
  { Cell.reset with
    drive := d, presence := .present, stamp := some 0
    trip := match d with
      | .off => none
      | .sense => none
      | .ramp => some 1200
      | .feed => some 600 }

/-- The state with one record, in slot 0, and its cell P1, between events. -/
def one (m : Mode) (r : Record) (c : Cell) : State :=
  { State.reset with
    slots := State.reset.slots.set 0 (some r)
    cells := State.reset.cells.set 0 c
    supply := { State.reset.supply with mode := m, q := some 90000000 }
    meter := { State.reset.meter with pool := 500 }
    arbiter := ⟨if r.st = .fed then [0] else [], if r.st = .waiting then [0] else []⟩
    link := { State.reset.link with queue := if r.pend.isSome then [0] else [] } }

/-- One record in a state, in OUTAGE or another mode, its cell at the level of its state. -/
def at' (m : Mode) (st : RState) : State := one m (recIn st) (cellAt (if st = .fed then .feed else driveFor m st))

/-- The state with several records, their cells, the feed list and the queue. -/
def many (m : Mode) (l : List (Idx × Record × Cell)) (feed queue : List Idx) : State :=
  { State.reset with
    slots := l.foldl (fun v e => v.set e.1 (some e.2.1)) State.reset.slots
    cells := l.foldl (fun v e =>
      match e.2.1.port with
      | some p => v.set p e.2.2
      | none => v) State.reset.cells
    supply := { State.reset.supply with mode := m, q := some 90000000 }
    arbiter := ⟨feed, queue⟩ }

/-- An engine with an exchange of a record. -/
def engagedBy (i : Idx) (k : ExKind) (ph : ExPhase) (rx : List Byte) (out : Option (ExOutcome × Option Report)) :
    Engagement :=
  ⟨i, some 0, ⟨k, 0, .request⟩, 1, ph, 319, 100, 2, 7, 50, 2050, [], rx, false, false, out⟩

/-- The state a command answers. -/
def after (c : Instr) (s : State) : State :=
  match exec c s with
  | .next t => t
  | .fault _ => s
  | .refused _ => s

theorem one_rec (m : Mode) (r : Record) (c : Cell) (i : Idx) :
    (one m r c).rec? i = if i = 0 then some r else none := by
  have h : (one m r c).rec? i = if i = 0 then some r else State.reset.rec? i := rec?_setRec 0 i (some r) State.reset
  have h0 : State.reset.rec? i = none := by simp [State.reset, State.rec?]
  rw [h, h0]

theorem one_quiet (m : Mode) (r : Record) (c : Cell) : (one m r c).Quiet := ⟨rfl, rfl, rfl⟩

theorem one_queue (m : Mode) (r : Record) (c : Cell) : (one m r c).AdmissionQueueExact := by
  refine ⟨?_, fun i => ?_⟩
  · show (if r.st = .waiting then [(0 : Idx)] else []).Nodup
    split <;> simp
  · show i ∈ (if r.st = .waiting then [(0 : Idx)] else []) ↔ _
    simp only [State.stOf, one_rec]
    by_cases hi : i = 0 <;> by_cases hw : r.st = .waiting <;> simp [hi, hw]

theorem one_feed (m : Mode) (r : Record) (c : Cell) (h : r.admitted.isSome = true ↔ r.st = .fed) :
    (one m r c).FeedListExact := by
  refine ⟨?_, fun i => ?_, fun i q hq => ?_⟩
  · show (if r.st = .fed then [(0 : Idx)] else []).Nodup
    split <;> simp
  · show i ∈ (if r.st = .fed then [(0 : Idx)] else []) ↔ _
    simp only [State.stOf, one_rec]
    by_cases hi : i = 0 <;> by_cases hw : r.st = .fed <;> simp [hi, hw]
  · rw [one_rec] at hq
    by_cases hi : i = 0 <;> simp [hi] at hq
    exact hq ▸ h

theorem one_class (m : Mode) (r : Record) (c : Cell) : (one m r c).ClassOrdered := by
  show ((if r.st = .waiting then [(0 : Idx)] else []).map _).Pairwise _
  split <;> simp

theorem one_test (m : Mode) (r : Record) (c : Cell) (h : r.test.isSome = true ↔ r.st = .testing) :
    (one m r c).TestLaw := fun i q hq => by
  rw [one_rec] at hq
  by_cases hi : i = 0 <;> simp [hi] at hq
  exact hq ▸ h

theorem one_only (m : Mode) (r : Record) (c : Cell) (i : Idx) (q : Record) (h : (one m r c).rec? i = some q) :
    i = 0 ∧ q = r := by
  rw [one_rec] at h
  by_cases hi : i = 0 <;> simp [hi] at h
  exact ⟨hi, h.symm⟩

theorem one_port (m : Mode) (r : Record) (c : Cell) (i : Idx) (p : Port) (h : (one m r c).portOf i = some p) :
    i = 0 ∧ r.port = some p := by
  simp only [State.portOf, one_rec] at h
  by_cases hi : i = 0 <;> simp [hi] at h
  exact ⟨hi, h⟩

theorem one_ports (m : Mode) (r : Record) (c : Cell) : (one m r c).UniquePorts := fun i j p hi hj =>
  (one_port m r c i p hi).1.trans (one_port m r c j p hj).1.symm

theorem one_ids (m : Mode) (r : Record) (c : Cell) : (one m r c).UniqueIdentities := fun i j q u hi hj _ =>
  (one_only m r c i q hi).1.trans (one_only m r c j u hj).1.symm

theorem one_engines (m : Mode) (r : Record) (c : Cell) : (one m r c).OneEngineEach := by
  intro a b ha
  cases ha

/-! ### Single steps from the manual's worked examples -/

/-- After reset the status byte is the marker alone: 0x05. -/
theorem test_status_after_reset : State.reset.statusByte = 0x05 := by decide +kernel

/-- Section 2.4: the codes 401, 399, 398, 402, 399, 399, 399 give the run 0, 1, 2, 0, 1, 2, 3. -/
theorem test_uv_run : ([401, 399, 398, 402, 399, 399, 399].foldl
    (fun l v => l ++ [nextUvRun 200 (l.getLastD 0) v]) ([] : List Nat)) = [0, 1, 2, 0, 1, 2, 3] := by decide

/-- Chapter 2: at its fourth debit of 3,000 cu, Q meets H and the mode becomes CRITICAL. -/
theorem test_debit_crosses_hold_back :
    let s : State := { State.reset with
      supply := ⟨.outage, some 30003000, false, 0, 0, 0, none, false⟩
      cfg := { Settings.reset with holdBack := 30000000, cutoff := 6000000 } }
    let t := supplyTick ⟨Vector.replicate 48 0, 150, 480, false, Vector.replicate 48 false, false, false⟩ s
    t.supply.q = some 30000000 ∧ t.supply.mode = .critical ∧ t.dev.mode = true ∧ t.meter.mark = .set := by
  decide +kernel

/-- A record of a class in a slot, on the port of the same number, with its cell. -/
def placed (i : Idx) (p : Port) (cls : Cls) (st : RState) (ceiling : Nat) : Idx × Record × Cell :=
  (i, { recIn st with
    identity := BitVec.ofNat 64 (i.val + 1), port := some p, cls := cls, ceiling := ceiling
    admitted := if st = .fed then some ceiling else none },
    { cellAt (if st = .fed then .feed else .sense) with trip := if st = .fed then some (ceiling * 3 / 2) else none })

/-- Chapter 2, entering CRITICAL, by a RESERVE that brings Q to H: the exchange queue is 4, 6, 9, 15, of which the
engines take 4 and 6 at once. -/
theorem test_entering_critical :
    let s := { many .outage [placed 0 0 .lifeline .fed 600, placed 4 4 .standard .fed 400,
      placed 6 6 .standard .waiting 400, placed 9 9 .deferred .lapsed 400, placed 12 12 .standard .resting 400,
      placed 15 15 .deferred .testing 400] [0, 4] [6] with
      cfg := { Settings.reset with holdBack := 30000000, cutoff := 6000000 } }
    let t := after (.reserve ⟨4, 4⟩ 30000000) s
    t.supply.mode = .critical ∧ t.arbiter = ⟨[0], []⟩ ∧ (t.link.engA.map (·.idx)) = some 4 ∧
      (t.link.engB.map (·.idx)) = some 6 ∧ t.link.queue = [9, 15] ∧
      [t.stOf 0, t.stOf 4, t.stOf 6, t.stOf 9, t.stOf 12, t.stOf 15] =
        [some .fed, some .carrying, some .carrying, some .lapsed, some .resting, some .carrying] ∧
      ((t.rec? 15).bind (·.testOutcome)) = some .abandoned := by
  decide +kernel

/-- Chapter 3, a trip and its recovery: record 5 waits with 50 ticks of cooling, record 8 is admitted, record 3 is not. -/
theorem test_trip :
    let p := placed 5 8 .standard .fed 400
    let s := { many .outage [placed 0 0 .lifeline .fed 3500, (p.1, p.2.1, { p.2.2 with faultCount := 2 }),
      placed 8 7 .lifeline .waiting 300, placed 3 3 .standard .waiting 500] [0, 5] [8, 3] with clock := 70000 }
    let t := after (.trip 8 700) s
    t.arbiter = ⟨[0, 8], [3, 5]⟩ ∧ t.budget = 3800 ∧ t.cells[(8 : Port)].faultCount = 3 ∧
      t.cells[(8 : Port)].drive = .sense ∧ t.cells[(8 : Port)].presence = .unknown ∧
      ((t.rec? 5).map fun r => (r.st, r.entered, r.cd.remaining, r.has .trip)) = some (.waiting, 70000, 50, true) ∧
      t.cooling 5 = true := by
  decide +kernel

/-- Chapter 3, a call pulse: the samples 1, 1, 5, 6 are one call, recognised at the second raised one. -/
theorem test_call_pulse :
    let run := fun l : List Nat => l.foldl (fun c v => callStep false v c) (cellAt .sense)
    (run [1, 1, 5]).callRun = 1 ∧ (run [1, 1, 5, 6]).callRun = 0 ∧ (run [1, 1, 5, 6]).callHeld = true := by decide

/-- R60: the first sample of a level sets the call baseline to its code, 400 here. -/
theorem test_first_sample (c : Cell) (h : c.callBase = none) :
    (sampledCell .sense none false 0 400 c).callBase = some 400 := by simp [sampledCell, callStep, h]

/-- R162: an appointment and an expiry of one tick both ask for a QUERY. The second meets the first pending and is dropped,
in either order, and an engine then takes it with the origin of the first. -/
theorem test_second_query_dropped :
    let s : State := { at' .outage .fed with
      clock := 5, schedule := [⟨5, .query, .record 0, 0⟩], agenda := ⟨[.appointments, .expiry 0], false, false⟩ }
    let pending := fun t : State => ((t.rec? 0).bind (·.pend)).map (·.origin)
    let taken := fun t : State => (t.link.engA.map (·.ex.origin), t.link.engB.isSome, t.link.queue)
    let t := after .appointmentExpiry s
    let u := after (.queryIntervalExpiry 0) s
    (pending t = some .appointment ∧ taken t = (none, false, [0])) ∧
    (pending u = some .policy ∧ taken u = (none, false, [0])) ∧
    taken (after (.queryIntervalExpiry 0) t) = (some .appointment, false, []) ∧
    taken (after .appointmentExpiry u) = (some .policy, false, []) := by
  decide +kernel

/-- R146: CRITICAL entry's REST is still pending for the expiry of its tick, which drops its own. -/
theorem test_second_rest_dropped :
    let s : State := { at' .outage .carrying with
      cfg := { Settings.reset with holdBack := 90000000 }, agenda := ⟨[.latch, .expiry 0], false, false⟩ }
    let t := event evaluateTick s
    let u := after (.queryIntervalExpiry 0) t
    (t.supply.mode = .critical ∧ t.link.queue = [0] ∧ t.inFlight 0 = none) ∧
      u.link.queue = [] ∧ (u.link.engA.map (·.ex.kind)) = some .rest ∧ u.link.engB = none := by
  decide +kernel

/-- R119: an expiry's QUERY is placed behind one in flight. -/
theorem test_query_behind_flight :
    let s : State := { setEngine .a (some (engagedBy 0 .query .listening [] none)) (at' .outage .carrying) with
      agenda := ⟨[.expiry 0], false, false⟩ }
    let t := after (.queryIntervalExpiry 0) s
    ((t.rec? 0).bind (·.pend)).map (·.kind) = some .query ∧ t.link.queue = [0] := by
  decide +kernel

/-- R9: a RESTING entry with a wake period of 0 and a TESTING entry leave the countdown stopped and one-shot. -/
theorem test_countdown_mode :
    let row := { Settings.reset.lifeline with wakePeriod := 0 }
    [(⟨5, 5, true, true⟩ : Countdown).forEntry .outage row false .resting,
      (⟨5, 5, true, true⟩ : Countdown).forEntry .outage row false .testing] =
        [⟨0, 5, false, false⟩, ⟨0, 5, false, false⟩] := by decide

/-- Chapter 4, a lifeline lapse with top-up. -/
theorem test_lapse_with_top_up :
    let a := placed 0 1 .lifeline .fed 400
    let b := placed 1 2 .lifeline .fed 400
    let s0 := many .outage [(0, { a.2.1 with allowance := 300 }, a.2.2), (1, { b.2.1 with allowance := 200 }, b.2.2)] [0, 1] []
    let s := { s0 with meter := { s0.meter with pool := 3181820 } }
    let scan : Scan := ⟨((Vector.replicate 48 0).set 1 450).set 2 380, 0, 480, false, Vector.replicate 48 false, false,
      false⟩
    let t := debitPort scan (debitPort scan s 1) 2
    [t.stOf 0, t.stOf 1] = [some .waiting, some .lapsed] ∧ (t.rec? 0).map (·.allowance) = some 3181820 ∧
      t.meter.pool = 0 ∧ t.dev.poolEmpty = true ∧ t.arbiter = ⟨[], [0]⟩ := by
  decide +kernel

/-- Chapter 4, one apportionment: six participants of weights 6, 3 and 1 share D = 60,000,000 cu. -/
theorem test_apportionment :
    let r4 := placed 4 4 .standard .resting 400
    let r7 := placed 7 7 .deferred .idle 400
    let s0 := many .outage [placed 0 0 .lifeline .fed 400, placed 1 1 .lifeline .carrying 400,
      placed 2 2 .standard .fed 400, placed 3 3 .standard .waiting 400,
      (4, { r4.2.1 with cap := some 5000000 }, r4.2.2), placed 5 5 .deferred .lapsed 400,
      placed 6 6 .standard .faulted 400, (7, { r7.2.1 with port := none }, r7.2.2)] [0, 2] [3]
    let s := { s0 with cfg := { Settings.reset with
      holdBack := 30000000, lifeline := { Settings.reset.lifeline with weight := 6 }
      standard := { Settings.reset.standard with weight := 3 } } }
    let t := assignShares s
    s.distributable = 60000000 ∧ s.totalWeight = 22 ∧ t.meter.pool = 3181820 ∧
      ([0, 1, 2, 3, 4, 5, 6, 7].map fun i : Idx => ((t.rec? i).map (·.allowance)).getD 0) =
        [16363636, 16363636, 8181818, 8181818, 5000000, 2727272, 0, 0] := by
  decide +kernel

/-- Chapter 5, a cooling member and a blocked head: 2 and 6 are admitted, 13 does not fit, 15 is not tried. -/
theorem test_admission :
    let c7 := placed 7 7 .lifeline .waiting 500
    let s := many .outage [placed 1 1 .lifeline .fed 1000, placed 4 4 .standard .fed 800, placed 10 10 .standard .fed 900,
      (7, { c7.2.1 with cd := ⟨18, 50, false, true⟩ }, c7.2.2), placed 2 2 .lifeline .waiting 300,
      placed 6 6 .standard .waiting 400, placed 13 13 .standard .waiting 700, placed 15 15 .deferred .waiting 200]
      [1, 4, 10] [7, 2, 6, 13, 15]
    (decideAdmission s).arbiter = ⟨[1, 4, 10, 2, 6], [7, 13, 15]⟩ := by
  decide +kernel

/-- Chapter 5, lowering the cap to 2200 mA: 11, 8 and 5 are released and join the heads of their groups. -/
theorem test_lowered_cap :
    let w14 := placed 14 14 .lifeline .waiting 400
    let s := many .outage [placed 0 0 .lifeline .fed 1000, placed 3 3 .standard .fed 800, placed 8 8 .deferred .fed 400,
      placed 5 5 .standard .fed 600, placed 11 11 .deferred .fed 500, placed 2 2 .lifeline .fed 300,
      (14, { w14.2.1 with cd := ⟨9, 50, false, true⟩ }, w14.2.2), placed 6 6 .standard .waiting 700,
      placed 9 9 .deferred .waiting 300] [0, 3, 8, 5, 11, 2] [14, 6, 9]
    let t := after (.setBusCap ⟨5, 5⟩ 2200) s
    t.arbiter = ⟨[0, 3, 2], [14, 5, 6, 11, 8, 9]⟩ ∧ t.budget = 2100 ∧ t.dev.capshed = true := by
  decide +kernel

/-- Chapter 6: a REPORT with soc 64 and no flags is accepted; one with a wrong check is not. The terminal's mark is
0.6 mA and its space 4.6 mA, the threshold 2.6 mA. -/
theorem test_report :
    receive .sense 2600 30 [] ([0x5C, 30, 64, 0, 0x5C ^^^ 30 ^^^ 64].map (sentChar 600 4600)) =
      .accepted ⟨64, 0, false, false⟩ ∧
    receive .sense 2600 30 [] ([0x5C, 30, 64, 0, 0x5F ^^^ 30 ^^^ 64].map (sentChar 600 4600)) = .bad := by
  decide +kernel

/-- R101: in SENSE no pair current is above 10 mA, so a terminal whose baseline is above 8 mA is not heard. -/
theorem test_sense_limit : judgeMark .sense 10001 (steady 60000) = true ∧ judgeMark .ramp 10001 (steady 60000) = false := by
  decide

/-- Chapter 9, across the wrap: the four bookings' order and due times. -/
theorem test_book_across_the_wrap :
    let s := { many .outage [placed 3 3 .standard .fed 400, placed 12 12 .standard .resting 400] [3] [] with
      clock := 4294967200 }
    let t := after (.book ⟨10, 10⟩ 1 12 200 0) (after (.book ⟨10, 10⟩ 6 0xFF 96 18000)
      (after (.book ⟨10, 10⟩ 2 0xFE 96 600) (after (.book ⟨10, 10⟩ 5 3 50 0) s)))
    t.schedule = [⟨4294967250, .test, .record 3, 0⟩, ⟨0, .query, .all, 600⟩, ⟨0, .apportion, .none, 18000⟩,
      ⟨104, .wake, .record 12, 0⟩] ∧ t.host.reply = some ⟨.done, [0, 0, 0, 104, 3, 4]⟩ := by
  decide +kernel

/-- Chapter 10: soc 84 to 81 over a window of 120 s grades the battery at 54 minutes. -/
theorem test_grade : gradeMinutes false 84 81 1200 = 54 ∧ gradeMinutes false 81 81 1200 = 65535 := by decide

/-! ### Witnesses: for each statement with hypotheses, a state and operands that meet them -/

theorem one_nonzero (m : Mode) (r : Record) (c : Cell) (h : r.identity ≠ 0) : (one m r c).NonzeroIdentities := by
  intro i q hq
  rw [(one_only m r c i q hq).2]
  exact h

theorem one_exchanges (m : Mode) (r : Record) (c : Cell) : (one m r c).ExchangeQueueExact := by
  refine ⟨?_, fun i => ?_⟩
  · show (if r.pend.isSome then [(0 : Idx)] else []).Nodup
    split <;> simp
  · show i ∈ (if r.pend.isSome then [(0 : Idx)] else []) ↔ _
    rw [one_rec]
    by_cases hi : i = 0 <;> by_cases hw : r.pend.isSome <;> simp [hi, hw]

/-- The record in FED of the tests, its cell in FEED, obeys the laws of service. -/
theorem fed_law : (at' .outage .fed).FeedLaw := by
  refine ⟨one_ports _ _ _, one_queue _ _ _, one_class _ _ _, one_feed _ _ _ (by decide),
    by unfold State.BudgetWithinCap; decide +kernel, ?_, ?_, ?_, by decide +kernel⟩
  · intro i q hq hp
    rw [(one_only _ _ _ i q hq).2] at hp
    cases hp
  · intro i q hq
    rw [(one_only _ _ _ i q hq).2]
    decide
  · intro i q p hq hp
    rw [(one_only _ _ _ i q hq).2] at hp ⊢
    cases hp
    decide +kernel

theorem witness_StepTakesFront : State.reset.pending = [] := rfl

theorem witness_PowerOnReset :
    ({ State.reset with inReset := true } : State).inReset = true ∧ ∀ b, Instr.next ⟨0, 0⟩ ≠ .powerOnReset b :=
  ⟨rfl, fun _ h => by cases h⟩

/-- A frame while BUSY is shown; a frame of 25 declared bytes; a malformed one. -/
theorem witness_FrameJudged :
    let s : State := { State.reset with host := ⟨[], none, true, false, []⟩ }
    (IsFrame (.next ⟨0, 0⟩) ∧ s.inReset = false ∧ s.agenda.due = [] ∧ s.host.busy = true) ∧
    (at' .outage .fed).Quiet ∧ (Instr.next ⟨25, 25⟩).framing = some ⟨25, 25⟩ ∧
    (⟨25, 25⟩ : Framing).fits (Instr.next ⟨25, 25⟩).params.length = false ∧
    (∃ bytes extra, Instr.malformedRequestFrame [0x13, 0] 0 = .malformedRequestFrame bytes extra) :=
  ⟨⟨.inl rfl, rfl, rfl, rfl⟩, one_quiet _ _ _, rfl, rfl, _, _, rfl⟩

/-- A frame in a state with an event due and in the state that the event leaves; no event due; and an order that names no
completion. -/
theorem witness_DueEvents :
    let s : State := { State.reset with agenda := ⟨[.sample 0], false, false⟩ }
    (s.inReset = false ∧ (settle s).inReset = false ∧ IsFrame (.next ⟨0, 0⟩) ∧ risingEdge s = risingEdge (settle s)) ∧
    (∀ ev : Event, State.reset.isDue ev = false) ∧ (∀ e : Engine, TickPart.complete e ∉ ({} : TickOrder).early ++ []) := by
  refine ⟨⟨rfl, ?_, .inl rfl, ?_⟩, fun _ => rfl, fun _ => List.not_mem_nil⟩ <;> decide +kernel

/-- READs of 8, 9, 15 and 16 bits, with a reply and without one. -/
theorem witness_ReadAndPoll :
    let s : State := { State.reset with host := ⟨[], some ⟨.done, [1]⟩, false, false, []⟩ }
    s.inReset = false ∧ 8 < 9 ∧ 9 ≤ 9 ∧ 15 < 16 ∧ ¬16 < 16 ∧
      s.host.reply = some ⟨.done, [1]⟩ ∧ State.reset.host.reply = none := by
  refine ⟨rfl, ?_, ?_, ?_, ?_, rfl, rfl⟩ <;> decide

theorem witness_TransactionRoundTrip :
    (∀ c ∈ ([.enroll ⟨9, 9⟩ 5 0 none, .amendPort ⟨3, 3⟩ 1 2 [], .setClassPolicy ⟨5, 5⟩ 16 9, .statusPoll 0, .statusPoll 8,
      .read 9, .malformedRequestFrame [0x13, 0] 0] : List Instr),
      c.wf = true ∧ c.framed = true ∧ (encodeTransaction c).isSome = true) := by decide

/-- A state with one record in FED and a command that changes it. -/
theorem witness_SettingsKept :
    let s : State := { at' .outage .fed with pending := [.setK ⟨5, 5⟩ 9] }
    s.cfg.InRange ∧ ∃ t, step s = .next t := by
  refine ⟨?_, _, rfl⟩
  show Settings.reset.InRange
  unfold Settings.InRange Policy.InRange
  decide

theorem witness_TableLawKept :
    let s : State := { at' .outage .fed with pending := [.enroll ⟨9, 9⟩ 5 0 none] }
    s.TableLaw ∧ ∃ t, step s = .next t :=
  ⟨⟨one_ids .outage (recIn .fed) (cellAt .feed), one_nonzero .outage (recIn .fed) (cellAt .feed) (by decide),
    one_ports .outage (recIn .fed) (cellAt .feed)⟩, _, rfl⟩

theorem witness_CellsKept :
    let s : State := { at' .outage .fed with pending := [.trip 0 700] }
    s.CellsInRange ∧ ∃ t, step s = .next t := by
  refine ⟨?_, _, rfl⟩
  unfold State.CellsInRange Cell.InRange
  decide +kernel

/-- With a pending exchange, an appointment that has come and is due, and one the furthest ahead, across the wrap. -/
theorem witness_QueuesKept :
    let s : State := { one .outage { recIn .carrying with pend := some ⟨.rest, 0, .policy⟩ } (cellAt .sense) with
      clock := 2147483649
      schedule := [⟨2147483649, .wake, .all, 0⟩, ⟨0, .query, .all, 600⟩]
      agenda := ⟨[.appointments], false, false⟩
      pending := [.sendQuery ⟨3, 3⟩ 0 0] }
    s.ExchangeQueueExact ∧ s.OneEngineEach ∧ s.ScheduleLawful ∧ ∃ t, step s = .next t := by
  refine ⟨one_exchanges .outage { recIn .carrying with pend := some ⟨.rest, 0, .policy⟩ } (cellAt .sense),
    one_engines .outage (recIn .carrying) (cellAt .sense), ?_, _, rfl⟩
  unfold State.ScheduleLawful
  decide +kernel

theorem witness_FeedLawKept :
    let s : State := { at' .outage .fed with pending := [.trip 0 700] }
    s.FeedLaw ∧ ∃ t, step s = .next t := ⟨fed_law, _, rfl⟩

/-- The record in FED of the tests keeps the laws of the modes and of the allowances. -/
theorem fed_modes : (at' .outage .fed).ModeLaw :=
  ⟨fun h => by (cases h), fun h => by (cases h), by unfold State.OffLaw; decide +kernel, one_test _ _ _ (by decide)⟩

theorem fed_allowance : (at' .outage .fed).AllowanceLaw := by
  intro i q hq
  rw [(one_only _ _ _ i q hq).2]
  exact ⟨fun _ => by decide, fun h => by (cases h), fun c h => by (cases h)⟩

/-- A completion is due and no apportionment; and a step of a state that keeps the three laws. -/
theorem witness_ChargeNeverRises :
    (let s : State := { setEngine .a (some (engagedBy 0 .wake .listening [] (some (.timeout, none)))) (at' .outage .waking)
        with agenda := ⟨[.complete .a], false, false⟩ }
     s.isDue .apportion = false ∧ ∃ t, exec (.wakeComplete .a) s = .next t) ∧
    (let s : State := { at' .outage .fed with pending := [.trip 0 700] }
     s.FeedLaw ∧ s.ModeLaw ∧ s.AllowanceLaw ∧ ∃ t, step s = .next t) :=
  ⟨⟨rfl, _, rfl⟩, fed_law, fed_modes, fed_allowance, _, rfl⟩

/-- A RESERVE that changes the mode with an expiry due; and a step of a state that keeps the laws. -/
theorem witness_ModeChangesOnlyHere :
    (let s : State := { at' .outage .carrying with agenda := ⟨[.expiry 0], false, false⟩ }
     s.isDue .latch = false ∧ s.isDue .failDebounce = false ∧ s.isDue .returnDebounce = false ∧
       exec (.reserve ⟨4, 4⟩ 0) s = .next (after (.reserve ⟨4, 4⟩ 0) s) ∧
       (after (.reserve ⟨4, 4⟩ 0) s).supply.mode ≠ s.supply.mode) ∧
    (let s : State := { at' .outage .fed with pending := [.trip 0 700] }
     s.FeedLaw ∧ s.ModeLaw ∧ ∃ t, step s = .next t) := by
  refine ⟨⟨rfl, rfl, rfl, rfl, ?_⟩, fed_law, fed_modes, _, rfl⟩
  decide +kernel

/-- Class 3, identity 0, ports 0 and 49, identity 7 again, port P1 again, and a full table. -/
theorem witness_EnrollRefused :
    let s := at' .outage .fed
    let f : State := { s with slots := Vector.replicate 64 (some { recIn .idle with port := none }) }
    (s.Quiet ∧ (⟨10, 10⟩ : Framing).fits (9 + (some (1 : Byte)).toList.length) = true) ∧
    2 < (3 : Byte).toNat ∧ ((0 : Byte).toNat = 0 ∧ 48 < (49 : Byte).toNat) ∧
    (¬(∃ b : Byte, some (2 : Byte) = some b ∧ (b.toNat = 0 ∨ 48 < b.toNat)) ∧
      ∃ i r, s.rec? i = some r ∧ r.identity = 7) ∧
    (¬(∃ i r, s.rec? i = some r ∧ r.identity = 8) ∧
      ∃ b i p, some (1 : Byte) = some b ∧ s.portOf i = some p ∧ b.toNat = p.val + 1) ∧
    (f.Quiet ∧ ¬(∃ i r, f.rec? i = some r ∧ r.identity = 8) ∧
      ¬(∃ b i p, some (2 : Byte) = some b ∧ f.portOf i = some p ∧ b.toNat = p.val + 1) ∧ ∀ i : Idx, f.rec? i ≠ none) := by
  have hf : ∀ i : Idx, ({ at' .outage .fed with
      slots := Vector.replicate 64 (some { recIn .idle with port := none }) } : State).rec? i =
      some { recIn .idle with port := none } := fun i => by simp [State.rec?]
  refine ⟨⟨one_quiet _ _ _, by decide⟩, by decide, by decide, ⟨?_, 0, recIn .fed, rfl, rfl⟩, ⟨?_, 1, 0, 0, rfl, rfl, rfl⟩,
    ⟨rfl, rfl, rfl⟩, ?_, ?_, fun i h => by rw [hf] at h; cases h⟩
  · rintro ⟨b, hb, h⟩
    cases hb
    revert h
    decide
  · rintro ⟨i, r, hr, hi⟩
    rw [(one_only _ _ _ i r hr).2] at hi
    revert hi
    decide
  · rintro ⟨i, r, hr, hi⟩
    rw [hf] at hr
    cases hr
    revert hi
    decide
  · rintro ⟨b, i, p, -, hp, -⟩
    rw [State.portOf, hf] at hp
    cases hp

/-- Slot 0 taken, slot 1 the lowest free one, identity 9 on P48, in each mode. -/
theorem witness_EnrollCreates (m : Mode) :
    let s := at' m (if m = .mains then .idle else .silent)
    s.Quiet ∧ (⟨10, 10⟩ : Framing).fits (9 + (some (48 : Byte)).toList.length) = true ∧ (0 : Byte) = Cls.lifeline.byte ∧
    (9 : Identity) ≠ 0 ∧ some (48 : Byte) = (some (47 : Port)).map portByte ∧
    (∀ j r, s.rec? j = some r → r.identity ≠ 9) ∧ (∀ j p, s.portOf j = some p → some (47 : Port) ≠ some p) ∧
    s.rec? 1 = none ∧ ∀ j, j < 1 → s.rec? j ≠ none := by
  refine ⟨one_quiet _ _ _, by decide, by decide, by decide, by decide, ?_, ?_, ?_, ?_⟩
  · intro j r h
    rw [(one_only _ _ _ j r h).2]
    simp [recIn]
  · intro j p h hp
    have := (one_port _ _ _ j p h).2
    cases hp
    revert this
    simp [recIn]
  · exact one_rec _ _ _ _
  · intro j hj h
    have h0 : j = 0 := Fin.ext (Nat.lt_one_iff.mp hj)
    rw [h0, at', one_rec] at h
    cases h

/-- Index 63 and 64, identities 0, 7 and 9, ports 0, 1, 2, 48 and 49, sections 3 and 4, starts 63 and 64. -/
theorem witness_ViewsRead :
    let s := at' .outage .fed
    s.Quiet ∧ (⟨2, 2⟩ : Framing).fits 2 = true ∧ (⟨9, 9⟩ : Framing).fits 9 = true ∧ (⟨1, 1⟩ : Framing).fits 1 = true ∧
    (63 < (64 : Byte).toNat ∧ (63 : Byte).toNat = (63 : Idx).val) ∧
    ((9 : Identity) ≠ 0 ∧ ∀ i r, s.rec? i = some r → r.identity ≠ 9) ∧
    ((7 : Identity) ≠ 0 ∧ s.UniqueIdentities ∧ s.rec? 0 = some (recIn .fed) ∧ (recIn .fed).identity = 7) ∧
    ((0 : Byte).toNat = 0 ∧ 48 < (49 : Byte).toNat) ∧
    ((48 : Byte).toNat = (47 : Port).val + 1 ∧ ∀ i, s.portOf i ≠ some 47) ∧
    ((1 : Byte).toNat = (0 : Port).val + 1 ∧ s.UniquePorts ∧ (recIn .fed).port = some 0) ∧
    (3 < (4 : Byte).toNat ∧ 63 < (64 : Byte).toNat) := by
  refine ⟨one_quiet _ _ _, by decide, by decide, by decide, by decide, ⟨by decide, ?_⟩,
    ⟨by decide, one_ids _ _ _, rfl, rfl⟩, by decide, ⟨by decide, ?_⟩, ⟨by decide, one_ports _ _ _, rfl⟩, by decide⟩
  · intro i r h
    rw [(one_only _ _ _ i r h).2]
    decide
  · intro i h
    have := (one_port _ _ _ i 47 h).2
    revert this
    decide

/-- AMEND refusals: index 64, a repeated change, ports 0 and 49, a port taken by another, and a record not FAULTED. -/
theorem witness_AmendJudged :
    let s := many .outage [placed 0 0 .standard .carrying 400, placed 1 1 .standard .carrying 400] [] []
    (s.Quiet ∧ s.UniquePorts) ∧
    ((Instr.unbind ⟨2, 2⟩ 64 []).framing = some ⟨2, 2⟩ ∧ (⟨2, 2⟩ : Framing).fits (Instr.unbind ⟨2, 2⟩ 64 []).params.length
      = true ∧ amendmentOf (.unbind ⟨2, 2⟩ 64 []) = some (64, [.unbind]) ∧ 63 < (64 : Byte).toNat) ∧
    changesFit [.removeCap, .cap 5] = false ∧ changesFit [.unbind] = true ∧ s.rec? 63 = none ∧ s.rec? 0 ≠ none ∧
    (changesFit [.port 49] = true ∧ 48 < (49 : Byte).toNat ∧ (0 : Byte).toNat = 0) ∧
    (changesFit [.port 2] = true ∧ (2 : Byte).toNat = (1 : Port).val + 1 ∧ s.portOf 1 = some 1 ∧ s.portOf 0 ≠ some 1) ∧
    (changesFit [.clearFault] = true ∧ s.stOf 0 ≠ some .faulted) := by
  refine ⟨⟨⟨rfl, rfl, rfl⟩, fun i j p hi hj => ?_⟩, ?_, ?_, ?_, ?_, ?_, ?_, ?_, ?_⟩
  · have h : ∀ i : Idx, ((many .outage [placed 0 0 .standard .carrying 400, placed 1 1 .standard .carrying 400] []
        []).portOf i).all (fun p => decide (p.val = i.val)) = true := by decide +kernel
    have h1 := h i
    have h2 := h j
    rw [hi] at h1
    rw [hj] at h2
    simp only [Option.all_some, decide_eq_true_eq] at h1 h2
    exact Fin.ext (h1.symm.trans h2)
  all_goals decide +kernel

/-- The ceiling 50 with a class change, and the ceiling 1001 alone. -/
theorem witness_AmendCeiling :
    let s := at' .outage .carrying
    s.Quiet ∧ (63 : Byte).toNat = (63 : Idx).val ∧ s.rec? 0 = some (recIn .carrying) ∧ (⟨1, 1⟩ : Framing).fits 1 = true ∧
    ((⟨6, 6⟩ : Framing).fits (amendParams 0 [.ceiling 50, .cls 2]).length = true ∧
      changesFit [.ceiling 50, .cls 2] = true ∧ amendRefusal [.ceiling 50, .cls 2] 0 s = none) ∧
    ((⟨4, 4⟩ : Framing).fits (amendParams 0 [.ceiling 1001]).length = true ∧ changesFit [.ceiling 1001] = true ∧
      amendRefusal [.ceiling 1001] 0 s = none ∧ 1000 < (1001 : BitVec 16).toNat) ∧
    (recIn .carrying).st ≠ .waiting := by
  refine ⟨one_quiet _ _ _, by decide, rfl, by decide, ?_, ?_, by decide⟩ <;> decide +kernel

/-- A cap of 0 on a FED record, and a removal. -/
theorem witness_AmendCap :
    let s := at' .outage .fed
    s.Quiet ∧ (0 : Byte).toNat = (0 : Idx).val ∧ s.rec? 0 = some (recIn .fed) ∧
    ((⟨6, 6⟩ : Framing).fits (amendParams 0 [capChange (some 0)]).length = true ∧
      changesFit [capChange (some 0)] = true ∧ amendRefusal [capChange (some 0)] 0 s = none) ∧
    ((⟨2, 2⟩ : Framing).fits (amendParams 0 [capChange none]).length = true ∧ changesFit [capChange none] = true ∧
      amendRefusal [capChange none] 0 s = none) ∧
    0 < (recIn .fed).allowance ∧ (recIn .fed).st = .fed ∧ s.AdmissionQueueExact := by
  refine ⟨one_quiet _ _ _, by decide +kernel, rfl, ?_, ?_, by decide +kernel, by decide +kernel, one_queue _ _ _⟩ <;> decide +kernel

/-- The same class, another one, and a LIFELINE record in CRITICAL in any state. -/
theorem witness_AmendClass (st : RState) :
    let s := at' .outage st
    let c := one .critical { recIn st with cls := .lifeline } (cellAt .sense)
    (s.Quiet ∧ (0 : Byte).toNat = (0 : Idx).val ∧ s.rec? 0 = some (recIn st) ∧ (⟨3, 3⟩ : Framing).fits 3 = true ∧
      s.AdmissionQueueExact ∧ (recIn st).cls = .standard ∧ (recIn st).cls ≠ .deferred ∧
      ¬(s.supply.mode = .critical ∧ (recIn st).cls = .lifeline)) ∧
    (c.Quiet ∧ c.AdmissionQueueExact ∧ c.supply.mode = .critical ∧
      c.rec? 0 = some { recIn st with cls := .lifeline }) :=
  ⟨⟨one_quiet _ _ _, by decide +kernel, rfl, by decide +kernel, one_queue _ _ _, rfl, fun h => (by cases h), fun h => (by cases h.2)⟩,
    one_quiet _ _ _, one_queue _ _ _, rfl, rfl⟩

/-- The port held, P48 in each mode, and an unbound record. -/
theorem witness_AmendPort (m : Mode) :
    let s := at' m (if m = .mains then .idle else .carrying)
    let u := one m { recIn .idle with port := none } Cell.reset
    (s.Quiet ∧ (0 : Byte).toNat = (0 : Idx).val ∧ (⟨3, 3⟩ : Framing).fits 3 = true ∧
      (∀ j, s.portOf j = some 0 → j = 0) ∧ (∀ j, s.portOf j = some 47 → j = 0) ∧ s.AdmissionQueueExact ∧
      s.portOf 0 = some 0 ∧ s.portOf 0 ≠ some 47) ∧
    (u.Quiet ∧ u.AdmissionQueueExact ∧ u.rec? 0 = some { recIn .idle with port := none } ∧
      ∀ j, u.portOf j = some 47 → j = 0) :=
  ⟨⟨one_quiet _ _ _, by decide +kernel, by decide +kernel, fun j h => (one_port _ _ _ j 0 h).1, fun j h => (one_port _ _ _ j 47 h).1,
    one_queue _ _ _, rfl, fun h => (by cases h)⟩, one_quiet _ _ _, one_queue _ _ _, rfl,
    fun j h => (one_port _ _ _ j 47 h).1⟩

theorem witness_Unbind (st : RState) :
    let s := at' .outage st
    let u := one .outage { recIn .idle with port := none } Cell.reset
    (s.Quiet ∧ (0 : Byte).toNat = (0 : Idx).val ∧ s.rec? 0 = some (recIn st) ∧ (⟨2, 2⟩ : Framing).fits 2 = true ∧
      s.AdmissionQueueExact ∧ s.FeedListExact ∧ s.OneEngineEach ∧ s.UniquePorts ∧ (recIn st).port = some 0) ∧
    (u.Quiet ∧ u.rec? 0 = some { recIn .idle with port := none } ∧ u.AdmissionQueueExact ∧ u.FeedListExact ∧
      u.OneEngineEach ∧ u.UniquePorts) :=
  ⟨⟨one_quiet _ _ _, by decide +kernel, rfl, by decide +kernel, one_queue _ _ _, one_feed _ _ _ (by cases st <;> decide +kernel),
    one_engines _ _ _, one_ports _ _ _, rfl⟩, one_quiet _ _ _, rfl, one_queue _ _ _, one_feed _ _ _ (by decide +kernel),
    one_engines _ _ _, one_ports _ _ _⟩

theorem witness_ClearFault (m : Mode) :
    let s := at' m .faulted
    s.Quiet ∧ (0 : Byte).toNat = (0 : Idx).val ∧ s.rec? 0 = some (recIn .faulted) ∧ (⟨2, 2⟩ : Framing).fits 2 = true ∧
      (recIn .faulted).st = .faulted ∧ (recIn .faulted).port = some 0 :=
  ⟨one_quiet _ _ _, by decide +kernel, rfl, by decide +kernel, rfl, rfl⟩

/-- Index 64, the free slot 63, and a FED record. -/
theorem witness_Retire :
    let s := at' .outage .fed
    s.Quiet ∧ (⟨1, 1⟩ : Framing).fits 1 = true ∧ 63 < (64 : Byte).toNat ∧ (63 : Byte).toNat = (63 : Idx).val ∧
      s.rec? 63 = none ∧ s.rec? 0 = some (recIn .fed) ∧ s.OneEngineEach ∧ s.UniquePorts ∧ s.AdmissionQueueExact ∧
      s.FeedListExact :=
  ⟨one_quiet _ _ _, by decide +kernel, by decide +kernel, by decide +kernel, one_rec _ _ _ _, rfl, one_engines _ _ _, one_ports _ _ _,
    one_queue _ _ _, one_feed _ _ _ (by decide +kernel)⟩

/-- A LAPSED record in each mode with 500 cu in the pool, and one that is not LAPSED. -/
theorem witness_Grant (m : Mode) :
    let s := at' m .lapsed
    s.Quiet ∧ (⟨5, 5⟩ : Framing).fits 5 = true ∧ 63 < (64 : Byte).toNat ∧ (63 : Byte).toNat = (63 : Idx).val ∧
      s.rec? 63 = none ∧ s.rec? 0 = some (recIn .lapsed) ∧ (recIn .lapsed).st = .lapsed ∧
      0 < (recIn .lapsed).allowance + min (min (1 : BitVec 32).toNat (at' .outage .lapsed).meter.pool) 1 ∧ s.AdmissionQueueExact ∧
      (at' m .fed).rec? 0 = some (recIn .fed) ∧ (recIn .fed).st ≠ .lapsed :=
  ⟨one_quiet _ _ _, by decide +kernel, by decide +kernel, by decide +kernel, one_rec _ _ _ _, rfl, rfl, by decide +kernel, one_queue _ _ _, rfl,
    by decide +kernel⟩

theorem witness_Apportion :
    let u : State := { at' .mains .idle with supply := State.reset.supply }
    (u.Quiet ∧ u.supply.q = none) ∧ (at' .outage .fed).Quiet ∧ (at' .outage .fed).supply.q ≠ none ∧
      (⟨0, 0⟩ : Framing).fits 0 = true := ⟨⟨⟨rfl, rfl, rfl⟩, rfl⟩, one_quiet _ _ _, by decide +kernel, by decide +kernel⟩

theorem witness_SharesSumToD (m : Mode) :
    (at' m .fed).rec? 0 = some (recIn .fed) ∧ (at' m .fed).supply.mode = m ∧
      (at' .outage .fed).participant 0 = true ∧ (at' .outage .fed).totalWeight ≠ 0 ∧
      (at' .outage .faulted).participant 0 = false ∧
      (let s : State := { at' .outage .fed with cfg := { Settings.reset with standard := { Settings.reset.standard with
        weight := 0 } } }
       s.participant 0 = true ∧ s.totalWeight = 0) := by
  refine ⟨rfl, rfl, ?_, ?_, ?_, ?_⟩ <;> decide +kernel

/-- An apportionment due for a request and for a mark of the part's own, of a record in each state; a share above 0, and
one of 0 where D is 0, of a class without a top-up. -/
theorem witness_ApportionmentPerformed (now : ApMark) (st : RState) :
    let s : State := { at' .outage st with
      meter := ⟨0, 0, 500, .clear, now⟩, agenda := ⟨[.apportion], false, false⟩ }
    (s.inReset = false ∧ s.isDue .apportion = true ∧ s.isDue .latch = false ∧ s.isDue .failDebounce = false ∧
      s.isDue .returnDebounce = false ∧ s.meter.now = now ∧ s.rec? 0 = some (recIn st) ∧ s.AdmissionQueueExact ∧
      s.FeedListExact ∧ (s.cfg.policy .standard).topUp = 0) ∧
    (at' .outage .fed).shareFor 0 = 90000000 ∧
    ({ at' .outage .fed with cfg := { Settings.reset with holdBack := 90000000 } } : State).shareFor 0 = 0 :=
  ⟨⟨rfl, rfl, rfl, rfl, rfl, rfl, rfl, one_queue .outage (recIn st) (cellAt .sense),
    one_feed .outage (recIn st) (cellAt .sense) (by cases st <;> decide), rfl⟩, by decide +kernel, by decide +kernel⟩

/-- Each mode; and a state that keeps the laws of service, brought from OUTAGE to DEPLETED by K at 5 and Q at 5. -/
theorem witness_Reserve (m : Mode) :
    ((at' m .idle).Quiet ∧ (⟨4, 4⟩ : Framing).fits 4 = true) ∧
    ((at' .outage .fed).Quiet ∧ (at' .outage .fed).FeedLaw ∧ (0 : BitVec 32).toNat ≤ (at' .outage .fed).cfg.cutoff ∧
      Mode.depleted ≠ (at' .outage .fed).supply.mode) :=
  ⟨⟨one_quiet _ _ _, by decide +kernel⟩, one_quiet _ _ _, fed_law, by decide +kernel, fun h => by cases h⟩

/-- K asked at H and above it. -/
theorem witness_SetHoldBackAndCutoff :
    let s : State := { State.reset with cfg := { Settings.reset with holdBack := 9 } }
    s.Quiet ∧ (⟨5, 5⟩ : Framing).fits 5 = true ∧ (9 : BitVec 32).toNat ≤ s.cfg.holdBack ∧
      s.cfg.holdBack < (10 : BitVec 32).toNat := ⟨⟨rfl, rfl, rfl⟩, by decide +kernel, by decide +kernel, by decide +kernel⟩

theorem witness_SetPlainSettings : (at' .mains .idle).Quiet ∧ (⟨5, 5⟩ : Framing).fits 5 = true :=
  ⟨one_quiet _ _ _, by decide +kernel⟩

/-- The first and last numbers, and those around them. -/
theorem witness_SetClassPolicy :
    (at' .outage .fed).Quiet ∧ (⟨5, 5⟩ : Framing).fits 5 = true ∧
      (16 : Byte).toNat = 16 + 9 * Cls.lifeline.rank + (0 : Fin 9).val ∧
      (42 : Byte).toNat = 16 + 9 * Cls.deferred.rank + (8 : Fin 9).val ∧ (15 : Byte).toNat < 16 ∧ 42 < (43 : Byte).toNat := by
  refine ⟨one_quiet _ _ _, ?_, ?_, ?_, ?_, ?_⟩ <;> decide +kernel

theorem witness_GetReads :
    (at' .outage .fed).Quiet ∧ (⟨1, 1⟩ : Framing).fits 1 = true ∧ (14 : Byte).toNat = 14 ∧ 42 < (43 : Byte).toNat ∧
      ((13 : Byte).toNat = 12 + 1 ∧ (List.replicate 13 (7 : Nat))[12]? = some 7) ∧
      ((42 : Byte).toNat = 16 + 9 * Cls.deferred.rank + 8 ∧ (List.replicate 9 (7 : Nat))[8]? = some 7) := by
  refine ⟨one_quiet _ _ _, ?_, ?_, ?_, ?_, ?_⟩ <;> decide +kernel

/-- The cap held, and a cap of 500 below the budget; a member that cools, one that fits exactly, and one that does
not. -/
theorem witness_SetBusCap :
    let s := at' .outage .fed
    let c7 := placed 7 7 .lifeline .waiting 500
    let q := fun ceiling => many .outage [placed 1 1 .lifeline .fed 1000,
      (7, { c7.2.1 with cd := ⟨18, 50, false, true⟩ }, c7.2.2), placed 2 2 .lifeline .waiting ceiling] [1] [7, 2]
    (s.Quiet ∧ (⟨5, 5⟩ : Framing).fits 5 = true ∧ max 500 (min 20000 (4000 : BitVec 32).toNat) = s.cfg.busCap ∧
      max 500 (min 20000 (499 : BitVec 32).toNat) ≠ s.cfg.busCap ∧ s.FeedLaw ∧ s.budget ≤ 500) ∧
    ((q 3000).arbiter.queue = [7] ++ 2 :: [] ∧ (q 3000).cooling 7 = true ∧ (q 3000).cooling 2 = false ∧
      (q 3000).arbiter.queue.Nodup ∧ (q 3000).stOf 2 = some .waiting ∧
      (q 3000).ceilingOf 2 + (q 3000).budget ≤ (q 3000).cfg.busCap ∧
      (q 3001).cfg.busCap < (q 3001).ceilingOf 2 + (q 3001).budget) := by
  refine ⟨⟨one_quiet _ _ _, ?_, ?_, ?_, fed_law, ?_⟩, ?_⟩ <;> decide +kernel

/-- Kind 4, SHED, is the kind of no appointment. -/
theorem shed_is_no_booking :
    ¬∃ (k : ApptKind) (tg : Target), (4 : Byte) = k.byte ∧ (0 : Byte) = tg.byte ∧ (k = .apportion ↔ tg = .none) := by
  rintro ⟨k, -, hk, -⟩
  cases k <;> revert hk <;> decide

/-- An appointment of the tests: a TEST of record 0, due at 5. -/
def booked : Appointment := ⟨5, .test, .record 0, 600⟩

/-- SHED is no kind; a free slot; a full schedule; an appointment that is replaced; delays and periods at their ends. -/
theorem witness_Book :
    let s : State := { at' .outage .carrying with schedule := [booked] }
    let f : State := { s with schedule := (List.finRange 32).map fun i => ⟨9, .wake, .record (i.castLE (by decide +kernel)), 0⟩ }
    s.Quiet ∧ (⟨10, 10⟩ : Framing).fits 10 = true ∧
    (¬∃ (k : ApptKind) (tg : Target), (4 : Byte) = k.byte ∧ (0 : Byte) = tg.byte ∧ (k = .apportion ↔ tg = .none)) ∧
    ((5 : Byte) = ApptKind.test.byte ∧ (63 : Byte) = (Target.record 63).byte ∧
      (ApptKind.test = .apportion ↔ Target.record 63 = .none) ∧ s.rec? 63 = none) ∧
    (f.Quiet ∧ 32 ≤ f.schedule.length ∧ (∀ a ∈ f.schedule, a.kind = .test → a.target ≠ .record 0) ∧ f.rec? 0 ≠ none) ∧
    (s.schedule.length < 32 ∧ ∃ a ∈ s.schedule, a.kind = .test ∧ a.target = .record 0) ∧
    ((6 : Byte) = ApptKind.apportion.byte ∧ (0xFF : Byte) = Target.none.byte ∧
      (ApptKind.apportion = .apportion ↔ Target.none = .none)) := by
  refine ⟨⟨rfl, rfl, rfl⟩, by decide, shed_is_no_booking, ⟨by decide, by decide, by decide, by decide +kernel⟩,
    ⟨⟨rfl, rfl, rfl⟩, by decide +kernel, by decide +kernel, by decide +kernel⟩,
    ⟨by decide +kernel, booked, by decide +kernel, rfl, rfl⟩, by decide, by decide, by decide⟩

theorem witness_Cancel :
    let s : State := { at' .outage .carrying with schedule := [booked] }
    s.Quiet ∧ (⟨2, 2⟩ : Framing).fits 2 = true ∧ (⟨2, 1⟩ : Framing).fits 2 = false ∧
      (¬∃ (k : ApptKind) (tg : Target), (4 : Byte) = k.byte ∧ (0 : Byte) = tg.byte ∧ (k = .apportion ↔ tg = .none)) ∧ (5 : Byte) = ApptKind.test.byte ∧
      (0 : Byte) = (Target.record 0).byte ∧ s.schedule = [] ++ booked :: [] ∧ booked.kind = .test ∧
      booked.target = .record 0 ∧ ∀ a ∈ s.schedule, a.kind = .test → a.target ≠ .all := by
  refine ⟨⟨rfl, rfl, rfl⟩, ?_, ?_, shed_is_no_booking, ?_, ?_, rfl, rfl, rfl, ?_⟩ <;> decide +kernel

/-- Positions 32, 31 and 0. -/
theorem witness_ScheduleReads :
    let s : State := { at' .outage .carrying with schedule := [booked] }
    s.Quiet ∧ (⟨1, 1⟩ : Framing).fits 1 = true ∧ (⟨1, 0⟩ : Framing).fits 1 = false ∧ 31 < (32 : Byte).toNat ∧
      (31 : Byte).toNat ≤ 31 ∧
      s.schedule.length ≤ (31 : Byte).toNat ∧ s.schedule[(0 : Byte).toNat]? = some booked := by
  refine ⟨⟨rfl, rfl, rfl⟩, ?_, ?_, ?_, ?_, ?_, rfl⟩ <;> decide +kernel

/-- Each kind, target, mode and state, with its due time reached and the next one due the furthest ahead; an eligible
record, and one that is not. -/
theorem witness_AppointmentExpiry (k : ApptKind) (tg : Target) (m : Mode) (st : RState) :
    let a : Appointment := ⟨5, k, tg, 600⟩
    let s : State := { at' m st with
      clock := 5, schedule := [a, ⟨6, .wake, .all, 0⟩], agenda := ⟨[.appointments, .expiry 0], false, false⟩ }
    s.inReset = false ∧ s.isDue .appointments = true ∧ s.isDue (.expiry 0) = true ∧ (recIn st).pend = none ∧ s.schedule = a :: [⟨6, .wake, .all, 0⟩] ∧
      ((5 : Stamp) - 5).toNat < 2147483648 ∧ 2147483648 ≤ ((5 : Stamp) - 6).toNat ∧ s.AdmissionQueueExact ∧
      s.rec? 0 = some (recIn st) ∧ s.supply.mode = m ∧ (recIn st).port ≠ none ∧ s.UniquePorts ∧
      (at' .outage .carrying).testEligible 0 = true ∧ (at' .outage .resting).testEligible 0 = false :=
  ⟨rfl, rfl, rfl, rfl, rfl, by decide +kernel, by decide +kernel, one_queue m (recIn st) (cellAt .sense), rfl, rfl,
    fun h => by (cases h), one_ports m (recIn st) (cellAt .sense), by decide +kernel, by decide +kernel⟩

/-- Each kind in each state and mode, with nothing pending and with the same exchange pending. -/
theorem witness_Send (k : ExKind) (m : Mode) (st : RState) :
    let s := at' m st
    s.Quiet ∧ (⟨3, 3⟩ : Framing).fits 3 = true ∧ 63 < (64 : Byte).toNat ∧ (63 : Byte).toNat = (63 : Idx).val ∧
      s.rec? 63 = none ∧ s.rec? 0 = some (recIn st) ∧ s.supply.mode = m ∧
      (one m { recIn st with pend := some ⟨k, 0, .policy⟩ } (cellAt .sense)).Quiet :=
  ⟨one_quiet _ _ _, by decide +kernel, by decide +kernel, by decide +kernel, one_rec _ _ _ _, rfl, rfl, one_quiet _ _ _⟩

theorem witness_Test :
    let s := at' .outage .fed
    s.Quiet ∧ (⟨1, 1⟩ : Framing).fits 1 = true ∧ 63 < (64 : Byte).toNat ∧ (63 : Byte).toNat = (63 : Idx).val ∧
      s.rec? 63 = none ∧ s.rec? 0 = some (recIn .fed) ∧
      (∃ p, (recIn .fed).port = some p ∧ ((recIn .fed).st = .fed ∨ (recIn .fed).st = .carrying) ∧
        s.cells[p].presence = .present ∧ (recIn .fed).call = false ∧ s.supply.mode = .outage) ∧
      s.AdmissionQueueExact ∧ s.FeedListExact ∧ s.UniquePorts ∧ (recIn .lapsed).st ≠ .fed :=
  ⟨one_quiet _ _ _, by decide +kernel, by decide +kernel, by decide +kernel, one_rec _ _ _ _, rfl, ⟨0, rfl, .inl rfl, rfl, rfl, rfl⟩,
    one_queue _ _ _, one_feed _ _ _ (by decide +kernel), one_ports _ _ _, by decide +kernel⟩

/-- Nothing pending, the same kind pending, a WAKE under a QUERY, and another kind. -/
theorem witness_MergeRule :
    let r := { recIn .carrying with pend := some ⟨.wake, 0, .policy⟩ }
    (at' .outage .carrying).rec? 0 = some (recIn .carrying) ∧ (recIn .carrying).pend = none ∧
      (one .outage r (cellAt .sense)).rec? 0 = some r ∧ r.pend = some ⟨.wake, 0, .policy⟩ ∧
      Origin.policy ≠ .test ∧ ¬(ExKind.wake = .rest) := ⟨rfl, rfl, rfl, rfl, by decide, by decide⟩

/-- R100: the start bit of a QUERY is the bias removed in SENSE and the reserve voltage dropped in FEED. -/
theorem test_line_form :
    let s := fun st => setEngine .a (some (engagedBy 0 .query .sending [] none)) (at' .outage st)
    ((after (.frameSent .a) (s .carrying)).lineOf .a).take 3 = [.biasRemoved, .biasRemoved, .bias] ∧
    ((after (.frameSent .a) (s .fed)).lineOf .a).take 3 = [.dropped, .dropped, .reserve] := by
  decide +kernel

/-- R100, R115: a sending engine's pair is at the notch in a space of its frame, and at mark once the frame is out or the
exchange is aborted, whatever the last conversion found. -/
theorem test_line_level :
    let s : State := { setEngine .a (some (engagedBy 0 .query .sending [] none)) (at' .outage .carrying) with
      tick := ⟨Vector.replicate 48 true, [0], []⟩ }
    s.lineLevel 0 true = .biasRemoved ∧ s.lineLevel 0 false = .bias ∧
      (after (.frameSent .a) s).lineLevel 0 true = .bias ∧ (abortEngine .aborted .a s).lineLevel 0 true = .bias := by
  decide +kernel

/-- R112: the gap runs out while a start bit is unconfirmed, and that start proves false: BADREPLY, so the guard. -/
theorem test_late_false_start :
    let s := setEngine .a (some { engagedBy 0 .query .listening [0x5C] none with midChar := true }) (at' .outage .carrying)
    let t := after (.interCharacterGapTimeout .a) s
    (t.engine .a).map (·.phase) = some .listening ∧
      ((after (.falseStart .a (steady 0) false) t).engine .a).map (·.phase) = some .guarding := by
  decide +kernel

/-- A record with a pending exchange heads the queue, not held, and engine B is free, at each drive level of its port; and
one that is held for the expiry behind it. -/
theorem witness_PickTakes (d : Drive) :
    let r := { recIn .carrying with pend := some ⟨.query, 0, .policy⟩ }
    let s := one .outage r (cellAt d)
    (s.engine .b = none ∧ s.link.queue = [] ++ 0 :: [] ∧ s.link.queue.Nodup ∧ s.inFlight 0 = none ∧ s.held 0 = false ∧
      s.rec? 0 = some r ∧ r.pend = some ⟨.query, 0, .policy⟩ ∧ s.cfg.windowCode ≤ 3 ∧ s.driveOn r.port = d) ∧
    ({ one .outage { r with pend := some ⟨.query, 0, .appointment⟩ } (cellAt d) with
      agenda := ⟨[.expiry 0], false, false⟩ } : State).held 0 = true :=
  ⟨⟨rfl, rfl, by cases d <;> decide +kernel, rfl, held_quiet _ rfl _, rfl, rfl, by cases d <;> decide,
    by cases d <;> decide +kernel⟩, by cases d <;> decide +kernel⟩

/-- An attempt in each phase, on a port in SENSE that can change to RAMP, and on one in OFF; and one during a character,
after any number of attempts. -/
theorem witness_FrameAndGuard (ph : ExPhase) (k : ExKind) (n : Nat) :
    let g := engagedBy 0 k ph [] none
    let s := setEngine .a (some g) (at' .outage .carrying)
    (s.inReset = false ∧ s.engine .a = some g ∧ g.outcome = none ∧ g.phase = ph) ∧
    (s.engineOn 0 = some .a ∧ g.port = some 0 ∧ Drive.ramp ≠ .off ∧ s.cells[(0 : Port)].drive = .sense ∧
      (∀ f : Engine, f ≠ .a → s.engagedOn 0 f = false) ∧ s.engineOn 1 = none) ∧
    (at' .depleted .silent).driveOn g.port = .off ∧
    (let h := { engagedBy 0 k .listening [] none with midChar := true, attempts := n }
     let u := setEngine .a (some h) (at' .outage .carrying)
     u.engine .a = some h ∧ h.phase = .listening ∧ h.midChar = true ∧ u.engineOn 0 = some .a ∧
       u.cells[(0 : Port)].drive ≠ .feed ∧ 2 ≤ h.retryLimit ∧ h.retryLimit < 3 ∧ h.attempts = n) := by
  refine ⟨⟨rfl, rfl, rfl, rfl⟩, ⟨?_, rfl, fun h => (by cases h), rfl, ?_, ?_⟩, rfl, rfl, rfl, rfl, ?_,
    fun h => (by cases h), Nat.le_refl 2, Nat.lt_succ_self 2, rfl⟩
  all_goals first | rfl | (intro f hf; cases f <;> first | rfl | exact absurd rfl hf)

/-- A listening engine with no character and with one, with and without a start bit begun and a timer run out, and a
start bit at and below the threshold. -/
theorem witness_AttemptFails (rx : List Byte) (mid out : Bool) :
    let g := { engagedBy 0 .query .listening rx none with midChar := mid, ranOut := out }
    let s := setEngine .a (some g) (at' .outage .carrying)
    s.inReset = false ∧ s.engine .a = some g ∧ g.outcome = none ∧ g.phase = .listening ∧ g.rx = rx ∧
      g.midChar = mid ∧ g.ranOut = out ∧ s.driveOn g.port ≠ .off ∧
      judgeMark .sense g.threshold (steady 2049) = true ∧ judgeMark .sense g.threshold (steady 2050) = false ∧
      (engagedBy 0 .query .sending rx none).phase ≠ .listening := by
  refine ⟨rfl, rfl, rfl, rfl, rfl, rfl, rfl, ?_, ?_, ?_, ?_⟩
  · show (at' .outage .carrying).driveOn (some 0) ≠ .off
    decide +kernel
  · show judgeMark .sense 2050 (steady 2049) = true
    decide
  · show judgeMark .sense 2050 (steady 2050) = false
    decide
  · exact fun h => by cases h

/-- A REPORT whole and behind two characters; one character kept; a framing error, a parity error, a false start, another
kind, another tag and a wrong check; and no character kept of none. -/
theorem witness_ReportReceived (rx : List Byte) :
    let g := engagedBy 0 .query .listening rx none
    let s := setEngine .a (some g) (at' .outage .carrying)
    let judge := judgeChar .sense 2050
    let c := sentChar 100 2050
    (s.inReset = false ∧ s.engine .a = some g ∧ g.outcome = none ∧ g.phase = .listening ∧ g.rx = rx ∧
      s.driveOn g.port ≠ .off ∧ judge = judgeChar (s.driveOn g.port) g.threshold) ∧
    ([0x5C, 7, 101, 9, 0x5C ^^^ 7 ^^^ 101 ^^^ 9].map fun v => judge (c v)) =
      [0x5C, 7, 101, 9, 0x5C ^^^ 7 ^^^ 101 ^^^ 9].map .received ∧
    (judge { c 7 with stop := steady 2050 } = .framingError ∧ judge { c 7 with parity := (c 8).start } = .received 7 ∧
      judge { c 7 with parity := (c 8).stop } = .parityError ∧ judge { c 7 with start := steady 2049 } = .falseStart) ∧
    (judge (c 0xA2) = .received 0xA2 ∧ (0xA2 : Byte) ≠ 0x5C) ∧ (judge (c 8) = .received 8 ∧ (8 : Byte) ≠ g.tag) ∧
    judge (c 0x5C) = .received 0x5C ∧ (0x5C : Byte) ≠ 0x5C ^^^ 7 ^^^ 101 ^^^ 9 ∧
    ([] : List RxChar).map judge = ([] : List Byte).map .received := by
  refine ⟨⟨rfl, rfl, rfl, rfl, rfl, ?_, rfl⟩, ?_, ?_, ?_, ⟨?_, fun h => ?_⟩, ?_, ?_, rfl⟩
  · show (at' .outage .carrying).driveOn (some 0) ≠ .off
    decide +kernel
  all_goals first | decide +kernel | exact absurd (show (8 : Byte) = 7 from h) (by decide)

/-- A mark one step below the threshold and a space at it; in SENSE the threshold at its 10 mA and above. -/
theorem witness_CharacterRoundTrip :
    ((2049 : Nat) < 2050 ∧ 2050 ≤ 2050) ∧ ((9999 : Nat) < 10000 ∧ 10000 ≤ 10000) ∧ 10000 < 10001 ∧
      Drive.sense ≠ .off := by decide

/-- An accepted REPORT with soc at the floor of the class, and a final failure, for each kind and state. -/
theorem witness_completion (k : ExKind) (st : RState) (o : ExOutcome) (rep : Option Report) :
    let g := engagedBy 0 k .listening [] (some (o, rep))
    let s : State := { setEngine .a (some g) (at' .outage st) with agenda := ⟨[.complete .a], false, false⟩ }
    s.inReset = false ∧ s.isDue (.complete .a) = true ∧ s.engine .a = some g ∧ g.outcome = some (o, rep) ∧
      g.ex.kind = k ∧ s.rec? g.idx = some (recIn st) ∧ s.AdmissionQueueExact :=
  ⟨rfl, rfl, rfl, rfl, rfl, rfl, one_queue .outage (recIn st) (cellAt .sense)⟩

/-- Each mode, state and allowance, with a REPORT and without one, at and above the soc floor. -/
theorem witness_WakeCompletes (m : Mode) (st : RState) (a : Nat) (o : ExOutcome) (rep : Option Report) :
    let r := { recIn st with allowance := a }
    let g := engagedBy 0 .wake .listening [] (some (o, rep))
    let s : State := { setEngine .a (some g) (one m r (cellAt .sense)) with agenda := ⟨[.complete .a], false, false⟩ }
    s.inReset = false ∧ s.isDue (.complete .a) = true ∧ s.engine .a = some g ∧ g.outcome = some (o, rep) ∧
      s.rec? 0 = some r ∧ s.AdmissionQueueExact ∧ s.supply.mode = m ∧ r.allowance = a ∧
      (30 : Nat) ≤ (s.cfg.policy .standard).socFloor ∧ ¬(31 : Nat) ≤ (s.cfg.policy .standard).socFloor ∧
      (s.cfg.policy .standard).topUp = 0 :=
  ⟨rfl, rfl, rfl, rfl, rfl, one_queue m { recIn st with allowance := a } (cellAt .sense), rfl, rfl,
    (by decide : 30 ≤ Settings.reset.standard.socFloor), (by decide : ¬31 ≤ Settings.reset.standard.socFloor), rfl⟩

/-- A record in each state, with the rest after reached and not, and a LIFELINE one in CRITICAL; and the test's own QUERY
in each phase. -/
theorem witness_QueryCompletes (m : Mode) (st : RState) (o : ExOutcome) (rep : Option Report) (t : TestCtx) :
    let r := { recIn .testing with test := some t }
    let g := { engagedBy 0 .query .listening [] (some (o, rep)) with ex := ⟨.query, 0, .test⟩ }
    let s : State := { setEngine .a (some g) (one .outage r (cellAt .sense)) with
      agenda := ⟨[.complete .a], false, false⟩ }
    s.inReset = false ∧ s.isDue (.complete .a) = true ∧ s.engine .a = some g ∧ g.outcome = some (o, rep) ∧
      g.ex.kind = .query ∧ s.rec? g.idx = some r ∧ s.AdmissionQueueExact ∧ r.st = .testing ∧ r.test = some t ∧
      s.supply.mode = .outage ∧ 0 < (at' .outage .testing).cfg.testWindow ∧
      (let g := engagedBy 0 .query .listening [] (some (o, rep))
       let q : State := { setEngine .a (some g) (at' m st) with agenda := ⟨[.complete .a], false, false⟩, clock := 18000 }
       q.rec? g.idx = some (recIn st) ∧ q.isDue (.complete .a) = true ∧ q.engine .a = some g ∧ q.AdmissionQueueExact ∧
         q.supply.mode = m ∧ (q.cfg.policy .standard).restAfter * 10 ≤ (q.clock - (recIn st).entered).toNat) :=
  ⟨rfl, rfl, rfl, rfl, rfl, rfl, one_queue .outage { recIn .testing with test := some t } (cellAt .sense), rfl, rfl, rfl,
    by decide, rfl, rfl, rfl, one_queue m (recIn st) (cellAt .sense), rfl,
    (by decide : Settings.reset.standard.restAfter * 10 ≤ ((18000 : Stamp) - 0).toNat)⟩

/-- A SHED with a call-active yes and no, without an answer, and each other kind, in each state. -/
theorem witness_RestAndShedComplete (st : RState) (k : ExKind) (o : ExOutcome) (rep : Option Report) :
    let g := engagedBy 0 k .listening [] (some (o, rep))
    let s : State := { setEngine .b (some g) (at' .outage st) with agenda := ⟨[.complete .b], false, false⟩ }
    s.inReset = false ∧ s.isDue (.complete .b) = true ∧ s.engine .b = some g ∧
      g.outcome = some (o, rep) ∧ g.ex.kind = k ∧ s.rec? g.idx = some (recIn st) ∧ s.AdmissionQueueExact ∧
      (Settings.reset.policy .standard).topUp = 0 :=
  ⟨rfl, rfl, rfl, rfl, rfl, rfl, one_queue .outage (recIn st) (cellAt .sense), rfl⟩

/-- Each mode and state; a voltage code below the floor and one at it, the third low tick and the second, a return count
one short of its limit, and an appointment that this tick brings due; and a FED record on a cell in
FEED, its code below its allowance. -/
theorem witness_Tick (m : Mode) (st : RState) :
    let s : State := { at' m st with
      supply := { (at' m st).supply with uvRun := 2, returnCount := 599 }, schedule := [⟨1, .wake, .all, 0⟩] }
    s.inReset = false ∧ s.agenda = ⟨[], false, false⟩ ∧ s.supply.mode = m ∧ s.rec? 0 = some (recIn st) ∧
      s.AdmissionQueueExact ∧ s.supply.q = some 90000000 ∧ 2 ≤ s.supply.uvRun ∧ s.supply.latch = false ∧
      399 * 50 < s.cfg.uvFloor * 100 ∧ ¬400 * 50 < s.cfg.uvFloor * 100 ∧
      s.cfg.returnDebounce * 10 ≤ s.supply.returnCount + 1 ∧ s.schedule.head? = some ⟨1, .wake, .all, 0⟩ ∧
      (s.clock + 1 - 1).toNat < 2147483648 ∧
      (let u := at' m .fed
       u.boundAt 0 = some 0 ∧ u.rec? 0 = some (recIn .fed) ∧ u.cells[(0 : Port)].drive = .feed ∧
         (999 : Code).toNat < (recIn .fed).allowance) :=
  ⟨rfl, rfl, rfl, rfl, one_queue m (recIn st) (cellAt .sense), rfl, Nat.le_refl 2, rfl,
    (by decide : 399 * 50 < Settings.reset.uvFloor * 100), (by decide : ¬400 * 50 < Settings.reset.uvFloor * 100),
    (by decide : Settings.reset.returnDebounce * 10 ≤ 599 + 1), rfl, (by decide : ((0 : Stamp) + 1 - 1).toNat < 2147483648),
    rfl, rfl, rfl, by decide⟩

/-- A FED record with an allowance of 1000 on a cell in FEED, debited by 999 and by 1000; and a LIFELINE one, whose
class has a top-up, with 500 cu in the pool, in each mode. -/
theorem witness_DebitPort (m : Mode) :
    let s := at' .outage .fed
    let r := { recIn .fed with cls := .lifeline }
    let u := one m r (cellAt .feed)
    s.boundAt 0 = some 0 ∧ s.rec? 0 = some (recIn .fed) ∧ s.cells[(0 : Port)].drive = .feed ∧
      (999 : Code).toNat < (recIn .fed).allowance ∧ (recIn .fed).allowance ≤ (1000 : Code).toNat ∧
      (s.cfg.policy .standard).topUp = 0 ∧ (0 < (s.cfg.policy .lifeline).topUp) ∧ State.reset.meter.pool = 0 ∧
      (u.boundAt 0 = some 0 ∧ u.rec? 0 = some r ∧ 0 < u.meter.pool ∧ u.supply.mode = m ∧ r.cap = none) := by
  refine ⟨rfl, rfl, ?_, ?_, ?_, ?_, ?_, rfl, rfl, rfl, (by decide : 0 < 500), rfl, rfl⟩ <;> decide +kernel

/-- In MAINS with the record of the tests IDLE, the laws of service hold. -/
theorem idle_law : (at' .mains .idle).FeedLaw := by
  refine ⟨one_ports _ _ _, one_queue _ _ _, one_class _ _ _, one_feed _ _ _ (by decide),
    by unfold State.BudgetWithinCap; decide +kernel, ?_, ?_, ?_, by decide +kernel⟩
  · intro i q hq hp
    rw [(one_only _ _ _ i q hq).2] at hp
    cases hp
  · intro i q hq
    rw [(one_only _ _ _ i q hq).2]
    decide
  · intro i q p hq hp
    rw [(one_only _ _ _ i q hq).2] at hp ⊢
    cases hp
    decide +kernel

/-- Each supply event due alone; in MAINS with and without Q. -/
theorem witness_SupplyEvents (ev : Event) :
    let s : State := { at' .mains .idle with agenda := ⟨[ev], false, false⟩ }
    let o : State := { at' .outage .carrying with agenda := ⟨[ev], false, false⟩ }
    let n : State := { s with supply := State.reset.supply }
    (s.inReset = false ∧ s.supply.mode = .mains ∧ s.supply.q = some 90000000 ∧ s.cfg.cutoff < 90000000 ∧
      s.supply.latch = false ∧ s.FeedLaw ∧ s.rec? 0 = some (recIn .idle)) ∧
    (let f : State := { at' .outage .fed with agenda := ⟨[.latch], false, false⟩ }
     f.isDue .latch = true ∧ f.isDue .failDebounce = false ∧ f.FeedLaw ∧ f.supply.q ≠ none) ∧
    (n.supply.mode = .mains ∧ n.supply.q = none) ∧ (o.supply.mode = .outage ∧ o.supply.q ≠ none) ∧
    (ev = .latch ∨ ev = .failDebounce ∨ ev = .returnDebounce → s.isDue ev = true ∧ o.isDue ev = true) := by
  refine ⟨⟨rfl, rfl, rfl, (by decide : Settings.reset.cutoff < 90000000), rfl, idle_law, rfl⟩,
    ⟨rfl, rfl, fed_law, fun h => by cases h⟩, ⟨rfl, rfl⟩, ⟨rfl, fun h => by cases h⟩, ?_⟩
  · rintro (h | h | h) <;> subst h <;> exact ⟨rfl, rfl⟩

/-- An expiry due for a record in each state; the head of the queue is not cooling and its ceiling fits; and an expiry
with an exchange in flight and nothing pending, and with an exchange of its kind pending, in OUTAGE and CRITICAL. -/
theorem witness_Expiries (st : RState) :
    let s : State := { at' .outage st with agenda := ⟨[.expiry 0], false, false⟩ }
    s.inReset = false ∧ s.isDue (.expiry 0) = true ∧ s.rec? 0 = some (recIn st) ∧
      ((at' .outage .waiting).arbiter.queue = 0 :: [] ∧ (recIn .waiting).cd.running = false ∧
        (recIn .waiting).ceiling + (at' .outage .waiting).budget ≤ (at' .outage .waiting).cfg.busCap) ∧
      ({ recIn .testing with test := some ⟨.window, some 90, false⟩ } : Record).st = .testing ∧
      (let r := fun k : ExKind => { recIn .carrying with pend := some ⟨k, 0, .appointment⟩ }
       let due := fun s : State => ({ s with agenda := ⟨[.expiry 0], false, false⟩ } : State)
       let u := fun (m : Mode) => due (setEngine .a (some (engagedBy 0 .query .sending [] none)) (at' m .carrying))
       let v := fun (m : Mode) (k : ExKind) => due (one m (r k) (cellAt .sense))
       (∀ m, (u m).isDue (.expiry 0) = true ∧ (u m).inFlight 0 ≠ none ∧ (u m).rec? 0 = some (recIn .carrying) ∧
         (recIn .carrying).pend = none ∧ (u m).supply.mode = m) ∧
       (∀ m k, (v m k).isDue (.expiry 0) = true ∧ (v m k).rec? 0 = some (r k) ∧ (v m k).inFlight 0 = none) ∧
       (recIn .carrying).cls ≠ .lifeline) :=
  ⟨rfl, rfl, rfl, by decide +kernel, rfl, fun _ => ⟨rfl, fun h => (by cases h), rfl, rfl, rfl⟩,
    fun _ _ => ⟨rfl, rfl, rfl⟩, fun h => (by cases h)⟩

/-- The scan of the tests: 9 mA on every port, bias seen, mains absent. -/
def nine : Scan := ⟨Vector.replicate 48 9, 0, 480, false, Vector.replicate 48 true, false, false⟩

/-- The sample of a record's cell in each state, the FED one's code below its allowance. -/
theorem witness_CellEvents_sample (st : RState) :
    ((at' .outage st).inReset = false ∧ (at' .outage st).agenda = ⟨[], false, false⟩ ∧ (at' .outage st).UniquePorts ∧
      (at' .outage st).AdmissionQueueExact ∧ (at' .outage st).rec? 0 = some (recIn st) ∧ (recIn st).port = some 0 ∧
      (recIn st).pend = none) ∧
    nine.codes[(0 : Port)].toNat < (recIn .fed).allowance :=
  ⟨⟨rfl, rfl, one_ports _ _ _, one_queue _ _ _, rfl, rfl, rfl⟩, by decide +kernel⟩

/-- The tick of that sample leaves the mode as it is. -/
theorem witness_CellEvents_mode (st : RState) : (after (.tick nine {}) (at' .outage st)).supply.mode = .outage := by
  obtain ⟨u, hs, hc, h⟩ := tickWork_supply nine [] (at' .outage st) rfl
  have hx : ∃ x : State, (x.supply.mode = .outage ∧ x.supply.q = some 90000000 ∧ x.supply.latch = false ∧
      x.cfg = State.reset.cfg) ∧ mainsTick nine.mains (uvTick nine.volt.toNat (debitQ nine.bus.toNat u)) = x := by
    refine ⟨_, ?_, rfl⟩
    have hd : (debitQ nine.bus.toNat u).supply =
        { u.supply with q := u.supply.q.map fun q => q - 20 * nine.bus.toNat } ∧
        (debitQ nine.bus.toNat u).cfg = u.cfg := by
      simp only [debitQ, hs]
      exact ⟨rfl, rfl⟩
    have hu : ∀ y : State, (uvTick nine.volt.toNat y).supply =
        { y.supply with uvRun := nextUvRun y.cfg.uvFloor y.supply.uvRun nine.volt.toNat } ∧
        (uvTick nine.volt.toNat y).cfg = y.cfg := by
      intro y
      simp only [uvTick]
      split <;> exact ⟨rfl, rfl⟩
    simp only [mainsTick, hu, hd, hs, hc]
    exact ⟨rfl, rfl, rfl, rfl⟩
  obtain ⟨x, ⟨hm, hq, hl, hg⟩, hx⟩ := hx
  show (tickWork nine {} (at' .outage st)).supply.mode = .outage
  rw [h, supplyTick, hx]
  split
  · exact hm
  · simp only [evaluateTick, hm, enterSelected, hq, hl, hg]
    have : selectMode 90000000 State.reset.cfg.holdBack State.reset.cfg.cutoff false = .outage := by decide
    simp only [this, if_true, hm]

/-- The sample of P1 due, with the facts its tick has kept. -/
def sampled (st : RState) (c : Cell) (tick : TickFacts) : State :=
  { one .outage (recIn st) c with agenda := ⟨[.sample 0], false, false⟩, tick := tick }

/-- A tick's facts on P1: the bias comparator's reading, a downstream space, and a call on a record in a test window. -/
def facts (bias space call : Bool) : TickFacts :=
  ⟨Vector.replicate 48 bias, if space then [0] else [], if call then [0] else []⟩

theorem sampled_queue (st : RState) (c : Cell) (k : TickFacts) : (sampled st c k).AdmissionQueueExact :=
  one_queue .outage (recIn st) c

theorem sampled_engines (st : RState) (c : Cell) (k : TickFacts) : (sampled st c k).OneEngineEach :=
  one_engines .outage (recIn st) c

theorem sampled_ports (st : RState) (c : Cell) (k : TickFacts) : (sampled st c k).UniquePorts :=
  one_ports .outage (recIn st) c

/-- A cell that the next raised sample calls. -/
def raised : Cell := { cellAt .sense with callBase := some 2, callRun := 1, lastScan := 6 }

/-- Each work of the cell P1 at its boundary: RAMP counts of 1 and 0, a FEED run of 599, an over-ceiling run of 2 with a
code above the admitted current and at it, a call 4 codes above its baseline, a gain and a call of one sample, and the
call of a test window that has expired. -/
theorem witness_CellEvents (st : RState) :
    (let s := fun n : Nat => sampled .fed { cellAt .ramp with rampCount := n } (facts true false false)
     (s 1).inReset = false ∧ (s 1).boundAt 0 = some 0 ∧ (s 1).rec? 0 = some (recIn .fed) ∧
       (s 1).isDue (.sample 0) = true ∧ (s 1).cells[(0 : Port)].drive = .ramp ∧
       (s 1).cells[(0 : Port)].rampCount ≤ 1 ∧ (s 0).cells[(0 : Port)].rampCount ≤ 1 ∧
       (s 1).cells[(0 : Port)].presRun < 2 ∧ (0 : Port) ∉ (s 1).tick.calls ∧ (recIn .fed).admitted = some 400) ∧
    (let s := fun n v : Nat => sampled .fed { cellAt .feed with feedRun := 599, overRun := n, lastScan := v }
       (facts true false false)
     (s 2 400).cells[(0 : Port)].drive = .feed ∧ (s 2 400).cells[(0 : Port)].feedRun = 599 ∧
       (s 1 401).cells[(0 : Port)].overRun ≠ 2 ∧ 400 ≤ (recIn .fed).admitted.getD 0 ∧
       (s 2 401).cells[(0 : Port)].overRun = 2 ∧ (recIn .fed).admitted.getD 0 < 401 ∧ (recIn .fed).load ≠ some 3) ∧
    (let s := sampled st raised (facts true false false)
     s.boundAt 0 = some 0 ∧ s.rec? 0 = some (recIn st) ∧ s.isDue (.sample 0) = true ∧
       s.cells[(0 : Port)].drive = .sense ∧ s.engineOn 0 = none ∧ s.cells[(0 : Port)].callHeld = false ∧
       0 < s.cells[(0 : Port)].callRun ∧ s.cells[(0 : Port)].callBase = some 2 ∧
       2 + 4 ≤ s.cells[(0 : Port)].lastScan ∧ s.cells[(0 : Port)].presRun < 2) ∧
    (let s := sampled .silent { raised with presence := .absent, cand := some .present, presRun := 2 }
       (facts true false false)
     s.isDue (.sample 0) = true ∧ s.engineOn 0 = none ∧ s.cells[(0 : Port)].presence = .absent ∧
       s.cells[(0 : Port)].cand = some .present ∧ s.cells[(0 : Port)].presRun = 2 ∧ s.tick.bias[(0 : Port)] = true ∧
       (0 : Port) ∉ s.tick.spaces) ∧
    (let r := { recIn .testing with test := some ⟨.q1, some 90, false⟩ }
     let s : State := { one .outage r raised with
       agenda := ⟨[.sample 0], false, false⟩, tick := facts true false true }
     s.boundAt 0 = some 0 ∧ s.rec? 0 = some r ∧ s.isDue (.sample 0) = true ∧ (0 : Port) ∈ s.tick.calls ∧
       s.cells[(0 : Port)].presRun < 2 ∧ s.cells[(0 : Port)].drive = .sense ∧ r.st = .testing) := by
  refine ⟨?_, ?_, ?_, ?_, ?_⟩
  all_goals first | decide +kernel | (cases st <;> decide +kernel)

/-- The third sample of a gain, in SENSE, and of a loss, in SENSE and in FEED, from every presence value. -/
theorem witness_PresenceSettles (st : RState) (before : Presence) :
    (let c := { cellAt .sense with presence := before, cand := some .present, presRun := 2 }
     let s := sampled st c (facts true false false)
     s.inReset = false ∧ s.rec? 0 = some (recIn st) ∧ s.boundAt 0 = some 0 ∧ s.isDue (.sample 0) = true ∧
       s.cells[(0 : Port)].presRun = 2 ∧ (0 : Port) ∉ s.tick.spaces ∧ (0 : Port) ∉ s.tick.calls ∧
       s.recognises 0 = false ∧ s.supply.mode ≠ .depleted ∧ s.AdmissionQueueExact ∧ s.OneEngineEach ∧
       s.UniquePorts ∧
       sampleReads s.cells[(0 : Port)].drive false s.tick.bias[(0 : Port)] s.cells[(0 : Port)].lastScan =
         some .present) ∧
    (let c := { cellAt (if st = .fed then .feed else .sense) with
       presence := before, cand := some .absent, presRun := 2 }
     let s := sampled st c (facts false false false)
     s.boundAt 0 = some 0 ∧ s.isDue (.sample 0) = true ∧ s.cells[(0 : Port)].presRun = 2 ∧ s.recognises 0 = false ∧
       s.AdmissionQueueExact ∧ s.OneEngineEach ∧ s.UniquePorts ∧
       sampleReads s.cells[(0 : Port)].drive false s.tick.bias[(0 : Port)] s.cells[(0 : Port)].lastScan =
         some .absent) := by
  refine ⟨⟨rfl, rfl, rfl, rfl, rfl, List.not_mem_nil, List.not_mem_nil, ?_, fun h => (by cases h), sampled_queue _ _ _,
    sampled_engines _ _ _, sampled_ports _ _ _, ?_⟩, rfl, rfl, rfl, ?_, sampled_queue _ _ _, sampled_engines _ _ _,
    sampled_ports _ _ _, ?_⟩
  all_goals cases st <;> cases before <;> decide +kernel

/-- A current at the trip level and one above it, with fault counts 2 and 3, and with an exchange of a request in
flight. -/
theorem witness_Trip :
    let s := at' .outage .fed
    let t := one .outage (recIn .fed) { cellAt .feed with faultCount := 3 }
    (s.inReset = false ∧ s.agenda.decision = false ∧ s.agenda.pick = false) ∧ s.boundAt 0 = some 0 ∧
    s.rec? 0 = some (recIn .fed) ∧ s.cells[(0 : Port)].drive = .feed ∧ s.cells[(0 : Port)].trip = some 600 ∧
    (600 : Nat) ≤ 600 ∧ (600 : Nat) < 601 ∧ s.AdmissionQueueExact ∧ s.FeedListExact ∧ s.UniquePorts ∧
    s.cells[(0 : Port)].faultCount < 3 ∧ 3 ≤ t.cells[(0 : Port)].faultCount ∧ t.AdmissionQueueExact ∧
    (let g := engagedBy 0 .query .sending [] none
     let u := setEngine .a (some g) s
     u.OneEngineEach ∧ u.boundAt 0 = some 0 ∧ u.rec? 0 = some (recIn .fed) ∧ u.inFlight 0 = some .a ∧
       u.engine .a = some g ∧ g.ex.origin = .request) := by
  refine ⟨⟨rfl, rfl, rfl⟩, ?_, rfl, ?_, ?_, Nat.le_refl _, ?_, one_queue _ _ _, one_feed _ _ _ (by decide),
    one_ports _ _ _, ?_, ?_, one_queue _ _ _, fun a b _ h => (by cases h), rfl, rfl, rfl, rfl, rfl⟩ <;> decide +kernel

/-- A device flag; no flag at all; and the lowest record with a flag that is not masked. -/
theorem witness_NextReports :
    let d : State := { at' .outage .fed with dev := ⟨true, false, false, false⟩ }
    let s := one .outage { recIn .fed with flags := 4 } (cellAt .feed)
    (d.Quiet ∧ d.dev.mode = true) ∧ (⟨0, 0⟩ : Framing).fits 0 = true ∧
    ((at' .outage .fed).Quiet ∧ (recIn .fed).flags &&& ~~~(at' .outage .fed).cfg.mask = 0) ∧
    (s.Quiet ∧ s.rec? 0 = some { recIn .fed with flags := 4 } ∧ (4 : BitVec 8) &&& ~~~s.cfg.mask ≠ 0 ∧
      ∀ j, j < (0 : Idx) → False) :=
  ⟨⟨⟨rfl, rfl, rfl⟩, rfl⟩, by decide, ⟨one_quiet _ _ _, by decide⟩, one_quiet _ _ _, rfl, by decide +kernel,
    fun j h => absurd h (Fin.not_lt_zero j)⟩

theorem witness_ClearEmpties :
    (at' .outage .fed).Quiet ∧ (⟨0, 0⟩ : Framing).fits 0 = true ∧ ∀ e : Engine, ∀ g, (at' .outage .fed).engine e = some g →
      g.phase ≠ .sending :=
  ⟨one_quiet _ _ _, by decide, fun e g h => by cases e <;> cases h⟩

end Sys2Proof.Tests
end

section
/-! The frame of a decision, a pick and a state entry: what none of them changes, as one value `State.frame`, with one
equation per operation. -/

namespace Sys2Proof.Machine

open Sys2Proof

/-! ### The frame -/

/-- A record without the fields that an admission decision, a pick or a state entry changes. -/
def Record.terms (r : Record) : Record :=
  { r with st := .idle, entered := 0, admitted := none, cd := ⟨0, 0, false, false⟩, pend := none, test := none }

theorem sameTerms_iff (r q : Record) : r.SameTerms q ↔ q.terms = r.terms := by
  cases r; cases q
  simp only [Record.SameTerms, Record.terms, Record.mk.injEq, true_and]

/-- The terms of every slot. -/
def State.terms (s : State) : Idx → Option Record := fun i => (s.rec? i).map Record.terms

/-- The fault count and the scan code of every port. -/
def State.portMarks (s : State) : Port → Nat × Nat := fun p => (s.cells[p].faultCount, s.cells[p].lastScan)

/-- The event is the supply controller's or the meter's apportionment. -/
def Event.ofMeter (ev : Event) : Bool := ev.ofSupply || decide (ev = .apportion)

/-- The events due that are the supply controller's or the meter's. -/
def State.meterDue (s : State) : List Event := s.agenda.due.filter Event.ofMeter

/-- What a decision, a pick and a state entry leave as it is. -/
structure Frame where
  terms : Idx → Option Record
  marks : Port → Nat × Nat
  outer : Supply × Stamp × List Appointment × Settings × HostPort × Bool × List Instr
  meter : Meter
  dev : DevFlags
  lines : Engine → List LineLevel
  due : List Event
  facts : TickFacts

/-- The frame of a state. -/
def State.frame (s : State) : Frame :=
  ⟨s.terms, s.portMarks, s.outer, s.meter, s.dev, s.lineOf, s.meterDue, s.tick⟩

/-- Work that changes slots only within their terms, cells but for their marks, and no other part of the frame. -/
theorem frame_eq {s t : State} (hr : t.terms = s.terms) (hp : t.portMarks = s.portMarks) (ho : t.outer = s.outer)
    (hm : t.meter = s.meter) (hd : t.dev = s.dev) (hl : t.lineOf = s.lineOf) (hs : t.meterDue = s.meterDue)
    (hf : t.tick = s.tick) : t.frame = s.frame := by
  simp only [State.frame, hr, hp, ho, hm, hd, hl, hs, hf]

/-! ### A state entry in two steps -/

/-- The record of a state entry (R7, R9). -/
def enteredRec (b : Bool) (st : RState) (s : State) (r : Record) : Record :=
  { r with
    st := st, entered := s.clock, cd := r.cd.forEntry s.supply.mode (s.cfg.policy r.cls) b st
    test := if st = .testing then some ⟨.q0, none, false⟩ else none }

theorem enteredRec_terms (b : Bool) (st : RState) (s : State) (r : Record) :
    (enteredRec b st s r).terms = r.terms := rfl

/-- What a state entry does to its slot, the agenda and the exchange queue, ahead of its drive order. -/
def enterSlot (b : Bool) (st : RState) (i : Idx) (r : Record) (s : State) : State :=
  let t := dropDue (.expiry i) (setRec i (some (enteredRec b st s r)) s)
  if st = .faulted then dropPending i t else t

/-- The drive order of a record that can be unbound. -/
def orderAt (p : Option Port) (n : Nat) (l : Drive) (s : State) : State :=
  match p with
  | none => s
  | some p => orderLevel p n l s

/-- A state entry is its slot's change and then its drive order. -/
theorem enterState_new {b : Bool} {st : RState} {i : Idx} {s : State} {r : Record} (hr : s.rec? i = some r)
    (hst : r.st ≠ st) :
    enterState b st i s =
      orderAt r.port (r.admitted.getD 0) (driveFor s.supply.mode st) (enterSlot b st i r s) := by
  have hm : ∀ t : State, t.outer = s.outer → t.supply.mode = s.supply.mode := fun t ht =>
    congrArg (fun o => o.1.mode) ht
  unfold enterState orderAt enterSlot enteredRec
  rw [hr]
  dsimp only
  rw [if_neg hst]
  cases r.port with
  | none => rfl
  | some p =>
    dsimp only
    split
    · rw [hm _ (by simp)]
    · rfl

/-- A record already in the state makes no entry (R7). -/
theorem enterState_same {b : Bool} {st : RState} {i : Idx} {s : State} {r : Record} (hr : s.rec? i = some r)
    (hst : r.st = st) : enterState b st i s = s := by simp [enterState, hr, hst]

theorem enterState_free {b : Bool} {st : RState} {i : Idx} {s : State} (hr : s.rec? i = none) :
    enterState b st i s = s := by simp [enterState, hr]

theorem enterState_steps (b : Bool) (st : RState) (i : Idx) (s : State) :
    enterState b st i s = s ∨ ∃ r, s.rec? i = some r ∧ r.st ≠ st ∧ enterState b st i s =
      orderAt r.port (r.admitted.getD 0) (driveFor s.supply.mode st) (enterSlot b st i r s) := by
  cases hr : s.rec? i with
  | none => exact .inl (enterState_free hr)
  | some r =>
    by_cases hst : r.st = st
    · exact .inl (enterState_same hr hst)
    · exact .inr ⟨r, rfl, hst, enterState_new hr hst⟩

/-! ### Plain updates -/

theorem terms_setRec {i : Idx} {r q : Record} {s : State} (hr : s.rec? i = some r) (hq : q.terms = r.terms) :
    (setRec i (some q) s).terms = s.terms := by
  funext j
  by_cases hj : j = i
  · subst hj; simp [State.terms, hr, hq]
  · simp [State.terms, rec?_setRec, hj]

theorem frame_setRec {i : Idx} {r q : Record} {s : State} (hr : s.rec? i = some r) (hq : q.terms = r.terms) :
    (setRec i (some q) s).frame = s.frame :=
  frame_eq (terms_setRec hr hq) rfl rfl rfl rfl rfl rfl rfl

theorem frame_updRec {f : Record → Record} (hf : ∀ r, (f r).terms = r.terms) (i : Idx) (s : State) :
    (updRec i f s).frame = s.frame := by
  unfold updRec
  cases hr : s.rec? i with
  | none => rfl
  | some r => exact frame_setRec hr (hf r)

theorem frame_updCell {f : Cell → Cell} (hf : ∀ c, (f c).faultCount = c.faultCount ∧ (f c).lastScan = c.lastScan)
    (p : Port) (s : State) : (updCell p f s).frame = s.frame := by
  refine frame_eq rfl ?_ rfl rfl rfl rfl rfl rfl
  funext q
  by_cases hq : q = p
  · subst hq; simp [State.portMarks, hf]
  · simp only [State.portMarks, cells_updCell, if_neg hq]

/-- A change of what the model keeps due, but for the supply controller's and the meter's events. -/
theorem frame_agenda (s : State) (a : Agenda) (h : a.due.filter Event.ofMeter = s.agenda.due.filter Event.ofMeter) :
    ({ s with agenda := a } : State).frame = s.frame :=
  frame_eq rfl rfl rfl rfl rfl rfl h rfl

@[simp] theorem frame_callDecision (s : State) : (callDecision s).frame = s.frame := rfl
@[simp] theorem frame_callPick (s : State) : (callPick s).frame = s.frame := rfl
@[simp] theorem frame_clearNotes (s : State) : (clearNotes s).frame = s.frame := rfl
@[simp] theorem frame_joinTail (i : Idx) (s : State) : (joinTail i s).frame = s.frame := rfl
@[simp] theorem frame_joinHead (i : Idx) (s : State) : (joinHead i s).frame = s.frame := rfl
@[simp] theorem frame_leaveQueue (i : Idx) (s : State) : (leaveQueue i s).frame = s.frame := rfl

theorem meterDue_makeDue {ev : Event} (h : ev.ofMeter = false) (s : State) :
    (makeDue ev s).meterDue = s.meterDue := by
  simp [State.meterDue, h]

theorem meterDue_dropDue {ev : Event} (h : ev.ofMeter = false) (s : State) :
    (dropDue ev s).meterDue = s.meterDue := by
  simp only [State.meterDue, dropDue_agenda, List.filter_filter]
  refine List.filter_congr fun x _ => ?_
  by_cases hx : x = ev
  · simp [hx, h]
  · simp [hx]

theorem frame_makeDue {ev : Event} (h : ev.ofMeter = false) (s : State) : (makeDue ev s).frame = s.frame :=
  frame_agenda s _ (meterDue_makeDue h s)

theorem frame_dropDue {ev : Event} (h : ev.ofMeter = false) (s : State) : (dropDue ev s).frame = s.frame :=
  frame_agenda s _ (meterDue_dropDue h s)

@[simp] theorem frame_makeDue_complete (e : Engine) (s : State) : (makeDue (.complete e) s).frame = s.frame :=
  frame_makeDue rfl s
@[simp] theorem frame_dropDue_complete (e : Engine) (s : State) : (dropDue (.complete e) s).frame = s.frame :=
  frame_dropDue rfl s
@[simp] theorem frame_dropDue_expiry (i : Idx) (s : State) : (dropDue (.expiry i) s).frame = s.frame :=
  frame_dropDue rfl s

@[simp] theorem frame_setCountdown (i : Idx) (f : Countdown → Countdown) (s : State) :
    (setCountdown i f s).frame = s.frame := by
  simp only [setCountdown, frame_dropDue_expiry]
  exact frame_updRec (fun _ => by rfl) i s

/-! ### Engines and levels -/

@[simp] theorem frame_setEngine (e : Engine) (g : Option Engagement) (s : State) :
    (setEngine e g s).frame = s.frame := by cases e <;> rfl

@[simp] theorem frame_takeBaseline (e : Engine) (s : State) : (takeBaseline e s).frame = s.frame := by
  unfold takeBaseline
  split
  · cases e <;> rfl
  · rfl

@[simp] theorem frame_sendPart (e : Engine) (s : State) : (sendPart e s).frame = s.frame := by
  obtain h | ⟨g, n, -, -, -, h⟩ := sendPart_cases e s
  · rw [h]
  · rw [h]; cases e <;> rfl

@[simp] theorem frame_sendPartOn (p : Port) (s : State) : (sendPartOn p s).frame = s.frame := by
  unfold sendPartOn; split <;> simp

@[simp] theorem frame_failAttempt (e : Engine) (o : ExOutcome) (s : State) :
    (failAttempt e o s).frame = s.frame := by
  unfold failAttempt
  split
  · split <;> simp
  · rfl

@[simp] theorem frame_linkAtLevelChange (p : Port) (l : Drive) (s : State) :
    (linkAtLevelChange p l s).frame = s.frame := by
  unfold linkAtLevelChange
  split
  · rfl
  · split
    · rfl
    · dsimp only; split <;> simp

/-- A change of level keeps the fault count and the scan code (R47). -/
theorem toLevel_marks (n : Nat) (l : Drive) (c : Cell) :
    (c.toLevel n l).faultCount = c.faultCount ∧ (c.toLevel n l).lastScan = c.lastScan := by
  have hs : c.toSense.faultCount = c.faultCount ∧ c.toSense.lastScan = c.lastScan := by
    unfold Cell.toSense; split <;> exact ⟨rfl, rfl⟩
  unfold Cell.toLevel
  split
  · exact ⟨rfl, rfl⟩
  · cases l with
    | off => exact ⟨rfl, rfl⟩
    | sense => exact hs
    | ramp => dsimp only; split; exacts [⟨rfl, rfl⟩, hs]
    | feed => exact ⟨rfl, rfl⟩

@[simp] theorem frame_orderLevel (p : Port) (n : Nat) (l : Drive) (s : State) :
    (orderLevel p n l s).frame = s.frame := by
  unfold orderLevel
  split
  · rfl
  · rw [frame_linkAtLevelChange, frame_updCell (toLevel_marks n l), frame_sendPartOn]

@[simp] theorem frame_restartCall (p : Option Port) (s : State) : (restartCall p s).frame = s.frame := by
  unfold restartCall
  split
  · exact frame_updCell (f := Cell.clearCall) (fun _ => ⟨rfl, rfl⟩) _ s
  · rfl

@[simp] theorem frame_freeEngine (e : Engine) (s : State) : (freeEngine e s).frame = s.frame := by
  unfold freeEngine; split <;> simp

/-! ### Exchanges -/

@[simp] theorem frame_dropPending (i : Idx) (s : State) : (dropPending i s).frame = s.frame :=
  frame_updRec (f := fun r => { r with pend := none }) (fun _ => rfl) i s

@[simp] theorem frame_ask (i : Idx) (x : Exchange) (s : State) : (ask i x s).frame = s.frame := by
  obtain ⟨-, h⟩ | ⟨r, hr, ⟨-, h⟩ | ⟨-, -, h⟩ | ⟨-, h⟩⟩ := ask_cases i x s
  · rw [h]
  · rw [h]
  · rw [h]; exact frame_setRec hr rfl
  · rw [h, frame_callPick]; exact frame_setRec (q := { r with pend := some x }) hr rfl

@[simp] theorem frame_engage (e : Engine) (i : Idx) (s : State) : (engage e i s).frame = s.frame := by
  unfold engage
  split
  · rfl
  · split
    · rfl
    · simp

@[simp] theorem frame_pickFor (e : Engine) (s : State) : (pickFor e s).frame = s.frame := by
  obtain h | ⟨i, -, -, h⟩ := pickFor_cases e s <;> simp [h]

@[simp] theorem frame_pickBoth (s : State) : (pickBoth s).frame = s.frame := by simp [pickBoth]

/-! ### Service -/

@[simp] theorem frame_releaseFeed (i : Idx) (s : State) : (releaseFeed i s).frame = s.frame :=
  frame_updRec (f := fun r => { r with admitted := none }) (fun _ => rfl) i s

@[simp] theorem frame_orderAt (p : Option Port) (n : Nat) (l : Drive) (s : State) :
    (orderAt p n l s).frame = s.frame := by cases p <;> simp [orderAt]

@[simp] theorem frame_enterState (b : Bool) (st : RState) (i : Idx) (s : State) :
    (enterState b st i s).frame = s.frame := by
  obtain h | ⟨r, hr, -, h⟩ := enterState_steps b st i s
  · rw [h]
  · rw [h, frame_orderAt, enterSlot]
    split <;> simp [frame_setRec hr (enteredRec_terms b st s r)]

@[simp] theorem frame_enter (st : RState) (i : Idx) (s : State) : (enter st i s).frame = s.frame :=
  frame_enterState false st i s

@[simp] theorem frame_leaveService (i : Idx) (s : State) : (leaveService i s).frame = s.frame := by
  unfold leaveService; split <;> simp

/-- The collections and the admitted current of an admission (R90), ahead of the FED entry. -/
def admitSlot (i : Idx) (s : State) : State :=
  updRec i (fun r => { r with admitted := some r.ceiling })
    { s with arbiter := ⟨s.arbiter.feedList ++ [i], s.arbiter.queue.filter (· ≠ i)⟩ }

/-- An admission is its collections, the FED entry, and the class SHED where there is one (R90, R91). -/
theorem admitMember_cases (i : Idx) (s : State) :
    (s.rec? i = none ∧ admitMember i s = s) ∨ ∃ r, s.rec? i = some r ∧
      (admitMember i s = enter .fed i (admitSlot i s) ∨
        ∃ x, x.kind = .shed ∧ admitMember i s = ask i x (enter .fed i (admitSlot i s))) := by
  unfold admitMember admitSlot
  cases hr : s.rec? i with
  | none => exact .inl ⟨rfl, rfl⟩
  | some r =>
    refine .inr ⟨r, rfl, ?_⟩
    dsimp only
    split
    · exact .inl rfl
    · exact .inr ⟨_, rfl, rfl⟩

@[simp] theorem frame_admitSlot (i : Idx) (s : State) : (admitSlot i s).frame = s.frame :=
  (frame_updRec (f := fun r => { r with admitted := some r.ceiling }) (fun _ => rfl) i _).trans rfl

@[simp] theorem frame_admitMember (i : Idx) (s : State) : (admitMember i s).frame = s.frame := by
  obtain ⟨-, h⟩ | ⟨r, -, h | ⟨x, -, h⟩⟩ := admitMember_cases i s <;> simp [h]

@[simp] theorem frame_decideLoop (n : Nat) (s : State) : (decideLoop n s).frame = s.frame := by
  induction n generalizing s with
  | zero => rfl
  | succ n ih =>
    unfold decideLoop
    split
    · rfl
    · split
      · rw [ih, frame_admitMember]
      · rfl

@[simp] theorem frame_decideAdmission (s : State) : (decideAdmission s).frame = s.frame := by
  unfold decideAdmission; split <;> simp

/-- The end of an event keeps the frame. -/
@[simp] theorem frame_finishEvent (s t : State) : (finishEvent s t).frame = t.frame := by
  unfold finishEvent
  dsimp only
  split <;> split <;> simp

@[simp] theorem frame_enterByMode (i : Idx) (s : State) : (enterByMode i s).frame = s.frame := by
  unfold enterByMode; split <;> simp

/-! ### The frame as the statements say it -/

/-- Equal terms are the same records up to what a decision and a pick change. -/
theorem othersKept_iff (i : Idx) (s t : State) : s.OthersKept i t ↔ ∀ j, j ≠ i → t.terms j = s.terms j := by
  refine forall_congr' fun j => imp_congr_right fun _ => ?_
  unfold State.terms
  cases hs : s.rec? j <;> cases ht : t.rec? j <;> simp [sameTerms_iff]

/-- A record of equal terms. -/
theorem rec?_of_terms {s t : State} {i : Idx} {r : Record} (h : t.terms i = s.terms i) (hr : s.rec? i = some r) :
    ∃ q, t.rec? i = some q ∧ q.terms = r.terms := by
  simp only [State.terms, hr, Option.map_some, Option.map_eq_some_iff] at h
  obtain ⟨q, hq, he⟩ := h
  exact ⟨q, hq, he⟩

/-- Work on one record that keeps the frame of everything else keeps what `RestKept` names. -/
theorem restKept_of_frame {i : Idx} {s t u : State} (h : t.frame = u.frame) (hu : s.RestKept i u) :
    s.RestKept i t := by
  obtain ⟨ho, hp, hs, hc, hg, hl, hb, hv, he, hr, hq⟩ := hu
  have houter := congrArg Frame.outer h
  have hterms := congrArg Frame.terms h
  simp only [State.frame, State.outer, Prod.mk.injEq] at houter
  obtain ⟨h1, h2, h3, h4, -, h6, h7⟩ := houter
  have hport : t.portOf i = u.portOf i := by
    have := congrFun hterms i
    simp only [State.frame, State.terms] at this
    unfold State.portOf
    cases ht : t.rec? i <;> cases hu : u.rec? i <;> simp [ht, hu, Record.terms] at this ⊢
    exact this.2.1
  have hmarks : ∀ p : Port, t.cells[p].faultCount = u.cells[p].faultCount ∧
      t.cells[p].lastScan = u.cells[p].lastScan := fun p => by
    have := congrFun (congrArg Frame.marks h) p
    simpa [State.frame, State.portMarks] using this
  refine ⟨?_, fun p hps hpt => ?_, h1.trans hs, h2.trans hc, h4.trans hg, h3.trans hl, ?_, ?_, fun e hce => ?_,
    h6.trans hr, h7.trans hq⟩
  · rw [othersKept_iff] at ho ⊢
    exact fun j hj => (congrFun hterms j).trans (ho j hj)
  · rw [hport] at hpt
    rw [(hmarks p).1, (hmarks p).2]
    exact hp p hps hpt
  · exact (congrArg (fun f => f.meter.lastBus) h).trans hb
  · exact (congrArg (fun f => f.meter.lastVolt) h).trans hv
  · exact (congrFun (congrArg Frame.lines h) e).trans (he e hce)

end Sys2Proof.Machine
end

section
/-! What no work of a cell, of an exchange, of a test, of the schedule or of the meter changes, as one value
`State.fixed`: identities and ports, the scan, the supply controller, the clock, the settings, the host port, and what is
due of the supply controller's and the meter's events. -/

namespace Sys2Proof.Machine

open Sys2Proof

/-- What only the tick, a mode entry, a request of the table or of the settings, and reset change. -/
structure Fixed where
  roster : Idx → Option (Identity × Option Port)
  scans : Port → Nat
  supply : Supply
  clock : Stamp
  cfg : Settings
  host : HostPort
  inReset : Bool
  pending : List Instr
  codes : Nat × Nat
  now : ApMark
  facts : TickFacts
  due : List Event

/-- The identities and ports of the table (R2). -/
def State.roster (s : State) : Idx → Option (Identity × Option Port) :=
  fun i => (s.rec? i).map fun r => (r.identity, r.port)

/-- The fixed part of a state. -/
def State.fixed (s : State) : Fixed :=
  ⟨s.roster, fun p => s.cells[p].lastScan, s.supply, s.clock, s.cfg, s.host, s.inReset, s.pending,
    (s.meter.lastBus, s.meter.lastVolt), s.meter.now, s.tick, s.meterDue⟩

/-- The roster that terms give. -/
theorem roster_eq_terms (s : State) : s.roster = fun i => (s.terms i).map fun r => (r.identity, r.port) := by
  funext i
  simp only [State.roster, State.terms, Option.map_map]
  rfl

/-- What keeps the frame keeps the fixed part. -/
theorem fixed_of_frame {s t : State} (h : t.frame = s.frame) : t.fixed = s.fixed := by
  have hterms : t.terms = s.terms := congrArg Frame.terms h
  have hm : t.meter = s.meter := congrArg Frame.meter h
  have hs : ∀ p : Port, t.cells[p].lastScan = s.cells[p].lastScan := fun p =>
    congrArg Prod.snd (congrFun (congrArg Frame.marks h) p)
  have ho : t.outer = s.outer := congrArg Frame.outer h
  have hd : t.meterDue = s.meterDue := congrArg Frame.due h
  have hf : t.tick = s.tick := congrArg Frame.facts h
  simp only [State.outer, Prod.mk.injEq] at ho
  simp only [State.fixed, roster_eq_terms, hterms, hm, hs, ho, hd, hf]

/-- Work within one slot that keeps its identity and port. -/
theorem fixed_setRec {i : Idx} {r q : Record} {s : State} (hr : s.rec? i = some r) (hi : q.identity = r.identity)
    (hp : q.port = r.port) : (setRec i (some q) s).fixed = s.fixed := by
  have h : (setRec i (some q) s).roster = s.roster := by
    funext j
    by_cases hj : j = i
    · subst hj; simp [State.roster, hr, hi, hp]
    · simp [State.roster, rec?_setRec, hj]
  simp only [State.fixed, h]
  rfl

theorem fixed_updRec {f : Record → Record} (hf : ∀ r, (f r).identity = r.identity ∧ (f r).port = r.port) (i : Idx)
    (s : State) : (updRec i f s).fixed = s.fixed := by
  unfold updRec
  cases hr : s.rec? i with
  | none => rfl
  | some r => exact fixed_setRec hr (hf r).1 (hf r).2

/-- Work within one cell that keeps the scan code. -/
theorem fixed_updCell {p : Port} {f : Cell → Cell} {s : State} (hf : (f s.cells[p]).lastScan = s.cells[p].lastScan) :
    (updCell p f s).fixed = s.fixed := by
  have h : (fun q : Port => (updCell p f s).cells[q].lastScan) = fun q : Port => s.cells[q].lastScan := by
    funext q
    rw [cells_updCell]
    split
    · next hq => subst hq; exact hf
    · rfl
  simp only [State.fixed, h]
  rfl

theorem fixed_foldl {α : Type} (f : State → α → State) (h : ∀ s a, (f s a).fixed = s.fixed) (l : List α) (s : State) :
    (l.foldl f s).fixed = s.fixed := by
  induction l generalizing s with
  | nil => rfl
  | cons a l ih => rw [List.foldl_cons, ih, h]

/-! ### The operations of the frame -/

@[simp] theorem fixed_callDecision (s : State) : (callDecision s).fixed = s.fixed := rfl
@[simp] theorem fixed_callPick (s : State) : (callPick s).fixed = s.fixed := rfl
@[simp] theorem fixed_clearNotes (s : State) : (clearNotes s).fixed = s.fixed := rfl
@[simp] theorem fixed_joinTail (i : Idx) (s : State) : (joinTail i s).fixed = s.fixed := rfl
@[simp] theorem fixed_joinHead (i : Idx) (s : State) : (joinHead i s).fixed = s.fixed := rfl
@[simp] theorem fixed_leaveQueue (i : Idx) (s : State) : (leaveQueue i s).fixed = s.fixed := rfl
@[simp] theorem fixed_setCountdown (i : Idx) (f : Countdown → Countdown) (s : State) :
    (setCountdown i f s).fixed = s.fixed := fixed_of_frame (by simp)
@[simp] theorem fixed_setEngine (e : Engine) (g : Option Engagement) (s : State) :
    (setEngine e g s).fixed = s.fixed := fixed_of_frame (by simp)
@[simp] theorem fixed_sendPart (e : Engine) (s : State) : (sendPart e s).fixed = s.fixed := fixed_of_frame (by simp)
@[simp] theorem fixed_sendPartOn (p : Port) (s : State) : (sendPartOn p s).fixed = s.fixed := fixed_of_frame (by simp)
@[simp] theorem fixed_failAttempt (e : Engine) (o : ExOutcome) (s : State) :
    (failAttempt e o s).fixed = s.fixed := fixed_of_frame (by simp)
@[simp] theorem fixed_orderLevel (p : Port) (n : Nat) (l : Drive) (s : State) :
    (orderLevel p n l s).fixed = s.fixed := fixed_of_frame (by simp)
@[simp] theorem fixed_freeEngine (e : Engine) (s : State) : (freeEngine e s).fixed = s.fixed := fixed_of_frame (by simp)
@[simp] theorem fixed_dropPending (i : Idx) (s : State) : (dropPending i s).fixed = s.fixed := fixed_of_frame (by simp)
@[simp] theorem fixed_ask (i : Idx) (x : Exchange) (s : State) : (ask i x s).fixed = s.fixed := fixed_of_frame (by simp)
@[simp] theorem fixed_releaseFeed (i : Idx) (s : State) : (releaseFeed i s).fixed = s.fixed := fixed_of_frame (by simp)
@[simp] theorem fixed_enterState (b : Bool) (st : RState) (i : Idx) (s : State) :
    (enterState b st i s).fixed = s.fixed := fixed_of_frame (by simp)
@[simp] theorem fixed_enter (st : RState) (i : Idx) (s : State) : (enter st i s).fixed = s.fixed :=
  fixed_of_frame (by simp)
@[simp] theorem fixed_leaveService (i : Idx) (s : State) : (leaveService i s).fixed = s.fixed :=
  fixed_of_frame (by simp)
@[simp] theorem fixed_decideAdmission (s : State) : (decideAdmission s).fixed = s.fixed := fixed_of_frame (by simp)
@[simp] theorem fixed_finishEvent (s t : State) : (finishEvent s t).fixed = t.fixed := fixed_of_frame (by simp)
@[simp] theorem fixed_enterByMode (i : Idx) (s : State) : (enterByMode i s).fixed = s.fixed := fixed_of_frame (by simp)

/-- An event whose work keeps the fixed part keeps it. -/
theorem fixed_event {f : State → State} (h : ∀ s, (f s).fixed = s.fixed) (s : State) :
    (event f s).fixed = s.fixed := by simp [event, h]

/-! ### Notes on a record, lines and the pool -/

/-- Setting a flag keeps the identity and the port. -/
theorem raise_kept (f : RecFlag) (r : Record) : (r.raise f).identity = r.identity ∧ (r.raise f).port = r.port := by
  unfold Record.raise; split <;> exact ⟨rfl, rfl⟩

@[simp] theorem fixed_raiseFlag (i : Idx) (f : RecFlag) (s : State) : (raiseFlag i f s).fixed = s.fixed :=
  fixed_updRec (raise_kept f) i s

@[simp] theorem fixed_setTested (i : Idx) (o : TestOutcome) (s : State) : (setTested i o s).fixed = s.fixed :=
  fixed_updRec (f := Record.tested o) (fun r => raise_kept .tested r) i s

@[simp] theorem fixed_noteSent (i : Idx) (x : Exchange) (o : ExOutcome) (s : State) :
    (noteSent i x o s).fixed = s.fixed := by
  unfold noteSent
  split
  · exact fixed_updRec (f := Record.sentWith x.kind o) (fun r => raise_kept .sent r) i s
  · rfl

@[simp] theorem fixed_seenNow (i : Idx) (s : State) : (seenNow i s).fixed = s.fixed :=
  fixed_updRec (f := fun r => { r with lastSeen := some s.clock }) (fun _ => ⟨rfl, rfl⟩) i s

@[simp] theorem fixed_setLine (e : Engine) (l : List LineLevel) (s : State) : (setLine e l s).fixed = s.fixed := by
  cases e <;> rfl

@[simp] theorem fixed_cutLine (e : Engine) (s : State) : (cutLine e s).fixed = s.fixed := by
  unfold cutLine
  dsimp only
  split
  · split <;> simp
  · simp

@[simp] theorem fixed_abortEngine (o : ExOutcome) (e : Engine) (s : State) : (abortEngine o e s).fixed = s.fixed := by
  unfold abortEngine; split <;> simp

@[simp] theorem fixed_abortInFlight (o : ExOutcome) (i : Idx) (s : State) :
    (abortInFlight o i s).fixed = s.fixed := by unfold abortInFlight; split <;> simp

@[simp] theorem fixed_leaveLapsed (i : Idx) (s : State) : (leaveLapsed i s).fixed = s.fixed := by
  unfold leaveLapsed
  split
  · rfl
  · split
    · split
      · simp
      · split <;> simp
      · rfl
      · rfl
    · rfl

theorem fixed_pool (n : Nat) (s : State) : ({ s with meter := { s.meter with pool := n } } : State).fixed = s.fixed := rfl

theorem fixed_allowance (i : Idx) (g : Nat → Nat) (s : State) :
    (updRec i (fun r => { r with allowance := g r.allowance }) s).fixed = s.fixed :=
  fixed_updRec (f := fun r => { r with allowance := g r.allowance }) (fun _ => ⟨rfl, rfl⟩) i s

@[simp] theorem fixed_grantTo (i : Idx) (n : Nat) (s : State) : (grantTo i n s).fixed = s.fixed := by
  cases hr : s.rec? i with
  | none => simp [grantTo, hr]
  | some r => rw [grantTo_record i n s r hr, fixed_leaveLapsed]; exact fixed_allowance i (· + grantMoves r s.meter.pool n) _

@[simp] theorem fixed_topUp (i : Idx) (s : State) : (topUp i s).fixed = s.fixed := by
  unfold topUp
  split
  · rfl
  · dsimp only
    split
    · rfl
    · split
      · rfl
      · simp

@[simp] theorem fixed_lapse (i : Idx) (s : State) : (lapse i s).fixed = s.fixed := by simp [lapse]

@[simp] theorem fixed_wantFeed (i : Idx) (s : State) : (wantFeed i s).fixed = s.fixed := by
  unfold wantFeed
  split
  · rfl
  · split <;> simp

@[simp] theorem fixed_abandonTest (i : Idx) (s : State) : (abandonTest i s).fixed = s.fixed := by
  unfold abandonTest; split <;> simp

@[simp] theorem fixed_enterTest (i : Idx) (s : State) : (enterTest i s).fixed = s.fixed := by simp [enterTest]

@[simp] theorem fixed_abandonForCall (i : Idx) (s : State) : (abandonForCall i s).fixed = s.fixed := by
  unfold abandonForCall
  dsimp only
  split
  · split <;> simp
  · simp

/-! ### Cells -/

/-- The counts of a sample keep the scan code. -/
theorem sampledCell_lastScan (d : Drive) (x : Option Reading) (e : Bool) (n v : Nat) (c : Cell) :
    (sampledCell d x e n v c).lastScan = c.lastScan := by
  have hp : ∀ r, (presenceStep r c).lastScan = c.lastScan := fun r => by
    unfold presenceStep; repeat' split
    all_goals rfl
  have hc : ∀ c : Cell, (callStep e v c).lastScan = c.lastScan := fun c => by
    unfold callStep; repeat' split
    all_goals rfl
  have ho : ∀ c : Cell, (overStep n v c).lastScan = c.lastScan := fun c => by
    unfold overStep; split <;> rfl
  cases d <;> cases x <;> simp [sampledCell, hp, hc, ho]

theorem sampled_lastScan (s : State) (p : Port) : (s.sampled p).lastScan = s.cells[p].lastScan := by
  unfold State.sampled
  split
  · rfl
  · exact sampledCell_lastScan ..

@[simp] theorem fixed_settleEffect (b : Presence) (r : Reading) (i : Idx) (s : State) :
    (settleEffect b r i s).fixed = s.fixed := by
  have hl : (presenceLoss i s).fixed = s.fixed := by
    unfold presenceLoss
    dsimp only
    split <;> simp [presenceLoss.lost]
  have hg : (presenceGain i s).fixed = s.fixed := by
    unfold presenceGain
    dsimp only
    split <;> simp
  unfold settleEffect
  split <;> simp [hl, hg]

@[simp] theorem fixed_callEffect (i : Idx) (s : State) : (callEffect i s).fixed = s.fixed := by
  unfold callEffect
  dsimp only
  split
  · simp
  · simp
  · simp
  · simp
  · simp
  · split <;> simp
  · simp

theorem fixed_cellWork (p : Port) (w : CellWork) (s : State) : (cellWork p w s).fixed = s.fixed := by
  cases w with
  | settle =>
    simp only [cellWork, settleWork]
    split
    · rfl
    · split
      · split
        · rw [fixed_settleEffect, fixed_updCell rfl]
        · rw [fixed_updCell rfl]
      · rfl
  | call =>
    simp only [cellWork, callWork]
    split <;> simp
  | overCeiling =>
    simp only [cellWork, overWork]
    repeat' split
    all_goals simp
  | rampEnd =>
    simp only [cellWork, rampWork]
    repeat' split
    all_goals simp
  | feedRun =>
    simp only [cellWork, feedRunWork]
    split
    · exact fixed_updCell rfl
    · rfl

@[simp] theorem fixed_sampleWork (p : Port) (s : State) : (sampleWork p s).fixed = s.fixed := by
  unfold sampleWork
  rw [fixed_foldl _ fun t w => fixed_cellWork p w t]
  exact fixed_updCell (sampled_lastScan s p)

@[simp] theorem fixed_tripWork (p : Port) (n : Nat) (s : State) : (tripWork p n s).fixed = s.fixed := by
  have ho : ∀ t : State, (updCell p Cell.toOff t).fixed = t.fixed := fun t => fixed_updCell rfl
  have hf : ∀ t : State, (updCell p (fun c => { c with faultCount := min 4 (c.faultCount + 1) }) t).fixed = t.fixed :=
    fun t => fixed_updCell rfl
  unfold tripWork
  split
  · cases s.boundAt p with
    | none => simp [hf, ho]
    | some i => dsimp only; split <;> simp [hf, ho]
  · rfl

/-! ### The meter -/

@[simp] theorem fixed_debitPass (scan : Scan) (s : State) : (debitPass scan s).fixed = s.fixed :=
  fixed_foldl _ (fun s p => by
    unfold debitPort
    split
    · rfl
    · split
      · dsimp only
        have hu : ∀ i, (updRec i (fun r => { r with allowance := r.allowance - scan.codes[p].toNat }) s).fixed =
            s.fixed := fun i => fixed_allowance i (· - scan.codes[p].toNat) s
        split
        · rw [fixed_lapse, hu]
        · exact hu _
      · rfl) _ s

@[simp] theorem fixed_consequence (i : Idx) (s : State) : (consequence s i).fixed = s.fixed := by
  unfold consequence
  split
  · rfl
  · split
    · split <;> simp
    · split <;> simp
    · simp
    · rfl

@[simp] theorem fixed_assignShares (s : State) : (assignShares s).fixed = s.fixed := by
  unfold assignShares
  exact (fixed_pool _ _).trans
    (fixed_foldl _ (fun t i => fixed_allowance i (fun _ => s.shareFor i) t) allIdx s)

@[simp] theorem fixed_apportionWork (s : State) : (apportionWork s).fixed = s.fixed :=
  (fixed_foldl _ (fun t i => fixed_consequence i t) _ _).trans (fixed_assignShares s)

/-! ### Reports and completions -/

theorem fixed_takeReport (i : Idx) (now : Stamp) (p : Report) (s : State) :
    (updRec i (takeReport now p) s).fixed = s.fixed := fixed_updRec (f := takeReport now p) (fun _ => ⟨rfl, rfl⟩) i s

@[simp] theorem fixed_reportCarrying (i : Idx) (s : State) : (reportCarrying i s).fixed = s.fixed := by
  unfold reportCarrying
  split
  · rfl
  · dsimp only
    repeat' split
    all_goals simp

@[simp] theorem fixed_reportRule (i : Idx) (s : State) : (reportRule i s).fixed = s.fixed := by
  have hf : (reportFed i s).fixed = s.fixed := by
    unfold reportFed
    split
    · rfl
    · split <;> simp
  unfold reportRule
  split <;> simp [hf]

@[simp] theorem fixed_testOther (i : Idx) (p : Report) (s : State) : (testOther i p s).fixed = s.fixed := by
  unfold testOther; split <;> simp

@[simp] theorem fixed_gradeTest (i : Idx) (p : Report) (c : TestCtx) (s : State) :
    (gradeTest i p c s).fixed = s.fixed := by
  have hu : ∀ m, (updRec i (fun r => { r.tested .graded with selfMinutes := some m }) s).fixed = s.fixed :=
    fun m => fixed_updRec (fun r => by exact raise_kept .tested r) i s
  unfold gradeTest
  split
  · rfl
  · dsimp only
    split <;> simp [hu]

@[simp] theorem fixed_testPhaseOk (i : Idx) (p : Report) (s : State) : (testPhaseOk i p s).fixed = s.fixed := by
  unfold testPhaseOk
  split
  · rfl
  · split
    · split
      · simp
      · rw [fixed_setCountdown]; exact fixed_updRec (fun _ => by exact ⟨rfl, rfl⟩) i s
    · simp
    · split <;> simp

@[simp] theorem fixed_kindEffect (i : Idx) (x : Exchange) (rep : Option Report) (s : State) :
    (kindEffect i x rep s).fixed = s.fixed := by
  have hw : (wakeEffect i rep s).fixed = s.fixed := by
    unfold wakeEffect
    split <;> simp [wakeToCarrying, linkFail]
  have hq : (queryEffect i x.origin rep s).fixed = s.fixed := by
    unfold queryEffect
    split
    · simp [wakeToCarrying]
    · simp [wakeToCarrying]
    · simp [wakeToCarrying]
    · split <;> simp
    · rfl
    · rfl
    · simp
    · simp [linkFail]
    · split <;> simp [failTest, linkFail]
    · simp [linkFail]
    · rfl
  have hd : (dropUnheard i s).fixed = s.fixed := by
    unfold dropUnheard
    split
    · split <;> simp
    · rfl
  have hd' : ∀ t : State, (dropUnheard i t).fixed = t.fixed := fun t => by
    unfold dropUnheard
    split
    · split <;> simp
    · rfl
  have hr : (restEffect i rep s).fixed = s.fixed := by
    unfold restEffect
    split <;> simp [hd', linkFail]
  have hs : (shedEffect i rep s).fixed = s.fixed := by
    unfold shedEffect
    split <;> simp [linkFail]
  unfold kindEffect
  split
  exacts [hw, hq, hr, hs]

@[simp] theorem fixed_completeWork (e : Engine) (s : State) : (completeWork e s).fixed = s.fixed := by
  unfold completeWork
  split
  · rfl
  · split
    · rfl
    · dsimp only
      split <;> simp [fixed_takeReport]

/-! ### Expiries and appointments -/

@[simp] theorem fixed_expiryEffect (i : Idx) (s : State) : (expiryEffect i s).fixed = s.fixed := by
  have hw : (wakePeriodWork i s).fixed = s.fixed := by unfold wakePeriodWork; split <;> simp
  have ht : (testWindowWork i s).fixed = s.fixed := by
    unfold testWindowWork
    split
    · rw [fixed_ask]; exact fixed_updRec (fun _ => by exact ⟨rfl, rfl⟩) i s
    · rfl
  unfold expiryEffect
  split <;> simp [hw, ht, queryIntervalWork, coolingWork]

theorem fixed_markApportion (s : State) : (markApportion s).fixed = s.fixed := by
  unfold markApportion; split <;> rfl

@[simp] theorem fixed_actOn (a : Appointment) (s : State) : (actOn a s).fixed = s.fixed := by
  have hw : ∀ (t : State) i, (actWake t i).fixed = t.fixed := fun t i => by unfold actWake; split <;> simp
  have hq : ∀ (t : State) i, (actQuery t i).fixed = t.fixed := fun t i => by unfold actQuery; split <;> simp
  have hr : ∀ (t : State) i, (actRest t i).fixed = t.fixed := fun t i => by unfold actRest; split <;> simp
  have ht : ∀ (b : Bool) (t : State) i, (actTest b t i).fixed = t.fixed := fun b t i => by
    unfold actTest
    split
    · simp
    · split <;> simp
  have hmode : ∀ {P : Prop} [Decidable P] {t : State}, t.fixed = s.fixed → (if P then s else t).fixed = s.fixed :=
    fun {P} _ {t} h => by
      split
      · rfl
      · exact h
  unfold actOn
  split
  · split
    · exact fixed_markApportion s
    · rfl
  · exact hmode (fixed_foldl _ hw _ _)
  · exact hmode (fixed_foldl _ hq _ _)
  · exact hmode (fixed_foldl _ hr _ _)
  · exact hmode (fixed_foldl _ (ht _) _ _)

@[simp] theorem fixed_expiryWork (s : State) : (expiryWork s).fixed = s.fixed :=
  fixed_foldl _ (fun t a => by
    unfold expireOne
    dsimp only
    split
    · show (actOn a _).fixed = _
      rw [fixed_actOn]; rfl
    · rw [fixed_actOn]; rfl) _ s

/-! ### Taking an event -/

/-- An event other than the supply controller's and the apportionment keeps the fixed part. -/
theorem fixed_eventWork {ev : Event} (h : ev.ofMeter = false) (s : State) : (eventWork ev s).fixed = s.fixed := by
  have hd : ∀ t : State, (dropDue ev t).fixed = t.fixed := fun t => fixed_of_frame (frame_dropDue h t)
  have one : ∀ f : State → State, (∀ t, (f t).fixed = t.fixed) → (event (fun t => f (dropDue ev t)) s).fixed = s.fixed :=
    fun f hf => fixed_event (fun t => (hf _).trans (hd t)) s
  cases ev with
  | expiry i => exact one _ (fixed_expiryEffect i)
  | appointments => exact one _ fixed_expiryWork
  | sample p => exact one _ (fixed_sampleWork p)
  | complete e => exact one _ (fixed_completeWork e)
  | latch => simp [Event.ofMeter, Event.ofSupply] at h
  | failDebounce => simp [Event.ofMeter, Event.ofSupply] at h
  | returnDebounce => simp [Event.ofMeter, Event.ofSupply] at h
  | apportion => simp [Event.ofMeter] at h

theorem fixed_takeEvent {ev : Event} (h : ev.ofMeter = false) (s : State) : (takeEvent ev s).fixed = s.fixed := by
  unfold takeEvent
  split
  · exact fixed_eventWork h s
  · rfl

@[simp] theorem fixed_takePart (s : State) (x : TickPart) : (takePart s x).fixed = s.fixed := by
  cases x with
  | trip p n => exact fixed_event (fixed_tripWork p n) s
  | _ => exact fixed_takeEvent rfl s

@[simp] theorem fixed_lateSample (late : List Port) (s : State) (p : Port) : (lateSample late s p).fixed = s.fixed := by
  unfold lateSample
  split
  · rfl
  · exact fixed_takeEvent rfl s

end Sys2Proof.Machine
end

section
/-! What an event and a mode entry leave of the fixed part, and the induction over commands: a law that every event, every
request owner, every change of an engine and the pieces of a tick keep is kept by every step. -/

namespace Sys2Proof.Machine

open Sys2Proof

/-! ### The mode entries -/

/-- The fixed part without what the supply controller's events and an apportionment change. -/
def State.base (s : State) : Fixed :=
  { s.fixed with supply := State.reset.supply, host := State.reset.host, now := .clear, due := [] }

theorem base_of_fixed {s t : State} (h : t.fixed = s.fixed) : t.base = s.base := by simp only [State.base, h]

theorem roster_of_base {s t : State} (h : t.base = s.base) : t.roster = s.roster := congrArg Fixed.roster h
theorem cfg_of_base {s t : State} (h : t.base = s.base) : t.cfg = s.cfg := congrArg Fixed.cfg h

@[simp] theorem fixed_allCellsOff (b : Bool) (s : State) : (allCellsOff b s).fixed = s.fixed :=
  fixed_foldl _ (fun t p => by
    rw [fixed_updCell, fixed_sendPartOn]
    split
    · exact (toLevel_marks 0 .off _).2
    · exact (toLevel_marks 0 .off _).2) _ s

@[simp] theorem fixed_dropAllExchanges (s : State) : (dropAllExchanges s).fixed = s.fixed := by
  have hf : ∀ t : State, (allIdx.foldl (fun s i => updRec i (fun r => { r with pend := none }) s) t).fixed = t.fixed :=
    fun t => fixed_foldl _ (fun t i => fixed_updRec (fun _ => by exact ⟨rfl, rfl⟩) i t) _ t
  have hl : ∀ t : State, ({ t with link := { t.link with queue := [] } } : State).fixed = t.fixed := fun _ => rfl
  unfold dropAllExchanges
  rw [hl, hf, fixed_abortEngine, fixed_abortEngine]

@[simp] theorem fixed_releaseAll (s : State) : (releaseAll s).fixed = s.fixed := by
  have hf : ∀ t : State, (allIdx.foldl (fun s i => updRec i (fun r => { r with admitted := none }) s) t).fixed = t.fixed :=
    fun t => fixed_foldl _ (fun t i => fixed_updRec (fun _ => by exact ⟨rfl, rfl⟩) i t) _ t
  have ha : ∀ t : State, ({ t with arbiter := ⟨[], []⟩ } : State).fixed = t.fixed := fun _ => rfl
  unfold releaseAll
  rw [fixed_callDecision, ha, hf]

@[simp] theorem fixed_abandonAllTests (s : State) : (abandonAllTests s).fixed = s.fixed :=
  fixed_foldl _ (fun t i => fixed_abandonTest i t) _ s

@[simp] theorem fixed_depletedOrders (s : State) : (depletedOrders s).fixed = s.fixed := by
  unfold depletedOrders
  rw [fixed_foldl]
  · simp
  · intro t i
    unfold depletedRecord
    split
    · rfl
    · split <;> simp

@[simp] theorem fixed_queryWave (s : State) : (queryWave s).fixed = s.fixed :=
  fixed_foldl _ (fun t i => by unfold waveRecord; split <;> simp [order]) _ s

@[simp] theorem fixed_criticalOrders (s : State) : (criticalOrders s).fixed = s.fixed := by
  have h1 : ∀ (t : State) i, (criticalRelease t i).fixed = t.fixed := fun t i => by
    unfold criticalRelease
    split
    · rfl
    · split <;> simp
  have h2 : ∀ (t : State) i, (criticalRest t i).fixed = t.fixed := fun t i => by
    unfold criticalRest
    split
    · rfl
    · split <;> simp
  unfold criticalOrders
  rw [fixed_foldl _ h2, fixed_foldl _ h1]

@[simp] theorem fixed_leaveDepletedOrders (s : State) : (leaveDepletedOrders s).fixed = s.fixed :=
  fixed_foldl _ (fun t i => by
    unfold leaveDepletedRecord
    split
    · rfl
    · split
      · split
        · simp [order]
        · dsimp only
          split <;> simp [order]
      · rfl) _ s

/-- MAINS entry clears the latch and its run, and nothing else of the fixed part (R45). -/
theorem fixed_mainsOrders (s : State) :
    (mainsOrders s).fixed = { s.fixed with supply := { s.supply with latch := false, uvRun := 0 } } := by
  have hf : ∀ t : State, (allIdx.foldl mainsRecord t).fixed = t.fixed := fun t =>
    fixed_foldl _ (fun t i => by simp [mainsRecord]) _ t
  have h : (allIdx.foldl mainsRecord (abandonAllTests (releaseAll (dropAllExchanges (allCellsOff true s))))).fixed =
      s.fixed := by simp [hf]
  have hc : ∀ t : State, t.fixed = s.fixed →
      ({ t with supply := { t.supply with latch := false, uvRun := 0 } } : State).fixed =
        { s.fixed with supply := { s.supply with latch := false, uvRun := 0 } } := fun t ht => by
    rw [← ht, show s.supply = t.supply from (congrArg Fixed.supply ht).symm]
    rfl
  exact hc _ h

/-- The orders of an entry into a mode other than MAINS keep the fixed part. -/
theorem fixed_entryOrders (before : Mode) {after : Mode} (h : after ≠ .mains) (s : State) :
    (entryOrders before after s).fixed = s.fixed := by
  unfold entryOrders
  split <;> simp_all

/-- The supply controller as an entry into a mode leaves it (R29, R38, R45). -/
def Supply.entered (m : Mode) (c : Supply) : Supply :=
  { c with
    mode := m, failCount := 0, returnCount := 0, held := false
    latch := if m = .mains then false else c.latch
    uvRun := if m = .mains then 0 else c.uvRun }

/-- A mode entry changes nothing of the fixed part but the supply controller. -/
theorem fixed_enterMode (m : Mode) (s : State) :
    (enterMode m s).fixed = { s.fixed with supply := s.supply.entered m } := by
  unfold enterMode
  dsimp only
  rw [fixed_callDecision]
  by_cases hm : m = .mains
  · subst hm
    rw [if_pos rfl]
    have : ∀ b t, entryOrders b .mains t = mainsOrders t := fun b t => by unfold entryOrders; cases b <;> rfl
    rw [this, fixed_mainsOrders]
    rfl
  · rw [if_neg hm, fixed_markApportion, fixed_entryOrders _ hm]
    simp only [Supply.entered, if_neg hm]
    rfl

theorem base_enterMode (m : Mode) (s : State) : (enterMode m s).base = s.base := by
  simp only [State.base, fixed_enterMode]

theorem base_enterSelected (s : State) : (enterSelected s).base = s.base := by
  unfold enterSelected
  split
  · rfl
  · dsimp only
    split
    · rfl
    · exact base_enterMode _ s

theorem base_evaluateTick (s : State) : (evaluateTick s).base = s.base := by
  unfold evaluateTick
  split
  · exact base_enterSelected s
  · exact base_enterSelected s
  · rfl
  · rfl

theorem base_evaluateReserve (s : State) : (evaluateReserve s).base = s.base := by
  unfold evaluateReserve
  split
  · split
    · exact base_enterSelected s
    · rfl
  all_goals exact base_enterSelected s

theorem base_setLatch (s : State) : (setLatch s).base = s.base := by unfold setLatch; split <;> rfl

theorem base_latchWork (s : State) : (latchWork s).base = s.base := by
  unfold latchWork
  dsimp only
  split
  · rfl
  · exact (base_evaluateTick _).trans rfl

theorem base_failWork (s : State) : (failWork s).base = s.base := by
  rw [← base_setLatch s]
  unfold failWork
  dsimp only
  split
  · split
    · exact base_enterSelected _
    · rfl
  · rfl

theorem base_returnWork (s : State) : (returnWork s).base = s.base := by
  rw [← base_setLatch s]
  unfold returnWork
  dsimp only
  split
  · rfl
  · exact base_enterMode .mains _

/-! ### Events -/

theorem base_event {f : State → State} (h : ∀ s, (f s).base = s.base) (s : State) : (event f s).base = s.base := by
  rw [event, base_of_fixed (fixed_finishEvent _ _), h]
  rfl

theorem base_closeSupply (s : State) : (closeSupply s).base = s.base := by
  have hd : ∀ (ev : Event) (t : State), (dropDue ev t).base = t.base := fun _ _ => rfl
  have one : ∀ (ev : Event) (f : State → State), (∀ t, (f t).base = t.base) → ∀ t : State,
      (if t.isDue ev then event f (dropDue ev t) else t).base = t.base := fun ev f hf t => by
    split
    · rw [base_event hf, hd]
    · rfl
  unfold closeSupply
  dsimp only
  rw [one .returnDebounce _ base_returnWork, one .failDebounce _ base_failWork, one .latch _ base_latchWork]

theorem base_apportionTick (s : State) : (apportionTick s).base = s.base := by
  have h : (event apportionWork s).base = s.base := base_of_fixed (fixed_event fixed_apportionWork s)
  rw [← h]
  unfold apportionTick
  dsimp only
  split <;> rfl

/-- Every event keeps the identities, the ports, the settings, the clock and the scan. -/
theorem base_eventWork (ev : Event) (s : State) : (eventWork ev s).base = s.base := by
  have one : ∀ f : State → State, (∀ t, (f t).base = t.base) → (event (fun t => f (dropDue ev t)) s).base = s.base :=
    fun f hf => base_event (f := fun t => f (dropDue ev t)) (fun t => (hf (dropDue ev t)).trans rfl) s
  cases ev with
  | expiry i => exact base_of_fixed (fixed_eventWork rfl s)
  | appointments => exact base_of_fixed (fixed_eventWork rfl s)
  | sample p => exact base_of_fixed (fixed_eventWork rfl s)
  | complete e => exact base_of_fixed (fixed_eventWork rfl s)
  | latch => exact one _ base_latchWork
  | failDebounce => exact one _ base_failWork
  | returnDebounce => exact one _ base_returnWork
  | apportion => exact (base_apportionTick _).trans (base_closeSupply _)

/-! ### What a law needs of the events -/

/-- A law that every event that is due keeps, that a trip keeps, and that rests on no event being due but keeps to those
that already are, up to completions. -/
structure EventClosed (Q : State → Prop) : Prop where
  agenda : ∀ (s : State) (a : Agenda), (∀ ev ∈ a.due, ev ∈ s.agenda.due ∨ ∃ e, ev = .complete e) → Q s →
    Q { s with agenda := a }
  event : ∀ (ev : Event) (s : State), s.isDue ev = true → Q s → Q (eventWork ev s)
  trip : ∀ (p : Port) (n : Nat) (s : State), Q s → Q (Machine.event (tripWork p n) s)

/-- A fold keeps what each of its steps keeps. -/
theorem foldl_keeps {α : Type} {Q : State → Prop} {f : State → α → State} (hf : ∀ s a, Q s → Q (f s a)) (l : List α)
    {s : State} (h : Q s) : Q (l.foldl f s) := List.foldlRecOn l f h fun t ht a _ => hf t a ht

/-- What a part that is not held keeps, a held one keeps. -/
theorem live_keeps {Q : State → Prop} {f : State → State} (hf : ∀ s, Q s → Q (f s)) {s : State} (h : Q s) :
    Q (live f s) := by
  unfold live
  split
  · exact h
  · exact hf s h

namespace EventClosed

variable {Q : State → Prop} (hQ : EventClosed Q)
include hQ

theorem dropDue (ev : Event) {s : State} (h : Q s) : Q (dropDue ev s) :=
  hQ.agenda s _ (fun _ hx => .inl (List.mem_filter.mp hx).1) h

theorem makeDue_complete (e : Engine) {s : State} (h : Q s) : Q (makeDue (.complete e) s) := by
  refine hQ.agenda s _ (fun ev hx => ?_) h
  rcases List.mem_append.mp hx with hx | hx
  · exact .inl hx
  · exact .inr ⟨e, by simpa using hx⟩

theorem takeEvent (ev : Event) {s : State} (h : Q s) : Q (takeEvent ev s) := by
  unfold Machine.takeEvent
  split
  · next hd => exact hQ.event ev s hd h
  · exact h

theorem settle {s : State} (h : Q s) : Q (settle s) := by
  have hl : ∀ (n : Nat) (s : State), Q s → Q (settleLoop n s) := fun n => by
    induction n with
    | zero => exact fun _ h => h
    | succ n ih =>
      intro s h
      unfold settleLoop
      split
      · exact h
      · exact ih _ (hQ.takeEvent _ h)
  exact hQ.agenda _ _ (fun _ hx => absurd hx List.not_mem_nil) (hl 1000 s h)

theorem settleBefore (o : TickOrder) {s : State} (h : Q s) : Q (settleBefore o s) := by
  unfold Machine.settleBefore
  dsimp only
  refine foldl_keeps (Q := Q) (fun t e ht => hQ.makeDue_complete e ht) _ (hQ.settle ?_)
  exact foldl_keeps (Q := Q) (fun t e ht => hQ.dropDue _ ht) _ h

theorem takePart (s : State) (x : TickPart) (h : Q s) : Q (takePart s x) := by
  cases x with
  | trip p n => exact hQ.trip p n s h
  | _ => exact hQ.takeEvent _ h

theorem lateSample (late : List Port) (s : State) (p : Port) (h : Q s) : Q (lateSample late s p) := by
  unfold Machine.lateSample
  split
  · exact h
  · exact hQ.takeEvent _ h

end EventClosed

/-! ### What a law needs of a tick -/

/-- A law that the events and the pieces of a tick keep. -/
structure TickClosed (Q : State → Prop) : Prop extends EventClosed Q where
  advance : ∀ s, Q s → Q (advanceClock s)
  mark : ∀ s, Q s → Q (takeUpMark s)
  scan : ∀ sc s, Q s → Q (storeScan sc s)
  count : ∀ s, Q s → Q (countDown s)
  facts : ∀ (s : State) (f : TickFacts), Q s → Q { s with tick := f }
  due : ∀ ev s, (ev = .appointments ∨ ∃ p, ev = .sample p) → Q s → Q (makeDue ev s)
  debit : ∀ sc s, Q s → Q (Machine.event (debitPass sc) s)
  supply : ∀ sc s, Q s → Q (Machine.event (supplyTick sc) s)
  last : ∀ s, Q s → Q (orderAgenda s)

/-- A tick keeps what its pieces keep. -/
theorem TickClosed.tickWork {Q : State → Prop} (hQ : TickClosed Q) (sc : Scan) (o : TickOrder) {s : State} (h : Q s) :
    Q (tickWork sc o s) := by
  have hE := hQ.toEventClosed
  have hm : ∀ s, Q s → Q (markSamples (markAppointments (countDown s))) := fun s h => by
    have ha : Q (markAppointments (countDown s)) := by
      unfold markAppointments
      split
      · exact hQ.due _ _ (.inl rfl) (hQ.count s h)
      · exact hQ.count s h
    exact foldl_keeps (fun t p => hQ.due _ t (.inr ⟨p, rfl⟩)) _ (hQ.facts _ _ ha)
  unfold Machine.tickWork
  refine hQ.last _ (foldl_keeps (hE.lateSample o.late) _ (hQ.supply sc _ (foldl_keeps hE.takePart _ (hQ.debit sc _ ?_))))
  exact foldl_keeps hE.takePart _ (hm _ (hQ.scan sc _ (hQ.mark _ (hQ.advance _ (hE.settleBefore o h)))))

/-! ### What a law needs of a step -/

/-- The framing, the parameter length and the owner of a request. -/
def requestOf : Instr → Option (Framing × Nat × (State → Answer))
  | .enroll fr identity cls port => some (fr, 9 + port.toList.length, enrollOwner identity cls port)
  | .find fr sel => some (fr, sel.params.length, findOwner sel)
  | .amendCeiling fr index ma also =>
    some (fr, (amendParams index (ceilingChanges ma also)).length, amendOwner index (ceilingChanges ma also))
  | .amendCap fr index cap also =>
    some (fr, (amendParams index (capChange cap :: also)).length, amendOwner index (capChange cap :: also))
  | .amendClass fr index cls also =>
    some (fr, (amendParams index (.cls cls :: also)).length, amendOwner index (.cls cls :: also))
  | .amendPort fr index port also =>
    some (fr, (amendParams index (.port port :: also)).length, amendOwner index (.port port :: also))
  | .unbind fr index also =>
    some (fr, (amendParams index (.unbind :: also)).length, amendOwner index (.unbind :: also))
  | .clearFault fr index also =>
    some (fr, (amendParams index (.clearFault :: also)).length, amendOwner index (.clearFault :: also))
  | .retire fr index => some (fr, 1, retireOwner index)
  | .grant fr index amount => some (fr, 5, grantOwner index amount.toNat)
  | .apportion fr => some (fr, 0, apportionOwner)
  | .book fr kind target delay period => some (fr, 10, bookOwner kind target delay.toNat period.toNat)
  | .cancel fr kind target => some (fr, 2, cancelOwner kind target)
  | .schedule fr position => some (fr, 1, scheduleOwner position)
  | .sendWake fr index arg => some (fr, 3, sendOwner .wake index arg)
  | .sendQuery fr index arg => some (fr, 3, sendOwner .query index arg)
  | .sendRest fr index arg => some (fr, 3, sendOwner .rest index arg)
  | .sendShed fr index arg => some (fr, 3, sendOwner .shed index arg)
  | .test fr index => some (fr, 1, testOwner index)
  | .setBusCap fr v => some (fr, 5, busCapOwner v.toNat)
  | .setH fr v => some (fr, 5, holdBackOwner v.toNat)
  | .setK fr v => some (fr, 5, cutoffOwner v.toNat)
  | .setUndervoltageFloor fr v => some (fr, 5, setClamped 100 400 v.toNat (fun w g => { g with uvFloor := w }))
  | .setMainsFailDebounce fr v => some (fr, 5, failDebounceOwner v.toNat)
  | .setMainsReturnDebounce fr v => some (fr, 5, setClamped 5 600 v.toNat (fun w g => { g with returnDebounce := w }))
  | .setBitRateReload fr v => some (fr, 5, setClamped 19 1279 v.toNat (fun w g => { g with reloadN := w }))
  | .setReplyWindowCode fr v => some (fr, 5, setClamped 0 3 v.toNat (fun w g => { g with windowCode := w }))
  | .setWakeWindow fr v => some (fr, 5, setClamped 1 30 v.toNat (fun w g => { g with wakeWindow := w }))
  | .setRetryLimit fr v => some (fr, 5, setClamped 0 3 v.toNat (fun w g => { g with retryLimit := w }))
  | .setTestWindow fr v => some (fr, 5, setClamped 10 600 v.toNat (fun w g => { g with testWindow := w }))
  | .setDefaultCeiling fr v => some (fr, 5, setClamped 50 1000 v.toNat (fun w g => { g with defaultCeiling := w }))
  | .setAttentionMask fr v => some (fr, 5, maskOwner v)
  | .setClassPolicy fr number v => some (fr, 5, policyOwner number v.toNat)
  | .get fr number => some (fr, 1, getOwner number)
  | .reserve fr q => some (fr, 4, reserveOwner q.toNat)
  | .state fr sect start => some (fr, 2, stateOwner sect start)
  | .port fr port => some (fr, 1, portOwner port)
  | .next fr => some (fr, 0, nextOwner)
  | .clear fr => some (fr, 0, clearOwner)
  | _ => none

/-- A request frame runs its owner on the host port's path. -/
theorem exec_request {c : Instr} {fr : Framing} {n : Nat} {o : State → Answer} (h : requestOf c = some (fr, n, o))
    (s : State) : exec c s = .next (request fr n o s) := by
  cases c <;> cases h <;> rfl

/-- A law of commands that `C` holds of: what the events, the owners, the engines, reset and the tick keep. -/
structure StepClosed (C : Instr → Prop) (Q : State → Prop) : Prop extends EventClosed Q where
  host : ∀ (s : State) (h : HostPort), Q s → Q { s with host := h }
  queue : ∀ (s : State) (l : List Instr), Q s → Q { s with pending := l }
  owner : ∀ (c : Instr) (fr : Framing) (n : Nat) (o : State → Answer) (s : State), C c →
    requestOf c = some (fr, n, o) → Q s → Q (finishEvent s (o (clearNotes s)).after)
  engine : ∀ (e : Engine) (g g' : Engagement) (s : State), s.engine e = some g → g'.idx = g.idx → g'.port = g.port →
    g'.ex = g.ex → Q s → Q (setEngine e (some g') s)
  line : ∀ (e : Engine) (l : List LineLevel) (s : State), Q s → Q (setLine e l s)
  reset : ∀ (b : Bool) (s : State), C (.powerOnReset b) → Q s → Q (powerOn b s)
  tick : ∀ (sc : Scan) (o : TickOrder) (s : State), C (.tick sc o) → Q s → Q (tickWork sc o s)

namespace StepClosed

variable {C : Instr → Prop} {Q : State → Prop} (hQ : StepClosed C Q)
include hQ

theorem risingEdge {s : State} (h : Q s) : Q (risingEdge s) := hQ.host _ _ (hQ.settle h)

theorem request {c : Instr} {fr : Framing} {n : Nat} {o : State → Answer} (hc : C c) (hr : requestOf c = some (fr, n, o))
    {s : State} (h : Q s) : Q (request fr n o s) := by
  refine live_keeps (fun s h => ?_) h
  have he := hQ.risingEdge h
  unfold arrive
  dsimp only
  split
  · exact hQ.host _ _ he
  · have ht : Q (takeRequest (Machine.risingEdge s)) := hQ.host _ _ he
    split
    · unfold runOwner
      dsimp only
      have ho := hQ.owner c fr n o _ hc hr ht
      split
      · exact hQ.host _ _ ho
      · exact ho
    · exact hQ.host _ _ ht

theorem failAttempt (e : Engine) (x : ExOutcome) {s : State} (h : Q s) : Q (failAttempt e x s) := by
  cases hg : s.engine e with
  | none => simpa [Machine.failAttempt, hg] using h
  | some g =>
    obtain ⟨-, he⟩ | ⟨-, he⟩ := failAttempt_cases e x s g hg
    · rw [he]; exact hQ.engine e g _ s hg rfl rfl rfl h
    · rw [he]; exact hQ.makeDue_complete e (hQ.engine e g _ s hg rfl rfl rfl h)

theorem timerOut (e : Engine) (g : Engagement) {s : State} (hg : s.engine e = some g) (h : Q s) :
    Q (timerOut e g s) := by
  unfold Machine.timerOut
  split
  · exact hQ.engine e g _ s hg rfl rfl rfl h
  · exact hQ.failAttempt e _ h

theorem frameDone (e : Engine) (s : State) (h : Q s) : Q (frameDone e s) := by
  unfold Machine.frameDone
  split
  · split
    · next g hg => exact hQ.line e _ _ (hQ.engine e g _ s hg rfl rfl rfl h)
    · exact h
  · exact h

theorem guardDone (e : Engine) (s : State) (h : Q s) : Q (guardDone e s) := by
  unfold Machine.guardDone updEngine
  split
  · split
    · next g hg => exact hQ.engine e g _ s hg rfl rfl rfl h
    · exact h
  · exact h

theorem windowClosed (e : Engine) (s : State) (h : Q s) : Q (windowClosed e s) := by
  unfold Machine.windowClosed
  split
  · split
    · next g hg =>
      split
      · exact hQ.timerOut e g hg h
      · exact h
    · exact h
  · exact h

theorem gapClosed (e : Engine) (s : State) (h : Q s) : Q (gapClosed e s) := by
  unfold Machine.gapClosed
  split
  · split
    · next g hg =>
      split
      · exact h
      · exact hQ.timerOut e g hg h
    · exact h
  · exact h

theorem takeChars (e : Engine) (cs : List RxChar) (b : Bool) (s : State) (h : Q s) : Q (takeChars e cs b s) := by
  unfold Machine.takeChars
  split
  · split
    · exact h
    · next g hg =>
      dsimp only
      split
      · exact hQ.failAttempt e _ h
      · split
        · exact hQ.engine e g _ s hg rfl rfl rfl h
        · exact hQ.failAttempt e _ h
        · simp only [succeedAttempt, hg]
          exact hQ.makeDue_complete e (hQ.engine e g _ s hg rfl rfl rfl h)
  · exact h

theorem discardStart (e : Engine) (b : BitSample) (x : Bool) (s : State) (h : Q s) : Q (discardStart e b x s) := by
  unfold Machine.discardStart
  split
  · split
    · exact h
    · next g hg =>
      split
      · split
        · exact hQ.failAttempt e _ h
        · exact hQ.engine e g _ s hg rfl rfl rfl h
      · exact h
  · exact h

theorem completeKind (k : ExKind) (e : Engine) (s : State) (h : Q s) : Q (completeKind k e s) := by
  unfold Machine.completeKind
  split
  · exact hQ.takeEvent _ h
  · exact h

theorem expireIn (a b : RState) (i : Idx) (s : State) (h : Q s) : Q (expireIn a b i s) := by
  unfold Machine.expireIn
  split
  · exact hQ.takeEvent _ h
  · exact h

theorem takeSample (w : CellWork) (p : Port) (s : State) (h : Q s) : Q (takeSample w p s) := by
  unfold Machine.takeSample
  split
  · exact hQ.takeEvent _ h
  · exact h

theorem readReply (bits : Nat) (s : State) (h : Q s) : Q (readReply bits s) := by
  unfold Machine.readReply
  split
  · exact hQ.host _ _ h
  · dsimp only
    split
    · exact hQ.host _ _ h
    · exact hQ.host _ _ (hQ.host _ _ h)

theorem rejectFrame (s : State) (h : Q s) : Q (rejectFrame s) := by
  unfold Machine.rejectFrame
  dsimp only
  split
  · exact hQ.host _ _ (hQ.risingEdge h)
  · exact hQ.host _ _ (hQ.host _ _ (hQ.risingEdge h))

/-- Every command of `C` keeps the law. -/
theorem exec {c : Instr} (hc : C c) {s t : State} (h : Q s) (he : exec c s = .next t) : Q t := by
  cases hr : requestOf c with
  | some x =>
    obtain ⟨fr, n, o⟩ := x
    rw [exec_request hr] at he
    cases he
    exact hQ.request hc hr h
  | none =>
    have key : ∀ f : State → State, (∀ s, Q s → Q (f s)) →
        Machine.exec c s = .next (Machine.live f s) → Q t := fun f hf h' => by
      rw [h'] at he
      cases he
      exact live_keeps hf h
    cases c with
    | read bits => exact key _ (hQ.readReply bits) rfl
    | statusPoll bits => exact key _ (fun s h => hQ.host s _ h) rfl
    | malformedRequestFrame b x => exact key _ hQ.rejectFrame rfl
    | powerOnReset b => cases he; exact hQ.reset b s hc h
    | tick sc o => exact key _ (fun s h => hQ.tick sc o s hc h) rfl
    | undervoltageLatch => exact key _ (fun s h => hQ.takeEvent _ h) rfl
    | mainsFailDebounce => exact key _ (fun s h => hQ.takeEvent _ h) rfl
    | mainsReturnDebounce => exact key _ (fun s h => hQ.takeEvent _ h) rfl
    | apportionment => exact key _ (fun s h => hQ.takeEvent _ h) rfl
    | queryIntervalExpiry i => exact key _ (hQ.expireIn _ _ i) rfl
    | wakePeriodExpiry i => exact key _ (hQ.expireIn _ _ i) rfl
    | coolingEnd i => exact key _ (hQ.expireIn _ _ i) rfl
    | testWindowExpiry i => exact key _ (hQ.expireIn _ _ i) rfl
    | appointmentExpiry => exact key _ (fun s h => hQ.takeEvent _ h) rfl
    | rampEnd p => exact key _ (hQ.takeSample _ p) rfl
    | feedRunComplete p => exact key _ (hQ.takeSample _ p) rfl
    | presenceSettle p => exact key _ (hQ.takeSample _ p) rfl
    | callPulse p => exact key _ (hQ.takeSample _ p) rfl
    | overCeilingShed p => exact key _ (hQ.takeSample _ p) rfl
    | trip p n => exact key _ (hQ.trip p n) rfl
    | frameSent e => exact key _ (hQ.frameDone e) rfl
    | replyWindowTimeout e => exact key _ (hQ.windowClosed e) rfl
    | reportReceived e cs b => exact key _ (hQ.takeChars e cs b) rfl
    | interCharacterGapTimeout e => exact key _ (hQ.gapClosed e) rfl
    | guardEnd e => exact key _ (hQ.guardDone e) rfl
    | wakeComplete e => exact key _ (hQ.completeKind _ e) rfl
    | queryComplete e => exact key _ (hQ.completeKind _ e) rfl
    | restComplete e => exact key _ (hQ.completeKind _ e) rfl
    | shedComplete e => exact key _ (hQ.completeKind _ e) rfl
    | falseStart e b x => exact key _ (hQ.discardStart e b x) rfl
    | _ => cases hr

end StepClosed

/-- A law of every command is kept by every step. -/
theorem StepClosed.step {Q : State → Prop} (hQ : StepClosed (fun _ => True) Q) {s t : State} (h : Q s)
    (he : step s = .next t) : Q t := by
  unfold Machine.step at he
  split at he
  · cases he; exact h
  · exact hQ.exec trivial (hQ.queue _ _ h) he

end Sys2Proof.Machine
end

section
/-! What the owners of the requests leave of the fixed part; the settings stay in their ranges (R178), the table keeps R2,
and only a tick, a RESERVE, reset and a due supply event change the mode. -/

namespace Sys2Proof.Machine

open Sys2Proof

/-! ### The owners outside the table and the settings -/

/-- An ENROLL that is not refused creates its record (R12). -/
theorem after_enrollOwner (v : Identity) (k : Byte) (p : Option Byte) (s : State) : (enrollOwner v k p s).after = s ∨
    ∃ i c q, (enrollOwner v k p s).after = createRecord i v c q s := by
  unfold enrollOwner
  split
  · exact .inl rfl
  · split
    · exact .inl rfl
    · split
      · exact .inl rfl
      · split
        · exact .inl rfl
        · split
          · exact .inl rfl
          · split
            · exact .inl rfl
            · exact .inr ⟨_, _, _, rfl⟩

/-- An AMEND that is not refused makes its changes (R16). -/
theorem after_amendOwner (b : Byte) (l : List AmendChange) (s : State) : (amendOwner b l s).after = s ∨
    ∃ i, (amendOwner b l s).after = amendWork l i s := by
  unfold amendOwner
  split
  · exact .inl rfl
  · split
    · split
      · exact .inl rfl
      · split
        · exact .inl rfl
        · exact .inr ⟨_, rfl⟩
    · exact .inl rfl

/-- A RETIRE that is not refused frees its slot (R24). -/
theorem after_retireOwner (b : Byte) (s : State) : (retireOwner b s).after = s ∨
    ∃ i, (retireOwner b s).after = retireWork i s := by
  unfold retireOwner
  split
  · exact .inl rfl
  · split
    · exact .inl rfl
    · exact .inr ⟨_, rfl⟩

/-- A GRANT that is not refused grants (R72). -/
theorem after_grantOwner (b : Byte) (n : Nat) (s : State) : (grantOwner b n s).after = s ∨
    ∃ i, (grantOwner b n s).after = grantTo i n s := by
  unfold grantOwner
  split
  · exact .inl rfl
  · split
    · exact .inl rfl
    · exact .inr ⟨_, rfl⟩

theorem after_findAt (i : Option Idx) (s : State) : (findAt i s).after = s := by
  unfold findAt
  split
  · rfl
  · split <;> rfl

theorem after_findOwner (sel : Selector) (s : State) : (findOwner sel s).after = s := by
  unfold findOwner
  split
  · split
    · rfl
    · exact after_findAt _ s
  · split
    · rfl
    · exact after_findAt _ s
  · split
    · rfl
    · exact after_findAt _ s
  · rfl

theorem after_stateOwner (x y : Byte) (s : State) : (stateOwner x y s).after = s := by
  unfold stateOwner; split <;> rfl

theorem after_portOwner (b : Byte) (s : State) : (portOwner b s).after = s := by
  unfold portOwner; split <;> rfl

theorem after_getOwner (b : Byte) (s : State) : (getOwner b s).after = s := by
  unfold getOwner; split <;> rfl

theorem after_scheduleOwner (b : Byte) (s : State) : (scheduleOwner b s).after = s := by
  unfold scheduleOwner
  split
  · rfl
  · split <;> rfl

theorem fixed_grantOwner (b : Byte) (n : Nat) (s : State) : (grantOwner b n s).after.fixed = s.fixed := by
  obtain h | ⟨i, h⟩ := after_grantOwner b n s
  · rw [h]
  · rw [h]; exact fixed_grantTo i n s

theorem fixed_bookOwner (k b : Byte) (d n : Nat) (s : State) : (bookOwner k b d n s).after.fixed = s.fixed := by
  unfold bookOwner
  split
  · rfl
  · split
    · rfl
    · split <;> rfl

theorem fixed_cancelOwner (k b : Byte) (s : State) : (cancelOwner k b s).after.fixed = s.fixed := by
  unfold cancelOwner
  split
  · rfl
  · split <;> rfl

theorem fixed_sendOwner (k : ExKind) (b x : Byte) (s : State) : (sendOwner k b x s).after.fixed = s.fixed := by
  unfold sendOwner
  split
  · rfl
  · split
    · rfl
    · split
      · rfl
      · split
        · simp only [sendWork, fixed_ask]
          split <;> simp
        · rfl

theorem fixed_testOwner (b : Byte) (s : State) : (testOwner b s).after.fixed = s.fixed := by
  unfold testOwner
  split
  · rfl
  · split
    · rfl
    · split
      · exact fixed_enterTest _ s
      · rfl

theorem fixed_nextOwner (s : State) : (nextOwner s).after.fixed = s.fixed := by
  unfold nextOwner
  split
  · rfl
  · split
    · rfl
    · split
      · rfl
      · exact fixed_updRec (f := fun r => { r with flags := 0, rep := false }) (fun _ => ⟨rfl, rfl⟩) _ s

theorem base_apportionOwner (s : State) : (apportionOwner s).after.base = s.base := by
  unfold apportionOwner; split <;> rfl

theorem base_reserveOwner (q : Nat) (s : State) : (reserveOwner q s).after.base = s.base :=
  (base_evaluateReserve _).trans rfl

/-! ### The settings' owners -/

theorem fixed_capReleases (n : Nat) (l : List Idx) (s : State) : (capReleases n l s).1.fixed = s.fixed := by
  induction n generalizing l s with
  | zero => rfl
  | succ n ih =>
    unfold capReleases
    split
    · rfl
    · split
      · rfl
      · rw [ih]; simp

theorem fixed_rejoin (l : List Idx) (s : State) : (rejoin l s).fixed = s.fixed := by
  induction l with
  | nil => rfl
  | cons i l ih => exact (fixed_joinHead i _).trans ih

/-- A changed bus cap changes nothing of the fixed part but the cap. -/
theorem fixed_changeBusCap (n : Nat) (s : State) :
    (changeBusCap n s).fixed = { s.fixed with cfg := { s.cfg with busCap := n } } := by
  unfold changeBusCap
  dsimp only
  rw [fixed_callDecision]
  have h : ∀ (b : Bool) (t : State),
      (if b then t else { t with dev := { t.dev with capshed := true } } : State).fixed = t.fixed := fun b t => by
    cases b <;> rfl
  rw [h, fixed_rejoin, fixed_capReleases]
  rfl

/-! ### The table's owners -/

/-- The fixed part without the table. -/
def State.untabled (s : State) : Fixed := { s.fixed with roster := fun _ => none }

theorem untabled_of_fixed {s t : State} (h : t.fixed = s.fixed) : t.untabled = s.untabled := by
  simp only [State.untabled, h]

/-- Any change of a slot is one of the table alone. -/
@[simp] theorem untabled_setRec (i : Idx) (r : Option Record) (s : State) : (setRec i r s).untabled = s.untabled := rfl

@[simp] theorem untabled_updRec (i : Idx) (f : Record → Record) (s : State) : (updRec i f s).untabled = s.untabled := by
  unfold updRec; split <;> simp

theorem fixed_amendCeilingWork (v : Nat) (i : Idx) (s : State) : (amendCeilingWork v i s).fixed = s.fixed := by
  have h : (updRec i (fun r => { r with ceiling := clampTo 50 1000 v }) s).fixed = s.fixed :=
    fixed_updRec (fun _ => by exact ⟨rfl, rfl⟩) i s
  unfold amendCeilingWork
  dsimp only
  split
  · exact h
  · exact h

theorem fixed_amendCapWork (c : Option Nat) (i : Idx) (s : State) : (amendCapWork c i s).fixed = s.fixed := by
  unfold amendCapWork
  split
  · rfl
  · next r hr =>
    split
    · exact fixed_setRec hr rfl rfl
    · next n =>
      have h : (setRec i (some { r with cap := some n, allowance := n }) s).fixed = s.fixed :=
        fixed_setRec hr rfl rfl
      split
      · dsimp only
        split
        · rw [fixed_lapse]; exact h
        · exact h
      · exact fixed_setRec hr rfl rfl

theorem fixed_amendClassWork (c : Cls) (i : Idx) (s : State) : (amendClassWork c i s).fixed = s.fixed := by
  have hc : ∀ t : State, (criticalClassChange i t).fixed = t.fixed := fun t => by
    unfold criticalClassChange
    split <;> simp [order]
  unfold amendClassWork
  split
  · rfl
  · next r hr =>
    have h : (setRec i (some { r with cls := c }) s).fixed = s.fixed := fixed_setRec hr rfl rfl
    split
    · rfl
    · dsimp only
      split <;> split <;> simp [hc, h]

@[simp] theorem fixed_withdraw (i : Idx) (s : State) : (withdraw i s).fixed = s.fixed := by simp [withdraw]

/-- The cell of an abandoned port. -/
theorem fixed_abandon (p : Port) (s : State) : (updCell p Cell.abandon s).fixed = s.fixed :=
  fixed_updCell (toLevel_marks 0 .off _).2

theorem rec?_of_setRec (i j : Idx) (r : Option Record) (s : State) :
    (setRec i r s).roster j = if j = i then r.map fun r => (r.identity, r.port) else s.roster j := by
  simp only [State.roster, rec?_setRec]
  split <;> rfl

theorem roster_updRec (i j : Idx) (f : Record → Record) (s : State) :
    (updRec i f s).roster j = if j = i then (s.rec? i).map fun r => ((f r).identity, (f r).port) else s.roster j := by
  simp only [State.roster, rec?_updRec]
  split
  · simp [Option.map_map, Function.comp_def]
  · rfl

theorem roster_of_fixed {s t : State} (h : t.fixed = s.fixed) : t.roster = s.roster := congrArg Fixed.roster h

/-- The port of a slot's record, by the roster. -/
theorem portOf_eq (s : State) (i : Idx) : s.portOf i = (s.roster i).bind (·.2) := by
  unfold State.portOf State.roster
  cases s.rec? i <;> rfl

/-- An unbind leaves the record its identity, and no port. -/
theorem roster_unbindWork (i j : Idx) (s : State) :
    (unbindWork i s).roster j = if j = i then (s.roster i).map fun x => (x.1, none) else s.roster j := by
  have hp := portOf_eq s i
  unfold unbindWork
  split
  · next h =>
    rw [h] at hp
    split
    · next hj =>
      subst hj
      cases hr : s.roster j with
      | none => rfl
      | some x => rw [hr] at hp; exact congrArg some (Prod.ext rfl hp.symm)
    · rfl
  · dsimp only
    rw [roster_of_fixed (fixed_abandon _ _), roster_of_fixed (fixed_setCountdown _ _ _),
      roster_of_fixed (fixed_enter _ _ _), roster_updRec, roster_of_fixed (fixed_withdraw i s)]
    split
    · have h := congrFun (roster_of_fixed (fixed_withdraw i s)) i
      rw [← h]
      simp [State.roster, Option.map_map, Function.comp_def]
    · rfl

theorem untabled_unbindWork (i : Idx) (s : State) : (unbindWork i s).untabled = s.untabled := by
  unfold unbindWork
  split
  · rfl
  · dsimp only
    rw [untabled_of_fixed (fixed_abandon _ _), untabled_of_fixed (fixed_setCountdown _ _ _),
      untabled_of_fixed (fixed_enter _ _ _), untabled_updRec, untabled_of_fixed (fixed_withdraw i s)]

/-- Binding a record gives it the port. -/
theorem roster_bindWork (p : Port) (i j : Idx) (s : State) :
    (bindWork p i s).roster j = if j = i then (s.roster i).map fun x => (x.1, some p) else s.roster j := by
  have hp := portOf_eq s i
  unfold bindWork
  split
  · next h =>
    rw [h] at hp
    split
    · next hj =>
      subst hj
      cases hr : s.roster j with
      | none => rfl
      | some x => rw [hr] at hp; exact congrArg some (Prod.ext rfl hp.symm)
    · rfl
  · rw [roster_of_fixed (fixed_enterByMode _ _), roster_updRec]
    have h := roster_unbindWork i i s
    rw [if_pos rfl] at h
    split
    · have h2 : ((unbindWork i s).rec? i).map (fun r => (r.identity, some p)) =
          ((unbindWork i s).roster i).map fun x => (x.1, some p) := by
        simp [State.roster, Option.map_map, Function.comp_def]
      rw [h2, h]
      simp [Option.map_map, Function.comp_def]
    · next hj => rw [roster_unbindWork, if_neg hj]

theorem untabled_bindWork (p : Port) (i : Idx) (s : State) : (bindWork p i s).untabled = s.untabled := by
  unfold bindWork
  split
  · rfl
  · rw [untabled_of_fixed (fixed_enterByMode _ _), untabled_updRec, untabled_unbindWork]

theorem fixed_clearFaultWork (i : Idx) (s : State) : (clearFaultWork i s).fixed = s.fixed := by
  unfold clearFaultWork
  split
  · rfl
  · rw [fixed_enterByMode, fixed_updCell rfl]

/-! ### AMEND, step by step -/

/-- The changes of an AMEND that come ahead of the port change: ceiling, cap, class (R16). -/
def amendTerms (l : List AmendChange) (i : Idx) (s : State) : State :=
  let s := match ceilingIn l with
    | some v => amendCeilingWork v i s
    | none => s
  let s := match capIn l with
    | some c => amendCapWork c i s
    | none => s
  match (classIn l).bind clsOf with
  | some c => amendClassWork c i s
  | none => s

/-- The port change of an AMEND: a port number, or an unbind. -/
def amendBinding (l : List AmendChange) (i : Idx) (s : State) : State :=
  let s := match (portIn l).bind portOfByte with
    | some p => bindWork p i s
    | none => s
  if unbindIn l then unbindWork i s else s

/-- The work of an AMEND is its terms, its port change and its clear-fault. -/
theorem amendWork_eq (l : List AmendChange) (i : Idx) (s : State) :
    amendWork l i s =
      if faultIn l then clearFaultWork i (amendBinding l i (amendTerms l i s)) else amendBinding l i (amendTerms l i s) :=
  rfl

theorem fixed_amendTerms (l : List AmendChange) (i : Idx) (s : State) : (amendTerms l i s).fixed = s.fixed := by
  unfold amendTerms
  cases ceilingIn l <;> cases capIn l <;> cases (classIn l).bind clsOf <;>
    simp only [fixed_amendClassWork, fixed_amendCapWork, fixed_amendCeilingWork]

theorem untabled_amendBinding (l : List AmendChange) (i : Idx) (s : State) :
    (amendBinding l i s).untabled = s.untabled := by
  unfold amendBinding
  dsimp only
  split <;> split <;> simp only [untabled_unbindWork, untabled_bindWork]

theorem roster_amendWork (l : List AmendChange) (i : Idx) (s : State) :
    (amendWork l i s).roster = (amendBinding l i (amendTerms l i s)).roster := by
  rw [amendWork_eq]
  split
  · exact roster_of_fixed (fixed_clearFaultWork i _)
  · rfl

theorem untabled_amendWork (l : List AmendChange) (i : Idx) (s : State) : (amendWork l i s).untabled = s.untabled := by
  rw [amendWork_eq]
  have h : (amendBinding l i (amendTerms l i s)).untabled = s.untabled :=
    (untabled_amendBinding l i _).trans (untabled_of_fixed (fixed_amendTerms l i s))
  split
  · exact (untabled_of_fixed (fixed_clearFaultWork i _)).trans h
  · exact h

/-! ### The table's requests -/

theorem untabled_createRecord (i : Idx) (v : Identity) (c : Cls) (p : Option Port) (s : State) :
    (createRecord i v c p s).untabled = s.untabled := by
  unfold createRecord
  dsimp only
  split
  · rfl
  · exact (untabled_of_fixed (fixed_enterByMode i _)).trans rfl

theorem roster_createRecord (i j : Idx) (v : Identity) (c : Cls) (p : Option Port) (s : State) :
    (createRecord i v c p s).roster j = if j = i then some (v, p) else s.roster j := by
  have h : (createRecord i v c p s).roster = (setRec i (some (newRecord s v c p)) s).roster := by
    unfold createRecord
    dsimp only
    split
    · rfl
    · exact roster_of_fixed (fixed_enterByMode i _)
  rw [h, rec?_of_setRec]
  rfl

/-- RETIRE is its withdrawal, the charge returned to the pool and the cell turned OFF, and then the slot freed. -/
theorem retireWork_eq (i : Idx) (s : State) : ∃ t : State, t.untabled = s.untabled ∧
    (∀ j, t.roster j = s.roster j) ∧ retireWork i s = setRec i none t := by
  have hw : (dropAppointments i (withdraw i s)).fixed = s.fixed := (fixed_withdraw i s)
  have hd : ∀ t : State, (dropDue (.expiry i) t).fixed = t.fixed := fun t => fixed_of_frame (frame_dropDue_expiry i t)
  unfold retireWork
  dsimp only
  split
  · next hr =>
    refine ⟨_, untabled_of_fixed hw, fun j => congrFun (roster_of_fixed hw) j, ?_⟩
    have hs : (dropAppointments i (withdraw i s)).slots.set i none = (dropAppointments i (withdraw i s)).slots := by
      ext1 k hk
      by_cases hki : i.val = k
      · subst hki
        simpa [State.rec?] using hr.symm
      · rw [Vector.getElem_set_ne _ _ hki]
    unfold setRec
    rw [hs]
  · next r hr =>
    refine ⟨_, ?_, fun j => ?_, rfl⟩
    · refine untabled_of_fixed ((hd _).trans ?_)
      split
      · exact (fixed_abandon _ _).trans hw
      · exact hw
    · refine congrFun (roster_of_fixed ((hd _).trans ?_)) j
      split
      · exact (fixed_abandon _ _).trans hw
      · exact hw

theorem roster_retireWork (i j : Idx) (s : State) :
    (retireWork i s).roster j = if j = i then none else s.roster j := by
  obtain ⟨t, -, ht, h⟩ := retireWork_eq i s
  rw [h, rec?_of_setRec, ht]
  rfl

theorem untabled_retireWork (i : Idx) (s : State) : (retireWork i s).untabled = s.untabled := by
  obtain ⟨t, ht, -, h⟩ := retireWork_eq i s
  rw [h, untabled_setRec, ht]

theorem untabled_enrollOwner (v : Identity) (k : Byte) (p : Option Byte) (s : State) :
    (enrollOwner v k p s).after.untabled = s.untabled := by
  obtain h | ⟨i, c, q, h⟩ := after_enrollOwner v k p s
  · rw [h]
  · rw [h, untabled_createRecord]

theorem untabled_amendOwner (b : Byte) (l : List AmendChange) (s : State) :
    (amendOwner b l s).after.untabled = s.untabled := by
  obtain h | ⟨i, h⟩ := after_amendOwner b l s
  · rw [h]
  · rw [h, untabled_amendWork]

theorem untabled_retireOwner (b : Byte) (s : State) : (retireOwner b s).after.untabled = s.untabled := by
  obtain h | ⟨i, h⟩ := after_retireOwner b s
  · rw [h]
  · rw [h, untabled_retireWork]

/-- CLEAR changes nothing of the fixed part but the table. -/
theorem fixed_clearWork (s : State) : (clearWork s).fixed = { s.fixed with roster := fun _ => none } := by
  unfold clearWork
  dsimp only
  rw [fixed_foldl _ fun t p => fixed_updCell rfl]
  have h : (cutLine .b (cutLine .a s)).fixed = s.fixed := by simp
  rw [← h]
  generalize cutLine .b (cutLine .a s) = u
  have hr : ∀ t : State, t.slots = Vector.replicate 64 none → t.roster = fun _ => none := fun t ht => by
    funext i
    simp [State.roster, State.rec?, ht]
  simp only [State.fixed, Fixed.mk.injEq, true_and]
  exact ⟨hr _ rfl, rfl⟩

end Sys2Proof.Machine
end

section
/-! The settings stay in their ranges, the table keeps R2, and the places where the mode changes. -/

namespace Sys2Proof.Machine

open Sys2Proof

/-! ### The settings (R178) -/

/-- A policy field clamped to its range keeps its row in range (R134, R135). -/
theorem setField_inRange {p : Policy} (h : p.InRange) {v : Nat} (hv : v < 4294967296) (k : Nat) :
    (p.setField (clampField v k) k).InRange := by
  obtain ⟨h0, h1, h2, h3, h4, h5, h6, h7, h8⟩ := h
  have hrest : clampRest v = 0 ∨ 60 ≤ clampRest v ∧ clampRest v ≤ 86400 := by
    unfold clampRest
    split
    · exact .inl rfl
    · exact .inr (clampTo_mem 60 86400 v (by decide))
  match k with
  | 0 => exact ⟨(clampTo_mem 0 15 v (by decide)).2, h1, h2, h3, h4, h5, h6, h7, h8⟩
  | 1 => exact ⟨h0, (clampTo_mem 0 100 v (by decide)).2, h2, h3, h4, h5, h6, h7, h8⟩
  | 2 => exact ⟨h0, h1, (clampTo_mem 0 100 v (by decide)).2, h3, h4, h5, h6, h7, h8⟩
  | 3 => exact ⟨h0, h1, h2, clampTo_mem 10 3600 v (by decide), h4, h5, h6, h7, h8⟩
  | 4 => exact ⟨h0, h1, h2, h3, hrest, h5, h6, h7, h8⟩
  | 5 => exact ⟨h0, h1, h2, h3, h4, hrest, h6, h7, h8⟩
  | 6 => exact ⟨h0, h1, h2, h3, h4, h5, (clampTo_mem 0 3 v (by decide)).2, h7, h8⟩
  | 7 => exact ⟨h0, h1, h2, h3, h4, h5, h6, (clampTo_mem 0 65535 v (by decide)).2, h8⟩
  | _ + 8 => exact ⟨h0, h1, h2, h3, h4, h5, h6, h7, hv⟩

/-- A row in range put in its class keeps the settings in range. -/
theorem setPolicy_inRange {g : Settings} (h : g.InRange) (c : Cls) {p : Policy} (hp : p.InRange) :
    (g.setPolicy c p).InRange := by
  obtain ⟨h1, h2, h3, h4, h5, h6, h7, h8, h9, h10, h11, h12, hl, hs, hd⟩ := h
  cases c with
  | lifeline => exact ⟨h1, h2, h3, h4, h5, h6, h7, h8, h9, h10, h11, h12, hp, hs, hd⟩
  | standard => exact ⟨h1, h2, h3, h4, h5, h6, h7, h8, h9, h10, h11, h12, hl, hp, hd⟩
  | deferred => exact ⟨h1, h2, h3, h4, h5, h6, h7, h8, h9, h10, h11, h12, hl, hs, hp⟩

theorem policy_inRange {g : Settings} (h : g.InRange) (c : Cls) : (g.policy c).InRange := by
  obtain ⟨-, -, -, -, -, -, -, -, -, -, -, -, hl, hs, hd⟩ := h
  cases c
  exacts [hl, hs, hd]

/-- Every owner keeps the settings in their ranges. -/
theorem inRange_owner {c : Instr} {fr : Framing} {n : Nat} {o : State → Answer} (hr : requestOf c = some (fr, n, o))
    {s : State} (h : s.cfg.InRange) : (o s).after.cfg.InRange := by
  have same : (o s).after.cfg = s.cfg → (o s).after.cfg.InRange := fun he => he ▸ h
  have ofFixed : (o s).after.fixed = s.fixed → (o s).after.cfg.InRange := fun he => same (congrArg Fixed.cfg he)
  have ofUntabled : (o s).after.untabled = s.untabled → (o s).after.cfg.InRange := fun he =>
    same (congrArg Fixed.cfg he)
  have amend : ∀ b l, (amendOwner b l s).after.cfg = s.cfg := fun b l =>
    congrArg Fixed.cfg (untabled_amendOwner b l s)
  obtain ⟨h1, h2, h3, h4, h5, h6, h7, h8, h9, h10, h11, h12, hl, hs, hd⟩ := h
  cases c <;> cases hr
  case enroll => exact ofUntabled (untabled_enrollOwner ..)
  case find => exact same (by rw [after_findOwner])
  case amendCeiling => exact same (amend _ _)
  case amendCap => exact same (amend _ _)
  case amendClass => exact same (amend _ _)
  case amendPort => exact same (amend _ _)
  case unbind => exact same (amend _ _)
  case clearFault => exact same (amend _ _)
  case retire => exact ofUntabled (untabled_retireOwner ..)
  case grant => exact ofFixed (fixed_grantOwner ..)
  case apportion => exact same (cfg_of_base (base_apportionOwner s))
  case book => exact ofFixed (fixed_bookOwner ..)
  case cancel => exact ofFixed (fixed_cancelOwner ..)
  case schedule => exact same (by rw [after_scheduleOwner])
  case sendWake => exact ofFixed (fixed_sendOwner ..)
  case sendQuery => exact ofFixed (fixed_sendOwner ..)
  case sendRest => exact ofFixed (fixed_sendOwner ..)
  case sendShed => exact ofFixed (fixed_sendOwner ..)
  case test => exact ofFixed (fixed_testOwner ..)
  case setBusCap v =>
    show (if _ then s else changeBusCap _ s : State).cfg.InRange
    split
    · exact ⟨h1, h2, h3, h4, h5, h6, h7, h8, h9, h10, h11, h12, hl, hs, hd⟩
    · rw [show (changeBusCap _ s).cfg = _ from congrArg Fixed.cfg (fixed_changeBusCap _ s)]
      exact ⟨clampTo_mem 500 20000 _ (by decide), h2, h3, h4, h5, h6, h7, h8, h9, h10, h11, h12, hl, hs, hd⟩
  case setH v =>
    exact ⟨h1, v.isLt, Nat.min_le_right _ _, h4, h5, h6, h7, h8, h9, h10, h11, h12, hl, hs, hd⟩
  case setK v =>
    exact ⟨h1, h2, (clampTo_mem 0 _ _ (Nat.zero_le _)).2, h4, h5, h6, h7, h8, h9, h10, h11, h12, hl, hs, hd⟩
  case setUndervoltageFloor v =>
    exact ⟨h1, h2, h3, clampTo_mem 100 400 _ (by decide), h5, h6, h7, h8, h9, h10, h11, h12, hl, hs, hd⟩
  case setMainsFailDebounce v =>
    exact ⟨h1, h2, h3, h4, clampTo_mem 1 60 _ (by decide), h6, h7, h8, h9, h10, h11, h12, hl, hs, hd⟩
  case setMainsReturnDebounce v =>
    exact ⟨h1, h2, h3, h4, h5, clampTo_mem 5 600 _ (by decide), h7, h8, h9, h10, h11, h12, hl, hs, hd⟩
  case setBitRateReload v =>
    exact ⟨h1, h2, h3, h4, h5, h6, clampTo_mem 19 1279 _ (by decide), h8, h9, h10, h11, h12, hl, hs, hd⟩
  case setReplyWindowCode v =>
    exact ⟨h1, h2, h3, h4, h5, h6, h7, (clampTo_mem 0 3 _ (by decide)).2, h9, h10, h11, h12, hl, hs, hd⟩
  case setWakeWindow v =>
    exact ⟨h1, h2, h3, h4, h5, h6, h7, h8, clampTo_mem 1 30 _ (by decide), h10, h11, h12, hl, hs, hd⟩
  case setRetryLimit v =>
    exact ⟨h1, h2, h3, h4, h5, h6, h7, h8, h9, (clampTo_mem 0 3 _ (by decide)).2, h11, h12, hl, hs, hd⟩
  case setTestWindow v =>
    exact ⟨h1, h2, h3, h4, h5, h6, h7, h8, h9, h10, clampTo_mem 10 600 _ (by decide), h12, hl, hs, hd⟩
  case setDefaultCeiling v =>
    exact ⟨h1, h2, h3, h4, h5, h6, h7, h8, h9, h10, h11, clampTo_mem 50 1000 _ (by decide), hl, hs, hd⟩
  case setAttentionMask v => exact ⟨h1, h2, h3, h4, h5, h6, h7, h8, h9, h10, h11, h12, hl, hs, hd⟩
  case setClassPolicy number v =>
    have h : s.cfg.InRange := ⟨h1, h2, h3, h4, h5, h6, h7, h8, h9, h10, h11, h12, hl, hs, hd⟩
    unfold policyOwner
    dsimp only
    split
    · exact setPolicy_inRange h _ (setField_inRange (policy_inRange h _) v.isLt _)
    · exact h
  case get => exact same (by rw [after_getOwner])
  case reserve => exact same (cfg_of_base (base_reserveOwner _ s))
  case state => exact same (by rw [after_stateOwner])
  case port => exact same (by rw [after_portOwner])
  case next => exact ofFixed (fixed_nextOwner s)
  case clear => exact same (congrArg Fixed.cfg (fixed_clearWork s))

/-- The power-on settings lie in their ranges. -/
theorem inRange_reset : Settings.reset.InRange := by
  simp [Settings.InRange, Settings.reset, Policy.InRange]

/-! ### What a tick keeps of the table and the settings -/

theorem roster_updCells (l : List Port) (f : Port → Cell → Cell) (s : State) :
    (l.foldl (fun s p => updCell p (f p) s) s).slots = s.slots ∧
    (l.foldl (fun s p => updCell p (f p) s) s).cfg = s.cfg := by
  induction l generalizing s with
  | nil => exact ⟨rfl, rfl⟩
  | cons p l ih => exact ih (updCell p (f p) s)

/-- The scan's codes change neither the table nor the settings. -/
theorem storeScan_kept (sc : Scan) (s : State) : (storeScan sc s).slots = s.slots ∧ (storeScan sc s).cfg = s.cfg := by
  unfold storeScan
  exact roster_updCells allPorts (fun p c => { c with lastScan := sc.codes[p].toNat }) _

theorem cfg_of_fixed {s t : State} (h : t.fixed = s.fixed) : t.cfg = s.cfg := congrArg Fixed.cfg h

theorem roster_congr {s t : State} (h : t.slots = s.slots) : t.roster = s.roster := by
  funext i
  simp only [State.roster, rec?_congr h]

/-- A countdown's tick stays within its slot. -/
theorem frame_countRecord (s : State) (i : Idx) : (countRecord s i).frame = s.frame := by
  unfold countRecord
  split
  · rfl
  · next r hr =>
    have h : (setRec i (some { r with cd := r.cd.counted }) s).frame = s.frame := frame_setRec hr rfl
    dsimp only
    split
    · rw [frame_makeDue rfl, h]
    · exact h

theorem frame_countDown (s : State) : (countDown s).frame = s.frame := by
  unfold countDown
  exact List.foldlRecOn (motive := fun t => t.frame = s.frame) allIdx countRecord rfl
    fun t ht i _ => (frame_countRecord t i).trans ht

theorem mark_takeUp (s : State) : (takeUpMark s).slots = s.slots ∧ (takeUpMark s).cfg = s.cfg := by
  unfold takeUpMark; split <;> exact ⟨rfl, rfl⟩

/-- The supply controller's tick changes nothing of the fixed part that an event keeps. -/
theorem base_supplyTick (sc : Scan) (s : State) : (supplyTick sc s).base = s.base := by
  have hq : ∀ b t, (debitQ b t).base = t.base := fun b t => by unfold debitQ; split <;> rfl
  have hu : ∀ v t, (uvTick v t).base = t.base := fun v t => by
    unfold uvTick
    dsimp only
    split <;> rfl
  have hm : ∀ b t, (mainsTick b t).base = t.base := fun b t => by
    unfold mainsTick
    dsimp only
    split
    · split
      · rfl
      · split <;> rfl
    · split
      · split <;> rfl
      · rfl
  have h : (mainsTick sc.mains (uvTick sc.volt.toNat (debitQ sc.bus.toNat s))).base = s.base := by rw [hm, hu, hq]
  unfold supplyTick
  dsimp only
  split
  · exact h
  · exact (base_evaluateTick _).trans h

/-- A law of the table and the settings is kept by the events and by a tick. -/
theorem tickClosed_of_base {Q : State → Prop} (hQ : ∀ s t : State, t.roster = s.roster → t.cfg = s.cfg → Q s → Q t) :
    TickClosed Q where
  agenda s _ _ h := hQ s _ rfl rfl h
  event ev s _ h := hQ s _ (roster_of_base (base_eventWork ev s)) (cfg_of_base (base_eventWork ev s)) h
  trip p n s h :=
    have he := fixed_event (fixed_tripWork p n) s
    hQ s _ (roster_of_fixed he) (cfg_of_fixed he) h
  advance s h := hQ s _ rfl rfl h
  mark s h := hQ s _ (roster_congr (mark_takeUp s).1) (mark_takeUp s).2 h
  scan sc s h := hQ s _ (roster_congr (storeScan_kept sc s).1) (storeScan_kept sc s).2 h
  count s h :=
    have he := fixed_of_frame (frame_countDown s)
    hQ s _ (roster_of_fixed he) (cfg_of_fixed he) h
  facts s _ h := hQ s _ rfl rfl h
  due _ s _ h := hQ s _ rfl rfl h
  debit sc s h :=
    have he := fixed_event (fixed_debitPass sc) s
    hQ s _ (roster_of_fixed he) (cfg_of_fixed he) h
  supply sc s h :=
    have he := base_event (base_supplyTick sc) s
    hQ s _ (roster_of_base he) (cfg_of_base he) h
  last s h := hQ s _ rfl rfl h

/-- Every step keeps the settings in their ranges. -/
theorem stepClosed_inRange : StepClosed (fun _ => True) (fun s => s.cfg.InRange) :=
  have hT : TickClosed fun s : State => s.cfg.InRange := tickClosed_of_base fun _ _ _ hc h => hc ▸ h
  { hT with
    host := fun _ _ h => h
    queue := fun _ _ h => h
    owner := fun c fr n o s _ hr h => by
      rw [show (finishEvent s _).cfg = _ from congrArg Fixed.cfg (fixed_finishEvent s _)]
      exact inRange_owner hr h
    engine := fun e g g' s _ _ _ _ h => by rwa [setEngine_cfg]
    line := fun e l s h => by rwa [setLine_cfg]
    reset := fun _ _ _ _ => inRange_reset
    tick := fun sc o s _ h => hT.tickWork sc o h }

/-- Settles O9: the only owners that write a setting clamp it, or lower K with H. -/
theorem settingsKept : Obligations.SettingsKept := by
  unfold Obligations.SettingsKept
  exact fun s t h he => stepClosed_inRange.step h he

/-! ### The table (R2) -/

/-- R2 as a law of the roster. -/
theorem tableLaw_iff (s : State) : s.TableLaw ↔
    (∀ i j a b, s.roster i = some a → s.roster j = some b → a.1 = b.1 → i = j) ∧
    (∀ i a, s.roster i = some a → a.1 ≠ 0) ∧
    ∀ i j a b p, s.roster i = some a → s.roster j = some b → a.2 = some p → b.2 = some p → i = j := by
  have hp : ∀ (i : Idx) (p : Port), s.portOf i = some p ↔ ∃ a, s.roster i = some a ∧ a.2 = some p := fun i p => by
    rw [portOf_eq]
    cases s.roster i <;> simp
  have hi : ∀ (i : Idx) (a : Identity × Option Port), s.roster i = some a ↔
      ∃ r, s.rec? i = some r ∧ (r.identity, r.port) = a := fun i a => by simp [State.roster]
  constructor
  · rintro ⟨h1, h2, h3⟩
    refine ⟨fun i j a b ha hb he => ?_, fun i a ha => ?_, fun i j a b p ha hb h h' => ?_⟩
    · obtain ⟨r, hr, rfl⟩ := (hi i a).mp ha
      obtain ⟨q, hq, rfl⟩ := (hi j b).mp hb
      exact h1 i j r q hr hq he
    · obtain ⟨r, hr, rfl⟩ := (hi i a).mp ha
      exact h2 i r hr
    · exact h3 i j p ((hp i p).mpr ⟨a, ha, h⟩) ((hp j p).mpr ⟨b, hb, h'⟩)
  · rintro ⟨h1, h2, h3⟩
    refine ⟨fun i j r q hr hq he => ?_, fun i r hr => ?_, fun i j p h h' => ?_⟩
    · exact h1 i j _ _ ((hi i _).mpr ⟨r, hr, rfl⟩) ((hi j _).mpr ⟨q, hq, rfl⟩) he
    · exact h2 i _ ((hi i _).mpr ⟨r, hr, rfl⟩)
    · obtain ⟨a, ha, hap⟩ := (hp i p).mp h
      obtain ⟨b, hb, hbp⟩ := (hp j p).mp h'
      exact h3 i j a b p ha hb hap hbp

theorem tableLaw_congr {s t : State} (h : t.roster = s.roster) (hs : s.TableLaw) : t.TableLaw := by
  rw [tableLaw_iff] at hs ⊢
  rwa [h]

/-- One slot changed to a fresh identity or its own, and to a free port or its own, keeps R2. -/
theorem tableLaw_update {s t : State} {i : Idx} {x : Option (Identity × Option Port)} (hs : s.TableLaw)
    (ht : ∀ j, t.roster j = if j = i then x else s.roster j)
    (hid : ∀ a, x = some a → a.1 ≠ 0 ∧ ∀ j b, j ≠ i → s.roster j = some b → b.1 ≠ a.1)
    (hpt : ∀ a p, x = some a → a.2 = some p → ∀ j, j ≠ i → s.portOf j ≠ some p) : t.TableLaw := by
  have hn : ∀ j, j ≠ i → t.roster j = s.roster j := fun j hj => by rw [ht, if_neg hj]
  have hx : t.roster i = x := by rw [ht, if_pos rfl]
  have hport : ∀ j b p, s.roster j = some b → b.2 = some p → s.portOf j = some p := fun j b p hb hbp => by
    rw [portOf_eq, hb]; exact hbp
  rw [tableLaw_iff] at hs ⊢
  obtain ⟨h1, h2, h3⟩ := hs
  refine ⟨fun j k a b ha hb he => ?_, fun j a ha => ?_, fun j k a b p ha hb hap hbp => ?_⟩
  · by_cases hj : j = i <;> by_cases hk : k = i
    · exact hj.trans hk.symm
    · rw [hj, hx] at ha
      rw [hn k hk] at hb
      exact absurd he.symm ((hid a ha).2 k b hk hb)
    · rw [hk, hx] at hb
      rw [hn j hj] at ha
      exact absurd he ((hid b hb).2 j a hj ha)
    · rw [hn j hj] at ha
      rw [hn k hk] at hb
      exact h1 j k a b ha hb he
  · by_cases hj : j = i
    · rw [hj, hx] at ha
      exact (hid a ha).1
    · rw [hn j hj] at ha
      exact h2 j a ha
  · by_cases hj : j = i <;> by_cases hk : k = i
    · exact hj.trans hk.symm
    · rw [hj, hx] at ha
      rw [hn k hk] at hb
      exact absurd (hport k b p hb hbp) (hpt a p ha hap k hk)
    · rw [hk, hx] at hb
      rw [hn j hj] at ha
      exact absurd (hport j a p ha hap) (hpt b p hb hbp j hj)
    · rw [hn j hj] at ha
      rw [hn k hk] at hb
      exact h3 j k a b p ha hb hap hbp

/-- The identity of a slot changed only in its port stays fresh. -/
theorem tableLaw_rebind {s t : State} {i : Idx} {q : Option Port} (hs : s.TableLaw)
    (ht : ∀ j, t.roster j = if j = i then (s.roster i).map fun x => (x.1, q) else s.roster j)
    (hpt : ∀ p, q = some p → ∀ j, j ≠ i → s.portOf j ≠ some p) : t.TableLaw := by
  refine tableLaw_update hs ht (fun a ha => ?_) fun a p ha hap => ?_
  · obtain ⟨b, hb, rfl⟩ := Option.map_eq_some_iff.mp ha
    rw [tableLaw_iff] at hs
    exact ⟨hs.2.1 i b hb, fun j c hj hc he => hj (hs.1 j i c b hc hb he)⟩
  · obtain ⟨b, hb, rfl⟩ := Option.map_eq_some_iff.mp ha
    exact hpt p hap

/-! ### Looking a slot up -/

theorem find?_allIdx_none {f : Idx → Bool} : allIdx.find? f = none ↔ ∀ i, f i = false := by
  simp [allIdx]

theorem boundAt_none {s : State} {p : Port} : s.boundAt p = none ↔ ∀ i, s.portOf i ≠ some p := by
  unfold State.boundAt; rw [find?_allIdx_none]; simp [State.bindsPort]

theorem portOf_of_boundAt {s : State} {p : Port} {i : Idx} (h : s.boundAt p = some i) : s.portOf i = some p := by
  have := List.find?_some h
  simpa [State.bindsPort] using this

/-- With unique ports the record bound to a port is the one found there. -/
theorem boundAt_eq {s : State} (hu : s.UniquePorts) {p : Port} {i : Idx} (h : s.portOf i = some p) :
    s.boundAt p = some i := by
  cases hb : s.boundAt p with
  | none => exact absurd h (boundAt_none.mp hb i)
  | some j => rw [hu j i p (portOf_of_boundAt hb) h]

/-- With unique ports, a port that is not taken by another record is bound to no other. -/
theorem free_of_not_taken {s : State} (hu : s.UniquePorts) {p : Port} {i : Idx} (h : s.takenByOther i p = false)
    (j : Idx) (hj : j ≠ i) : s.portOf j ≠ some p := fun hp => by
  simp [State.takenByOther, boundAt_eq hu hp, hj] at h

theorem withIdentity_none {s : State} {v : Identity} (h : (s.withIdentity v).isSome = false) (i : Idx) (r : Record)
    (hr : s.rec? i = some r) : r.identity ≠ v := by
  have hn : s.withIdentity v = none := by simpa using h
  have := find?_allIdx_none.mp hn i
  simpa [State.holdsIdentity, hr] using this

/-- An accepted AMEND keeps R2. -/
theorem tableLaw_amendWork {s : State} {l : List AmendChange} {i : Idx} (hs : s.TableLaw)
    (hf : amendRefusal l i s = none) : (amendWork l i s).TableLaw := by
  have ht : (amendTerms l i s).roster = s.roster := roster_of_fixed (fixed_amendTerms l i s)
  have hs' : (amendTerms l i s).TableLaw := tableLaw_congr ht hs
  refine tableLaw_congr (roster_amendWork l i s) ?_
  have hun : ∀ u : State, u.TableLaw → (if unbindIn l then unbindWork i u else u).TableLaw := fun u hu => by
    split
    · exact tableLaw_rebind hu (fun j => roster_unbindWork i j u) fun p hp => by cases hp
    · exact hu
  unfold amendBinding
  refine hun _ ?_
  cases hp : (portIn l).bind portOfByte with
  | none => exact hs'
  | some p =>
    refine tableLaw_rebind hs' (fun j => roster_bindWork p i j _) fun p' hp' => ?_
    cases hp'
    have hfree : s.takenByOther i p = false := by
      unfold amendRefusal at hf
      rw [hp] at hf
      cases hc : s.takenByOther i p with
      | false => rfl
      | true =>
        simp only [Option.any_some, hc, if_true] at hf
        split at hf <;> cases hf
    intro j hj
    rw [portOf_eq, ht, ← portOf_eq]
    exact free_of_not_taken hs.2.2 hfree j hj

/-- Every owner keeps R2. -/
theorem tableLaw_owner {c : Instr} {fr : Framing} {n : Nat} {o : State → Answer} (hr : requestOf c = some (fr, n, o))
    {s : State} (h : s.TableLaw) : (o s).after.TableLaw := by
  have same : (o s).after.roster = s.roster → (o s).after.TableLaw := fun he => tableLaw_congr he h
  have ofFixed : (o s).after.fixed = s.fixed → (o s).after.TableLaw := fun he => same (congrArg Fixed.roster he)
  have amend : ∀ b l, (amendOwner b l s).after.TableLaw := fun b l => by
    unfold amendOwner
    split
    · exact h
    · split
      · split
        · exact h
        · split
          · exact h
          · next hf => exact tableLaw_amendWork h hf
      · exact h
  cases c <;> cases hr
  case enroll v k p =>
    unfold enrollOwner
    split
    · exact h
    · split
      · exact h
      · next hv =>
        split
        · exact h
        · next pt _ =>
          split
          · exact h
          · next hid =>
            split
            · exact h
            · next hpt =>
              split
              · exact h
              · refine tableLaw_update h (fun j => roster_createRecord _ j v _ pt s) (fun a ha => ?_)
                  fun a p ha hap => ?_
                · cases ha
                  refine ⟨hv, fun j b _ hb => ?_⟩
                  obtain ⟨r, hr, rfl⟩ := Option.map_eq_some_iff.mp hb
                  exact withIdentity_none (by simpa using hid) j r hr
                · cases ha
                  cases hap
                  have : s.boundAt p = none := by simpa [State.portHeld] using hpt
                  exact fun j _ => boundAt_none.mp this j
  case find => exact same (by rw [after_findOwner])
  case amendCeiling => exact amend _ _
  case amendCap => exact amend _ _
  case amendClass => exact amend _ _
  case amendPort => exact amend _ _
  case unbind => exact amend _ _
  case clearFault => exact amend _ _
  case retire b =>
    unfold retireOwner
    split
    · exact h
    · split
      · exact h
      · exact tableLaw_update h (fun j => roster_retireWork _ j s) (fun a ha => by cases ha) fun a p ha => by cases ha
  case grant => exact ofFixed (fixed_grantOwner ..)
  case apportion => exact same (roster_of_base (base_apportionOwner s))
  case book => exact ofFixed (fixed_bookOwner ..)
  case cancel => exact ofFixed (fixed_cancelOwner ..)
  case schedule => exact same (by rw [after_scheduleOwner])
  case sendWake => exact ofFixed (fixed_sendOwner ..)
  case sendQuery => exact ofFixed (fixed_sendOwner ..)
  case sendRest => exact ofFixed (fixed_sendOwner ..)
  case sendShed => exact ofFixed (fixed_sendOwner ..)
  case test => exact ofFixed (fixed_testOwner ..)
  case setBusCap v =>
    refine same ?_
    show (if _ then s else changeBusCap _ s : State).roster = _
    split
    · rfl
    · exact congrArg Fixed.roster (fixed_changeBusCap _ s)
  case setClassPolicy number v =>
    refine same ?_
    unfold policyOwner
    dsimp only
    split <;> rfl
  case get => exact same (by rw [after_getOwner])
  case reserve => exact same (roster_of_base (base_reserveOwner _ s))
  case state => exact same (by rw [after_stateOwner])
  case port => exact same (by rw [after_portOwner])
  case next => exact ofFixed (fixed_nextOwner s)
  case clear =>
    have he : (clearOwner s).after.roster = fun _ => none := congrArg Fixed.roster (fixed_clearWork s)
    rw [tableLaw_iff, he]
    exact ⟨by simp, by simp, by simp⟩
  all_goals exact h

theorem rec?_reset (i : Idx) : State.reset.rec? i = none := by simp [State.reset, State.rec?]

theorem tableLaw_reset : State.reset.TableLaw := by
  have hr : State.reset.roster = fun _ => none := by funext i; simp [State.roster, rec?_reset]
  rw [tableLaw_iff, hr]
  exact ⟨by simp, by simp, by simp⟩

/-- Every step keeps R2. -/
theorem stepClosed_tableLaw : StepClosed (fun _ => True) State.TableLaw :=
  have hT : TickClosed State.TableLaw := tickClosed_of_base fun _ _ hr _ h => tableLaw_congr hr h
  { hT with
    host := fun _ _ h => h
    queue := fun _ _ h => h
    owner := fun _ _ _ _ s _ hr h =>
      tableLaw_congr (roster_of_fixed (fixed_finishEvent s _)) (tableLaw_owner hr (s := clearNotes s) h)
    engine := fun e _ _ s _ _ _ _ h => tableLaw_congr (roster_of_fixed (fixed_setEngine e _ s)) h
    line := fun e l s h => tableLaw_congr (roster_of_fixed (fixed_setLine e l s)) h
    reset := fun _ _ _ _ => tableLaw_reset
    tick := fun sc o _ _ h => hT.tickWork sc o h }

/-- Settles O10: ENROLL gives a fresh identity and a free port, AMEND a free port, and nothing else changes either. -/
theorem tableLawKept : Obligations.TableLawKept := by
  unfold Obligations.TableLawKept
  exact fun s t h he => stepClosed_tableLaw.step h he

/-! ### Where the mode changes -/

/-- The mode is `m`, and no event of the supply controller is due. -/
def State.ModeAt (m : Mode) (s : State) : Prop :=
  s.supply.mode = m ∧ ∀ ev ∈ s.agenda.due, ev.ofSupply = false

/-- Equal modes and equal events of the meter keep it. -/
theorem modeAt_congr {m : Mode} {s t : State} (hm : t.supply.mode = s.supply.mode)
    (hd : ∀ ev ∈ t.meterDue, ev.ofSupply = true → ev ∈ s.meterDue) (h : s.ModeAt m) : t.ModeAt m := by
  refine ⟨hm.trans h.1, fun ev he => ?_⟩
  by_contra hc
  rw [Bool.not_eq_false] at hc
  have h1 : ev ∈ t.meterDue := List.mem_filter.mpr ⟨he, by simp [Event.ofMeter, hc]⟩
  exact absurd (h.2 ev (List.mem_filter.mp (hd ev h1 hc)).1) (by simp [hc])

theorem modeAt_of_fixed {m : Mode} {s t : State} (h : t.fixed = s.fixed) (hs : s.ModeAt m) : t.ModeAt m :=
  modeAt_congr (congrArg (fun f => f.supply.mode) h)
    (fun _ he _ => (show t.meterDue = s.meterDue from congrArg Fixed.due h) ▸ he) hs

/-- The mode and what is due of the meter's events. -/
def State.modeDue (s : State) : Mode × List Event := (s.supply.mode, s.meterDue)

theorem modeDue_of_fixed {s t : State} (h : t.fixed = s.fixed) : t.modeDue = s.modeDue :=
  congrArg (fun f : Fixed => (f.supply.mode, f.due)) h

theorem modeDue_of_untabled {s t : State} (h : t.untabled = s.untabled) : t.modeDue = s.modeDue :=
  congrArg (fun f : Fixed => (f.supply.mode, f.due)) h

/-- Where no event of the supply controller is due, none is taken ahead of an apportionment. -/
theorem closeSupply_none {s : State} (h : ∀ ev ∈ s.agenda.due, ev.ofSupply = false) : closeSupply s = s := by
  have hn : ∀ ev : Event, ev.ofSupply = true → s.isDue ev = false := fun ev hev => by
    by_contra hc
    rw [Bool.not_eq_false, State.isDue, List.contains_iff_mem] at hc
    simp [h ev hc] at hev
  simp [closeSupply, hn .latch rfl, hn .failDebounce rfl, hn .returnDebounce rfl]

/-- The apportionment keeps the mode. -/
theorem modeAt_apportion {m : Mode} {s : State} (h : s.ModeAt m) :
    (apportionTick (closeSupply (dropDue .apportion s))).ModeAt m := by
  have hd : (dropDue .apportion s).ModeAt m := ⟨h.1, fun ev he => h.2 ev (List.mem_filter.mp he).1⟩
  rw [closeSupply_none hd.2]
  have hw := modeAt_of_fixed (fixed_event fixed_apportionWork (dropDue .apportion s)) hd
  unfold apportionTick
  dsimp only
  split
  · exact hw
  · exact hw

/-- The owners other than RESERVE's keep the mode, and what is due of the meter's events. -/
theorem mode_owner {c : Instr} {fr : Framing} {n : Nat} {o : State → Answer} (hr : requestOf c = some (fr, n, o))
    (hc : ∀ fr q, c ≠ .reserve fr q) (s : State) : (o s).after.modeDue = s.modeDue := by
  have ofFixed : (o s).after.fixed = s.fixed → (o s).after.modeDue = s.modeDue := modeDue_of_fixed
  have ofSame : (o s).after = s → (o s).after.modeDue = s.modeDue := fun he => by rw [he]
  have amend : ∀ b l, (amendOwner b l s).after.modeDue = s.modeDue := fun b l =>
    modeDue_of_untabled (untabled_amendOwner b l s)
  cases c <;> cases hr
  case enroll => exact modeDue_of_untabled (untabled_enrollOwner ..)
  case find => exact ofSame (after_findOwner _ s)
  case amendCeiling => exact amend _ _
  case amendCap => exact amend _ _
  case amendClass => exact amend _ _
  case amendPort => exact amend _ _
  case unbind => exact amend _ _
  case clearFault => exact amend _ _
  case retire => exact modeDue_of_untabled (untabled_retireOwner ..)
  case grant => exact ofFixed (fixed_grantOwner ..)
  case apportion => unfold apportionOwner; split <;> rfl
  case book => exact ofFixed (fixed_bookOwner ..)
  case cancel => exact ofFixed (fixed_cancelOwner ..)
  case schedule => exact ofSame (after_scheduleOwner _ s)
  case sendWake => exact ofFixed (fixed_sendOwner ..)
  case sendQuery => exact ofFixed (fixed_sendOwner ..)
  case sendRest => exact ofFixed (fixed_sendOwner ..)
  case sendShed => exact ofFixed (fixed_sendOwner ..)
  case test => exact ofFixed (fixed_testOwner ..)
  case setBusCap v =>
    show (if _ then s else changeBusCap _ s : State).modeDue = _
    split
    · rfl
    · exact congrArg (fun f : Fixed => (f.supply.mode, f.due)) (fixed_changeBusCap (clampTo 500 20000 v.toNat) s)
  case setClassPolicy number v =>
    unfold policyOwner
    dsimp only
    split <;> rfl
  case get => exact ofSame (after_getOwner _ s)
  case reserve => exact absurd rfl (hc _ _)
  case state => exact ofSame (after_stateOwner _ _ s)
  case port => exact ofSame (after_portOwner _ s)
  case next => exact ofFixed (fixed_nextOwner s)
  case clear =>
    exact congrArg (fun f : Fixed => (f.supply.mode, f.due)) (fixed_clearWork s)
  all_goals rfl

theorem modeAt_owner {c : Instr} {fr : Framing} {n : Nat} {o : State → Answer} {m : Mode}
    (hr : requestOf c = some (fr, n, o)) (hc : ∀ fr q, c ≠ .reserve fr q) {s : State} (h : s.ModeAt m) :
    (o s).after.ModeAt m :=
  have he := mode_owner hr hc s
  modeAt_congr (congrArg Prod.fst he) (fun _ hd _ => (show State.meterDue _ = s.meterDue from congrArg Prod.snd he) ▸ hd) h

/-- The commands that can change the mode with no event of the supply controller due. -/
def EntersModes (c : Instr) : Prop :=
  (∃ sc l, c = .tick sc l) ∨ (∃ fr q, c = .reserve fr q) ∨ ∃ b, c = .powerOnReset b

theorem stepClosed_modeAt (m : Mode) : StepClosed (fun c => ¬EntersModes c) (State.ModeAt m) where
  agenda s a ha h := ⟨h.1, fun ev he => by
    obtain hd | ⟨e, rfl⟩ := ha ev he
    · exact h.2 ev hd
    · rfl⟩
  event ev s hd h := by
    have hm : ev ∈ s.agenda.due := List.contains_iff_mem.mp hd
    have hs := h.2 ev hm
    by_cases ha : ev = .apportion
    · subst ha; exact modeAt_apportion h
    · exact modeAt_of_fixed (fixed_eventWork (by simp [Event.ofMeter, hs, ha]) s) h
  trip p n s h := modeAt_of_fixed (fixed_event (fixed_tripWork p n) s) h
  host _ _ h := h
  queue _ _ h := h
  owner c fr n o s hc hr h :=
    modeAt_of_fixed (fixed_finishEvent s _)
      (modeAt_owner (s := clearNotes s) hr (fun fr q he => hc (.inr (.inl ⟨fr, q, he⟩))) h)
  engine e g g' s _ _ _ _ h := modeAt_of_fixed (fixed_setEngine e _ s) h
  line e l s h := modeAt_of_fixed (fixed_setLine e l s) h
  reset b s hc _ := absurd (.inr (.inr ⟨b, rfl⟩)) hc
  tick sc o s hc _ := absurd (.inl ⟨sc, o, rfl⟩) hc

/-- With no event of the supply controller due, only a tick, a RESERVE and power-on reset change the mode. -/
theorem mode_changes_at {c : Instr} {s t : State} (hl : s.isDue .latch = false) (hf : s.isDue .failDebounce = false)
    (hr : s.isDue .returnDebounce = false) (he : exec c s = .next t) (hm : t.supply.mode ≠ s.supply.mode) :
    EntersModes c := by
  by_contra hc
  have hd : ∀ ev ∈ s.agenda.due, ev.ofSupply = false := fun ev hev => by
    have hn : s.isDue ev = true := List.contains_iff_mem.mpr hev
    cases ev with
    | latch => rw [hl] at hn; cases hn
    | failDebounce => rw [hf] at hn; cases hn
    | returnDebounce => rw [hr] at hn; cases hn
    | _ => rfl
  exact hm ((stepClosed_modeAt s.supply.mode).exec hc ⟨rfl, hd⟩ he).1

end Sys2Proof.Machine
end

section
/-! Power-on reset: the values it leaves, and the laws they obey (R183). -/

namespace Sys2Proof.Machine

open Sys2Proof

theorem cells_reset (p : Port) : State.reset.cells[p] = Cell.reset := by simp [State.reset]

theorem portOf_reset (i : Idx) : State.reset.portOf i = none := by simp [State.portOf, rec?_reset]

theorem stOf_reset (i : Idx) : State.reset.stOf i = none := by simp [State.stOf, rec?_reset]

/-- Settles O2: the table is empty, every cell and every setting stands at its power-on value. -/
theorem resetState : Obligations.ResetState := by
  unfold Obligations.ResetState
  exact ⟨rec?_reset, rfl, cells_reset, rfl, ⟨rfl, rfl, rfl, rfl⟩, rfl, rfl, rfl, rfl, rfl, rfl, rfl, rfl, rfl, rfl, rfl⟩

/-- The power-on values of a cell lie in the ranges of R46. -/
theorem cell_reset_inRange : Cell.reset.InRange := by simp [Cell.InRange, Cell.reset]

theorem feedLaw_reset : State.reset.FeedLaw := by
  have none : ∀ {i : Idx} {r : Record}, State.reset.rec? i = some r → False := fun hr => by simp [rec?_reset] at hr
  have st : ∀ i x, State.reset.stOf i ≠ some x := fun i x => by simp [stOf_reset]
  exact ⟨fun i j p h => absurd h (by simp [portOf_reset]),
    ⟨List.nodup_nil, fun i => ⟨fun h => absurd h List.not_mem_nil, fun h => absurd h (st i _)⟩⟩, List.Pairwise.nil,
    ⟨List.nodup_nil, fun i => ⟨fun h => absurd h List.not_mem_nil, fun h => absurd h (st i _)⟩,
      fun i r hr => (none hr).elim⟩, Nat.zero_le _, fun i r hr => (none hr).elim, fun i r hr => (none hr).elim,
    fun i r p hr => (none hr).elim, fun p _ => congrArg Cell.drive (cells_reset p)⟩

theorem modeLaw_reset : State.reset.ModeLaw := by
  refine ⟨fun _ i r hr => ?_, fun h => absurd h (by decide), fun p _ => ?_, fun i r hr => ?_⟩
  · simp [rec?_reset] at hr
  · rw [cells_reset]; rfl
  · simp [rec?_reset] at hr

/-- Settles O3: an empty table, empty collections and power-on settings obey every law. -/
theorem resetLawful : Obligations.ResetLawful := by
  unfold Obligations.ResetLawful
  refine ⟨inRange_reset, tableLaw_reset, fun p => ?_, ⟨List.nodup_nil, fun i => ?_⟩, fun a b h => ?_, feedLaw_reset,
    ⟨Nat.zero_le _, List.Pairwise.nil, List.Pairwise.nil, fun a ha => ?_⟩, modeLaw_reset, fun i r hr => ?_⟩
  · rw [cells_reset]; exact cell_reset_inRange
  · rw [rec?_reset]
    exact ⟨fun h => absurd h List.not_mem_nil, fun h => by cases h⟩
  · cases h
  · cases ha
  · simp [rec?_reset] at hr

end Sys2Proof.Machine
end

section
/-! The laws of service (R6, R8, R39, R41, R47, R84, R85) over a small view of the state: each record's seat, each port's
level, the admission queue and the feed list, the bus cap and the mode. A set `T` of records in transit, between leaving one
state and entering the next, is exempt from them, and a set `X` from what CRITICAL asks. -/

namespace Sys2Proof.Machine

open Sys2Proof

/-! ### The view -/

/-- What the laws of service ask of a record: its port, class, state, admitted current, and whether it holds a test. -/
structure Seat where
  port : Option Port
  cls : Cls
  st : RState
  admitted : Option Nat
  tested : Bool

/-- A record's seat. -/
def Record.seat (r : Record) : Seat := ⟨r.port, r.cls, r.st, r.admitted, r.test.isSome⟩

/-- The seat of a state entry. -/
def Seat.moved (st : RState) (a : Seat) : Seat :=
  { a with st := st, tested := if a.st = st then a.tested else decide (st = .testing) }

/-- What the laws of service look at. -/
structure Service where
  seats : Idx → Option Seat
  drive : Port → Drive
  run : Port → Nat
  feedList : List Idx
  queue : List Idx
  cap : Nat
  mode : Mode

/-- The service view of a state. -/
def State.service (s : State) : Service :=
  ⟨fun i => (s.rec? i).map Record.seat, fun p => s.cells[p].drive, fun p => s.cells[p].presRun, s.arbiter.feedList,
    s.arbiter.queue, s.cfg.busCap, s.supply.mode⟩

/-- The class rank of a slot. -/
def Service.rank (v : Service) (i : Idx) : Nat :=
  match v.seats i with
  | some a => a.cls.rank
  | none => 3

/-- The admitted current of a slot, 0 where it is absent. -/
def Service.current (v : Service) (i : Idx) : Nat := ((v.seats i).bind (·.admitted)).getD 0

/-- The slot's seat replaced. -/
def Service.put (v : Service) (i : Idx) (a : Seat) : Service :=
  { v with seats := fun j => if j = i then some a else v.seats j }

/-- FED, WAITING or TESTING: what CRITICAL leaves to LIFELINE records (R41). -/
def RState.serving (st : RState) : Prop := st = .fed ∨ st = .waiting ∨ st = .testing

/-- The laws of service, but for the records in `T`; and, where `M` holds, the laws of the modes that need no event
(R5, R41, R47), but for the records in `X`. -/
structure Service.Law (M : Prop) (X T : Set Idx) (v : Service) : Prop where
  ports : ∀ i j a b p, v.seats i = some a → v.seats j = some b → a.port = some p → b.port = some p → i = j
  queueNodup : v.queue.Nodup
  queue : ∀ i, i ∈ v.queue ↔ i ∉ T ∧ ∃ a, v.seats i = some a ∧ a.st = .waiting
  order : (v.queue.map v.rank).Pairwise (· ≤ ·)
  feedNodup : v.feedList.Nodup
  feed : ∀ i, i ∈ v.feedList ↔ i ∉ T ∧ ∃ a, v.seats i = some a ∧ a.st = .fed
  admitted : ∀ i a, v.seats i = some a → (a.admitted.isSome = true ↔ i ∉ T ∧ a.st = .fed)
  budget : (v.feedList.map v.current).sum ≤ v.cap
  idle : ∀ i a, v.seats i = some a → i ∉ T →
    if v.mode = .mains then a.st = .idle else (a.st = .idle ↔ a.port = none)
  level : ∀ i a p, v.seats i = some a → i ∉ T → a.port = some p →
    if a.st = .fed then v.drive p = .ramp ∨ v.drive p = .feed else v.drive p = driveFor v.mode a.st
  bare : ∀ p, (∀ i a, v.seats i = some a → a.port ≠ some p) → v.drive p = .off
  tested : M → ∀ i a, v.seats i = some a → (a.tested = true ↔ a.st = .testing)
  still : M → ∀ p, v.drive p = .off → v.run p = 0
  critical : M → v.mode = .critical → ∀ i a, v.seats i = some a → i ∉ X → a.st.serving → a.cls = .lifeline

/-! ### The laws of the state as laws of the view -/

theorem seat_some {s : State} {i : Idx} {a : Seat} :
    s.service.seats i = some a ↔ ∃ r, s.rec? i = some r ∧ r.seat = a := by simp [State.service]

theorem service_rank (s : State) (i : Idx) : s.service.rank i = s.rankOf i := by
  simp only [Service.rank, State.rankOf, State.service]
  cases s.rec? i <;> rfl

theorem service_current (s : State) (i : Idx) : s.service.current i = s.admittedOf i := by
  simp only [Service.current, State.admittedOf, State.service]
  cases s.rec? i <;> rfl

theorem stOf_some {s : State} {i : Idx} {x : RState} :
    s.stOf i = some x ↔ ∃ a, s.service.seats i = some a ∧ a.st = x := by
  simp only [State.stOf, State.service]
  cases s.rec? i <;> simp [Record.seat]

theorem portOf_some {s : State} {i : Idx} {p : Port} :
    s.portOf i = some p ↔ ∃ a, s.service.seats i = some a ∧ a.port = some p := by
  simp only [State.portOf, State.service]
  cases s.rec? i <;> simp [Record.seat]

/-- With no record exempt, the laws of the view are those of the state. -/
theorem law_iff (M : Prop) (s : State) : s.service.Law M ∅ ∅ ↔
    s.FeedLaw ∧ (M → s.TestLaw ∧ s.OffLaw ∧ s.CriticalLaw) := by
  have hrank : s.service.rank = s.rankOf := funext (service_rank s)
  have hcur : s.service.current = s.admittedOf := funext (service_current s)
  constructor
  · intro h
    refine ⟨⟨fun i j p hi hj => ?_, ⟨h.queueNodup, fun i => ?_⟩, ?_, ⟨h.feedNodup, fun i => ?_, fun i r hr => ?_⟩, ?_,
      fun i r hr hp => ?_, fun i r hr => ?_, fun i r p hr hp => ?_, fun p hp => ?_⟩, fun m => ⟨fun i r hr => ?_,
      h.still m, fun hm i r hr => ?_⟩⟩
    · obtain ⟨a, ha, hap⟩ := portOf_some.mp hi
      obtain ⟨b, hb, hbp⟩ := portOf_some.mp hj
      exact h.ports i j a b p ha hb hap hbp
    · exact (h.queue i).trans (by simp [stOf_some])
    · have := h.order
      rw [hrank] at this
      exact this
    · exact (h.feed i).trans (by simp [stOf_some])
    · exact (h.admitted i r.seat (seat_some.mpr ⟨r, hr, rfl⟩)).trans (by simp [Record.seat])
    · have := h.budget
      rw [hcur] at this
      exact this
    · have := h.idle i r.seat (seat_some.mpr ⟨r, hr, rfl⟩) (Set.notMem_empty i)
      split at this
      · exact this
      · exact this.mpr hp
    · have := h.idle i r.seat (seat_some.mpr ⟨r, hr, rfl⟩) (Set.notMem_empty i)
      change if s.supply.mode = .mains then r.st = .idle else (r.st = .idle ↔ r.port = none) at this
      split
      · next hm => rwa [if_pos hm] at this
      · next hm =>
        rw [if_neg hm] at this
        exact this.mp
    · exact h.level i r.seat p (seat_some.mpr ⟨r, hr, rfl⟩) (Set.notMem_empty i) hp
    · exact h.bare p fun i a ha hap => hp i (portOf_some.mpr ⟨a, ha, hap⟩)
    · exact h.tested m i r.seat (seat_some.mpr ⟨r, hr, rfl⟩)
    · exact fun hst => h.critical m hm i r.seat (seat_some.mpr ⟨r, hr, rfl⟩) (Set.notMem_empty i) hst
  · rintro ⟨⟨hports, ⟨hqn, hq⟩, ho, ⟨hfn, hf, ha⟩, hb, hu, hidle, hdrive, hbare⟩, hM⟩
    refine ⟨fun i j a b p hi hj hap hbp => ?_, hqn, fun i => ?_, ?_, hfn, fun i => ?_, fun i a hi => ?_, ?_,
      fun i a hi _ => ?_, fun i a p hi _ hap => ?_, fun p hp => ?_, fun m i a hi => ?_, fun m => (hM m).2.1,
      fun m hm i a hi _ hst => ?_⟩
    · exact hports i j p (portOf_some.mpr ⟨a, hi, hap⟩) (portOf_some.mpr ⟨b, hj, hbp⟩)
    · exact (hq i).trans (by simp [stOf_some])
    · rw [hrank]; exact ho
    · exact (hf i).trans (by simp [stOf_some])
    · obtain ⟨r, hr, rfl⟩ := seat_some.mp hi
      exact (ha i r hr).trans (by simp [Record.seat])
    · rw [hcur]; exact hb
    · obtain ⟨r, hr, rfl⟩ := seat_some.mp hi
      have h1 := hidle i r hr
      have h2 := hu i r hr
      change if s.supply.mode = .mains then r.st = .idle else (r.st = .idle ↔ r.port = none)
      split
      · next hm => rwa [if_pos hm] at h1
      · next hm =>
        rw [if_neg hm] at h1
        exact ⟨h1, h2⟩
    · obtain ⟨r, hr, rfl⟩ := seat_some.mp hi
      exact hdrive i r p hr hap
    · exact hbare p fun i hip => by
        obtain ⟨a, ha, hap⟩ := portOf_some.mp hip
        exact hp i a ha hap
    · obtain ⟨r, hr, rfl⟩ := seat_some.mp hi
      exact (hM m).1 i r hr
    · obtain ⟨r, hr, rfl⟩ := seat_some.mp hi
      exact (hM m).2.2 hm i r hr hst

/-! ### The admission queue in class order -/

/-- A member put behind those that go ahead of it. -/
def insertBehind (ahead : Idx → Bool) (i : Idx) (q : List Idx) : List Idx := q.takeWhile ahead ++ i :: q.dropWhile ahead

theorem insertBehind_perm (ahead : Idx → Bool) (i : Idx) (q : List Idx) : (insertBehind ahead i q).Perm (i :: q) := by
  unfold insertBehind
  exact (List.perm_middle).trans (by rw [List.takeWhile_append_dropWhile])

/-- A member put behind those of a rank at most its own, and ahead of the others, keeps the order of ranks. -/
theorem insertBehind_sorted {ahead : Idx → Bool} {i : Idx} {q : List Idx} {rank : Idx → Nat}
    (h1 : ∀ j, ahead j = true → rank j ≤ rank i) (h2 : ∀ j, ahead j = false → rank i ≤ rank j)
    (hs : (q.map rank).Pairwise (· ≤ ·)) : ((insertBehind ahead i q).map rank).Pairwise (· ≤ ·) := by
  rw [List.pairwise_map] at hs ⊢
  induction q with
  | nil => simp [insertBehind]
  | cons j q ih =>
    obtain ⟨hj, hq⟩ := List.pairwise_cons.mp hs
    cases ha : ahead j with
    | true =>
      have he : insertBehind ahead i (j :: q) = j :: insertBehind ahead i q := by simp [insertBehind, ha]
      rw [he, List.pairwise_cons]
      refine ⟨fun k hk => ?_, ih hq⟩
      rcases List.mem_cons.mp ((insertBehind_perm ahead i q).mem_iff.mp hk) with rfl | hk
      · exact h1 j ha
      · exact hj k hk
    | false =>
      have he : insertBehind ahead i (j :: q) = i :: j :: q := by simp [insertBehind, ha]
      rw [he, List.pairwise_cons]
      refine ⟨fun k hk => ?_, hs⟩
      rcases List.mem_cons.mp hk with rfl | hk
      · exact h2 k ha
      · exact (h2 j ha).trans (hj k hk)

/-- Members of equal rank in another view stand in the same order. -/
theorem sorted_congr {q : List Idx} {f g : Idx → Nat} (h : ∀ i ∈ q, f i = g i)
    (hs : (q.map g).Pairwise (· ≤ ·)) : (q.map f).Pairwise (· ≤ ·) := by
  rwa [List.map_congr_left h]

namespace Service

variable {M : Prop} {X T : Set Idx} {v w : Service}

/-! ### Seats -/

@[simp] theorem put_self (v : Service) (i : Idx) (a : Seat) : (v.put i a).seats i = some a := by simp [put]
theorem put_other (v : Service) {i j : Idx} (a : Seat) (h : j ≠ i) : (v.put i a).seats j = v.seats j := by
  simp [put, h]

theorem rank_put_other (v : Service) {i j : Idx} (a : Seat) (h : j ≠ i) : (v.put i a).rank j = v.rank j := by
  simp only [rank, put_other v a h]

theorem current_put_other (v : Service) {i j : Idx} (a : Seat) (h : j ≠ i) : (v.put i a).current j = v.current j := by
  simp only [current, put_other v a h]

/-- A seat of the same class keeps every rank. -/
theorem rank_put (v : Service) {i : Idx} {a b : Seat} (ha : v.seats i = some a) (hc : b.cls = a.cls) :
    (v.put i b).rank = v.rank := by
  funext j
  by_cases hj : j = i
  · subst hj; simp [rank, ha, hc]
  · exact rank_put_other v b hj

/-- A seat of the same admitted current keeps every current. -/
theorem current_put (v : Service) {i : Idx} {a b : Seat} (ha : v.seats i = some a) (hc : b.admitted = a.admitted) :
    (v.put i b).current = v.current := by
  funext j
  by_cases hj : j = i
  · subst hj; simp [current, ha, hc]
  · exact current_put_other v b hj

/-- Where a record keeps its port, ports stay unique. -/
theorem Law.ports_put (h : v.Law M X T) {i : Idx} {a b : Seat} (ha : v.seats i = some a) (hp : b.port = a.port) :
    ∀ j k c d p, (v.put i b).seats j = some c → (v.put i b).seats k = some d → c.port = some p → d.port = some p →
      j = k := by
  have key : ∀ j c, (v.put i b).seats j = some c → ∃ e, v.seats j = some e ∧ e.port = c.port := fun j c hc => by
    by_cases hj : j = i
    · subst hj
      rw [put_self] at hc
      cases hc
      exact ⟨a, ha, hp.symm⟩
    · exact ⟨c, (put_other v b hj).symm.trans hc, rfl⟩
  intro j k c d p hc hd hcp hdp
  obtain ⟨e, he, hep⟩ := key j c hc
  obtain ⟨f, hf, hfp⟩ := key k d hd
  exact h.ports j k e f p he hf (hep.trans hcp) (hfp.trans hdp)

/-- Where a record keeps its port, the bare ports stay bare. -/
theorem bare_put {i : Idx} {a b : Seat} (ha : v.seats i = some a) (hp : b.port = a.port) {p : Port}
    (h : ∀ j c, (v.put i b).seats j = some c → c.port ≠ some p) : ∀ j c, v.seats j = some c → c.port ≠ some p := by
  intro j c hc
  by_cases hj : j = i
  · subst hj
    cases ha.symm.trans hc
    exact hp ▸ h j b (put_self v j b)
  · exact h j c ((put_other v b hj).trans hc)

/-! ### Leaving service -/

/-- A record that is neither FED nor WAITING goes into transit. -/
theorem Law.lift (h : v.Law M X T) {i : Idx} (hi : ∀ a, v.seats i = some a → a.st ≠ .fed ∧ a.st ≠ .waiting) :
    v.Law M X (insert i T) where
  ports := h.ports
  queueNodup := h.queueNodup
  queue j := by
    rw [h.queue j]
    by_cases hj : j = i
    · subst hj
      exact ⟨fun ⟨_, a, ha, hw⟩ => absurd hw (hi a ha).2, fun ⟨hn, _⟩ => absurd (Set.mem_insert j T) hn⟩
    · simp [hj]
  order := h.order
  feedNodup := h.feedNodup
  feed j := by
    rw [h.feed j]
    by_cases hj : j = i
    · subst hj
      exact ⟨fun ⟨_, a, ha, hw⟩ => absurd hw (hi a ha).1, fun ⟨hn, _⟩ => absurd (Set.mem_insert j T) hn⟩
    · simp [hj]
  admitted j a ha := by
    rw [h.admitted j a ha]
    by_cases hj : j = i
    · subst hj
      exact ⟨fun ⟨_, hf⟩ => absurd hf (hi a ha).1, fun ⟨hn, _⟩ => absurd (Set.mem_insert j T) hn⟩
    · simp [hj]
  budget := h.budget
  idle j a ha hj := h.idle j a ha fun hT => hj (Set.mem_insert_of_mem i hT)
  level j a p ha hj := h.level j a p ha fun hT => hj (Set.mem_insert_of_mem i hT)
  bare := h.bare
  tested := h.tested
  still := h.still
  critical := h.critical

/-- A record taken off the queue and the feed list, with its admitted current absent. -/
def leave (v : Service) (i : Idx) (a : Seat) : Service :=
  { v.put i { a with admitted := none } with
    queue := v.queue.filter (· ≠ i), feedList := v.feedList.filter (· ≠ i) }

theorem sum_map_filter_le (l : List Idx) (f : Idx → Nat) (p : Idx → Bool) :
    ((l.filter p).map f).sum ≤ (l.map f).sum :=
  ((List.filter_sublist (p := p)).map f).sum_le_sum fun _ _ => Nat.zero_le _

/-- A record that gives up its place goes into transit (R87, R92). -/
theorem Law.leave (h : v.Law M X T) {i : Idx} {a : Seat} (ha : v.seats i = some a) :
    (v.leave i a).Law M X (insert i T) where
  ports := h.ports_put ha rfl
  queueNodup := h.queueNodup.filter _
  queue j := by
    show j ∈ v.queue.filter _ ↔ _
    rw [List.mem_filter, h.queue j]
    by_cases hj : j = i
    · subst hj; simp
    · simp [hj, Service.leave, put_other]
  order := by
    show ((v.queue.filter _).map (v.put i _).rank).Pairwise _
    rw [rank_put v (b := { a with admitted := none }) ha rfl]
    exact h.order.sublist ((List.filter_sublist).map _)
  feedNodup := h.feedNodup.filter _
  feed j := by
    show j ∈ v.feedList.filter _ ↔ _
    rw [List.mem_filter, h.feed j]
    by_cases hj : j = i
    · subst hj; simp
    · simp [hj, Service.leave, put_other]
  admitted j b hb := by
    by_cases hj : j = i
    · subst hj
      cases (put_self v j _).symm.trans hb
      simp
    · rw [h.admitted j b ((put_other v _ hj).symm.trans hb)]
      simp [hj]
  budget := by
    show ((v.feedList.filter _).map (v.put i _).current).sum ≤ v.cap
    refine le_trans (le_of_eq (congrArg List.sum (List.map_congr_left fun j hj => ?_)))
      ((sum_map_filter_le v.feedList v.current (fun j => decide (j ≠ i))).trans h.budget)
    exact current_put_other v _ (by simpa using (List.mem_filter.mp hj).2)
  idle j b hb hj := by
    have hji : j ≠ i := fun he => hj (he ▸ Set.mem_insert i T)
    exact h.idle j b ((put_other v _ hji).symm.trans hb) fun hT => hj (Set.mem_insert_of_mem i hT)
  level j b p hb hj := by
    have hji : j ≠ i := fun he => hj (he ▸ Set.mem_insert i T)
    exact h.level j b p ((put_other v _ hji).symm.trans hb) fun hT => hj (Set.mem_insert_of_mem i hT)
  bare p hp := h.bare p (bare_put (b := { a with admitted := none }) ha rfl hp)
  tested m j b hb := by
    by_cases hj : j = i
    · subst hj
      cases (put_self v j _).symm.trans hb
      exact h.tested m j a ha
    · exact h.tested m j b ((put_other v _ hj).symm.trans hb)
  still := h.still
  critical m hm j b hb hX hs := by
    by_cases hj : j = i
    · subst hj
      cases (put_self v j _).symm.trans hb
      exact h.critical m hm j a ha hX hs
    · exact h.critical m hm j b ((put_other v _ hj).symm.trans hb) hX hs

/-- Off the queue, off the feed list and without an admitted current there is nothing to leave. -/
theorem leave_eq {i : Idx} {a : Seat} (ha : v.seats i = some a) (hq : i ∉ v.queue) (hf : i ∉ v.feedList)
    (hn : a.admitted = none) : v.leave i a = v := by
  have hs : (v.put i { a with admitted := none }).seats = v.seats := by
    funext j
    by_cases hj : j = i
    · subst hj; rw [put_self, ha, ← hn]
    · exact put_other v _ hj
  have filter_self : ∀ l : List Idx, i ∉ l → l.filter (· ≠ i) = l := fun l hl =>
    List.filter_eq_self.mpr fun j hj => by
      have : j ≠ i := fun he => hl (he ▸ hj)
      simpa using this
  cases v
  simp only [Service.leave, Service.mk.injEq, filter_self _ hq, filter_self _ hf]
  simpa [put] using hs

/-! ### Entering a state -/

/-- `w` is `v` with the record of slot `i` moved to a state, its port's cell at the level of it (R6). -/
structure Moved (v w : Service) (i : Idx) (a : Seat) (st : RState) : Prop where
  seats : w.seats = (v.put i (Seat.moved st a)).seats
  feedList : w.feedList = v.feedList
  queue : w.queue = v.queue
  cap : w.cap = v.cap
  mode : w.mode = v.mode
  level : ∀ p, a.port = some p → w.drive p = driveFor v.mode st
  others : ∀ p, a.port ≠ some p → w.drive p = v.drive p ∧ w.run p = v.run p
  still : ∀ p, w.drive p = .off → w.run p = 0 ∨ v.drive p = .off ∧ w.run p = v.run p

theorem Moved.self {i : Idx} {a : Seat} {st : RState} (h : Moved v w i a st) :
    w.seats i = some (Seat.moved st a) := by rw [h.seats, put_self]

theorem Moved.other {i : Idx} {a : Seat} {st : RState} (h : Moved v w i a st) {j : Idx} (hj : j ≠ i) :
    w.seats j = v.seats j := by rw [h.seats, put_other v _ hj]

theorem Moved.rank {i : Idx} {a : Seat} {st : RState} (h : Moved v w i a st) (ha : v.seats i = some a) :
    w.rank = v.rank := by
  rw [← rank_put v (b := Seat.moved st a) ha rfl]
  funext j
  simp only [Service.rank, h.seats]

theorem Moved.current {i : Idx} {a : Seat} {st : RState} (h : Moved v w i a st) (ha : v.seats i = some a) :
    w.current = v.current := by
  rw [← current_put v (b := Seat.moved st a) ha rfl]
  funext j
  simp only [Service.current, h.seats]

/-- The parts of the laws that a move of any record in transit keeps, whatever it makes of the collections: those on
ports, bare cells, tests and CRITICAL, and those on the records that stay. -/
theorem Moved.laws {U : Set Idx} {i : Idx} {a : Seat} {st : RState} (hw : Moved v w i a st) (h : v.Law M X T)
    (ha : v.seats i = some a) (hT : i ∈ T)
    (hU : ∀ j, j ≠ i → (j ∈ U ↔ j ∈ T))
    (hid : i ∉ U → if v.mode = .mains then st = .idle else (st = .idle ↔ a.port = none)) (hfed : i ∉ U → st ≠ .fed)
    (hc : M → v.mode = .critical → i ∉ X → st.serving → a.cls = .lifeline) (q : List Idx)
    (hqn : q.Nodup) (hq : ∀ j, j ∈ q ↔ j ∉ U ∧ ∃ b, w.seats j = some b ∧ b.st = .waiting)
    (ho : (q.map v.rank).Pairwise (· ≤ ·)) : ({ w with queue := q } : Service).Law M X (U) where
  ports j k b c p hb hc := by
    rw [hw.seats] at hb hc
    exact h.ports_put (b := Seat.moved st a) ha rfl j k b c p hb hc
  queueNodup := hqn
  queue := hq
  order := by
    show (q.map w.rank).Pairwise _
    rw [hw.rank ha]; exact ho
  feedNodup := by show w.feedList.Nodup; rw [hw.feedList]; exact h.feedNodup
  feed j := by
    show j ∈ w.feedList ↔ _
    rw [hw.feedList, h.feed j]
    by_cases hj : j = i
    · subst hj
      constructor
      · exact fun ⟨hn, _⟩ => absurd hT hn
      · rintro ⟨hn, b, hb, hbf⟩
        cases hw.self.symm.trans hb
        exact absurd hbf (hfed hn)
    · show _ ↔ _ ∧ ∃ b, w.seats j = some b ∧ _
      rw [hw.other hj, hU j hj]
  admitted j b hb := by
    change w.seats j = some b at hb
    by_cases hj : j = i
    · subst hj
      cases hw.self.symm.trans hb
      have := h.admitted j a ha
      constructor
      · exact fun hs => absurd hT (this.mp hs).1
      · exact fun ⟨hn, hf⟩ => absurd hf (hfed hn)
    · rw [hw.other hj] at hb
      rw [h.admitted j b hb, hU j hj]
  budget := by
    show (w.feedList.map w.current).sum ≤ w.cap
    rw [hw.feedList, hw.current ha, hw.cap]; exact h.budget
  idle j b hb hj := by
    change w.seats j = some b at hb
    change if w.mode = .mains then _ else _
    rw [hw.mode]
    by_cases hji : j = i
    · subst hji
      cases hw.self.symm.trans hb
      exact hid hj
    · rw [hw.other hji] at hb
      exact h.idle j b hb fun hjT => hj ((hU j hji).mpr hjT)
  level j b p hb hj hbp := by
    change w.seats j = some b at hb
    show if b.st = .fed then w.drive p = .ramp ∨ w.drive p = .feed else w.drive p = driveFor w.mode b.st
    by_cases hji : j = i
    · subst hji
      cases hw.self.symm.trans hb
      rw [if_neg (show (Seat.moved st a).st ≠ .fed from hfed hj), hw.mode]
      exact hw.level p hbp
    · rw [hw.other hji] at hb
      have hne : a.port ≠ some p := fun hap => hji (h.ports j i b a p hb ha hbp hap)
      rw [(hw.others p hne).1, hw.mode]
      exact h.level j b p hb (fun hjT => hj ((hU j hji).mpr hjT)) hbp
  bare p hpn := by
    have hv := bare_put ha (b := Seat.moved st a) rfl (p := p) fun j c hc' => hpn j c (by
      show w.seats j = some c
      rw [hw.seats]; exact hc')
    show w.drive p = .off
    rw [(hw.others p (hv i a ha)).1]
    exact h.bare p hv
  tested m j b hb := by
    change w.seats j = some b at hb
    by_cases hji : j = i
    · subst hji
      cases hw.self.symm.trans hb
      have ht := h.tested m j a ha
      simp only [Seat.moved]
      split
      · next he => rw [← he]; exact ht
      · simp
    · rw [hw.other hji] at hb
      exact h.tested m j b hb
  still m p hd := by
    obtain h1 | ⟨h1, h2⟩ := hw.still p hd
    · exact h1
    · exact h2.trans (h.still m p h1)
  critical m hcr j b hb hX hs := by
    change w.seats j = some b at hb
    change w.mode = _ at hcr
    rw [hw.mode] at hcr
    by_cases hji : j = i
    · subst hji
      cases hw.self.symm.trans hb
      exact hc m hcr hX hs
    · rw [hw.other hji] at hb
      exact h.critical m hcr j b hb hX hs

/-- A record in transit enters a state that takes no place of the arbiter's (R7). -/
theorem Law.moved {i : Idx} {a : Seat} {st : RState} (h : v.Law M X T) (hw : Moved v w i a st)
    (ha : v.seats i = some a) (hT : i ∈ T)
    (hid : if v.mode = .mains then st = .idle else (st = .idle ↔ a.port = none))
    (hfed : st ≠ .fed) (hwait : st ≠ .waiting)
    (hc : M → v.mode = .critical → i ∉ X → st = .testing → a.cls = .lifeline) : w.Law M X (T \ {i}) := by
  refine hw.laws h ha hT (fun j hj => by simp [hj]) (fun _ => hid) (fun _ => hfed) (fun m hcr hX hs => hc m hcr hX ?_) w.queue ?_ (fun j => ?_) ?_
  · exact (hs.resolve_left hfed).resolve_left hwait
  · rw [hw.queue]; exact h.queueNodup
  · rw [hw.queue, h.queue j]
    by_cases hj : j = i
    · subst hj
      constructor
      · exact fun ⟨hn, _⟩ => absurd hT hn
      · rintro ⟨-, b, hb, hbw⟩
        cases hw.self.symm.trans hb
        exact absurd hbw hwait
    · rw [hw.other hj]
      simp [hj]
  · rw [hw.queue]; exact h.order

/-- A record in transit moves, and stays in transit. -/
theorem Law.shift {i : Idx} {a : Seat} {st : RState} (h : v.Law M X T) (hw : Moved v w i a st) (ha : v.seats i = some a)
    (hT : i ∈ T) (hc : M → v.mode = .critical → i ∉ X → st.serving → a.cls = .lifeline) : w.Law M X T := by
  refine hw.laws h ha hT (fun _ _ => Iff.rfl) (fun hn => absurd hT hn) (fun hn => absurd hT hn) hc w.queue ?_ (fun j => ?_) ?_
  · rw [hw.queue]; exact h.queueNodup
  · rw [hw.queue, h.queue j]
    by_cases hj : j = i
    · subst hj
      exact ⟨fun ⟨hn, _⟩ => absurd hT hn, fun ⟨hn, _⟩ => absurd hT hn⟩
    · rw [hw.other hj]
  · rw [hw.queue]; exact h.order

/-- A record in transit enters WAITING and joins the queue in class order (R86, R95). -/
theorem Law.waits {i : Idx} {a : Seat} {ahead : Idx → Bool} (h : v.Law M X T) (hw : Moved v w i a .waiting)
    (ha : v.seats i = some a) (hT : i ∈ T) (hp : a.port ≠ none) (hm : v.mode ≠ .mains)
    (hc : M → v.mode = .critical → i ∉ X → a.cls = .lifeline)
    (h1 : ∀ j, ahead j = true → v.rank j ≤ v.rank i) (h2 : ∀ j, ahead j = false → v.rank i ≤ v.rank j) :
    ({ w with queue := insertBehind ahead i v.queue } : Service).Law M X (T \ {i}) := by
  have hiq : i ∉ v.queue := fun hi => ((h.queue i).mp hi).1 hT
  refine hw.laws h ha hT (fun j hj => by simp [hj]) (fun _ => by rw [if_neg hm]; simp [hp]) (fun _ => by decide) (fun m hcr hX _ => hc m hcr hX) _ ?_ (fun j => ?_)
    (insertBehind_sorted h1 h2 h.order)
  · exact (insertBehind_perm ahead i v.queue).nodup_iff.mpr (List.nodup_cons.mpr ⟨hiq, h.queueNodup⟩)
  · rw [(insertBehind_perm ahead i v.queue).mem_iff, List.mem_cons, h.queue j]
    by_cases hj : j = i
    · subst hj
      simp [hw.self, Seat.moved]
    · rw [hw.other hj]
      simp [hj]

/-! ### Admission (R90) -/

/-- A WAITING record is admitted: it leaves the queue for the tail of the feed list, with a current that fits. -/
theorem Law.admits {i : Idx} {a : Seat} {n : Nat} (h : v.Law M X ∅) (ha : v.seats i = some a) (hst : a.st = .waiting)
    (hbudget : n + (v.feedList.map v.current).sum ≤ v.cap)
    (hs : w.seats = (v.put i ⟨a.port, a.cls, .fed, some n, false⟩).seats) (hf : w.feedList = v.feedList ++ [i])
    (hq : w.queue = v.queue.filter (· ≠ i)) (hcap : w.cap = v.cap) (hmode : w.mode = v.mode)
    (hl : ∀ p, a.port = some p → w.drive p = .ramp) (ho : ∀ p, a.port ≠ some p → w.drive p = v.drive p)
    (hr : ∀ p, w.drive p = .off → w.run p = 0 ∨ v.drive p = .off ∧ w.run p = v.run p) : w.Law M X ∅ := by
  have hself : w.seats i = some ⟨a.port, a.cls, .fed, some n, false⟩ := by rw [hs, put_self]
  have hother : ∀ j, j ≠ i → w.seats j = v.seats j := fun j hj => by rw [hs, put_other v _ hj]
  have hif : i ∉ v.feedList := fun hi => by
    obtain ⟨-, b, hb, hbf⟩ := (h.feed i).mp hi
    cases ha.symm.trans hb
    rw [hst] at hbf
    cases hbf
  have hseat : ∀ j b, w.seats j = some b → ∃ c, v.seats j = some c ∧ c.port = b.port ∧ c.cls = b.cls := fun j b hb => by
    by_cases hj : j = i
    · subst hj
      cases hself.symm.trans hb
      exact ⟨a, ha, rfl, rfl⟩
    · exact ⟨b, (hother j hj).symm.trans hb, rfl, rfl⟩
  have hbound : a.port ≠ none ∧ v.mode ≠ .mains := by
    have := h.idle i a ha (Set.notMem_empty i)
    split at this
    · rw [hst] at this; cases this
    · next hm => exact ⟨fun hn => (by rw [hst] at this; cases this.mpr hn), hm⟩
  constructor
  · intro j k b c p hb hc hbp hcp
    obtain ⟨b', hb', hbp', -⟩ := hseat j b hb
    obtain ⟨c', hc', hcp', -⟩ := hseat k c hc
    exact h.ports j k b' c' p hb' hc' (hbp'.trans hbp) (hcp'.trans hcp)
  · rw [hq]; exact h.queueNodup.filter _
  · intro j
    rw [hq, List.mem_filter, h.queue j]
    by_cases hj : j = i
    · subst hj
      simp [hself]
    · simp [hj, hother j hj]
  · rw [hq]
    refine sorted_congr (g := v.rank) (fun j hj => ?_) (h.order.sublist ((List.filter_sublist).map _))
    have hji : j ≠ i := by simpa using (List.mem_filter.mp hj).2
    simp only [Service.rank, hother j hji]
  · rw [hf]
    exact List.nodup_append.mpr ⟨h.feedNodup, List.nodup_singleton i, fun x hx y hy he => by
      rw [List.mem_singleton] at hy
      exact hif (hy ▸ he ▸ hx)⟩
  · intro j
    rw [hf, List.mem_append, h.feed j, List.mem_singleton]
    by_cases hj : j = i
    · subst hj; simp [hself]
    · simp [hj, hother j hj]
  · intro j b hb
    by_cases hj : j = i
    · subst hj
      cases hself.symm.trans hb
      simp
    · exact h.admitted j b ((hother j hj).symm.trans hb)
  · rw [hf, hcap, List.map_append, List.sum_append]
    have h1 : v.feedList.map w.current = v.feedList.map v.current := List.map_congr_left fun j hj => by
      have hji : j ≠ i := fun he => hif (he ▸ hj)
      simp only [Service.current, hother j hji]
    have h2 : w.current i = n := by simp [Service.current, hself]
    rw [h1]
    simpa [h2, Nat.add_comm] using hbudget
  · intro j b hb _
    rw [hmode, if_neg hbound.2]
    by_cases hj : j = i
    · subst hj
      cases hself.symm.trans hb
      exact ⟨fun he => (by cases he), fun he => absurd he hbound.1⟩
    · have := h.idle j b ((hother j hj).symm.trans hb) (Set.notMem_empty j)
      rwa [if_neg hbound.2] at this
  · intro j b p hb _ hbp
    by_cases hj : j = i
    · subst hj
      cases hself.symm.trans hb
      rw [if_pos rfl]
      exact .inl (hl p hbp)
    · rw [hother j hj] at hb
      have hne : a.port ≠ some p := fun hap => hj (h.ports j i b a p hb ha hbp hap)
      rw [ho p hne, hmode]
      exact h.level j b p hb (Set.notMem_empty j) hbp
  · intro p hp
    have hv : ∀ j c, v.seats j = some c → c.port ≠ some p := fun j c hc => by
      by_cases hj : j = i
      · subst hj
        cases ha.symm.trans hc
        exact fun hap => hp j _ hself hap
      · exact hp j c ((hother j hj).trans hc)
    rw [ho p (hv i a ha)]
    exact h.bare p hv
  · intro m j b hb
    by_cases hj : j = i
    · subst hj
      cases hself.symm.trans hb
      simp
    · exact h.tested m j b ((hother j hj).symm.trans hb)
  · intro m p hd
    obtain h1 | ⟨h1, h2⟩ := hr p hd
    · exact h1
    · exact h2.trans (h.still m p h1)
  · intro m hcr j b hb hX hsv
    rw [hmode] at hcr
    by_cases hj : j = i
    · subst hj
      cases hself.symm.trans hb
      exact h.critical m hcr j a ha hX (.inr (.inl hst))
    · exact h.critical m hcr j b ((hother j hj).symm.trans hb) hX hsv

/-! ### Cells -/

/-- Only FED orders RAMP (R6). -/
theorem driveFor_ne_ramp (m : Mode) {st : RState} (h : st ≠ .fed) : driveFor m st ≠ .ramp := by
  cases st <;> simp [driveFor] at h ⊢
  split <;> simp

/-- The cell of a record in transit is turned off (R51). -/
theorem Law.cellOff (h : v.Law M X T) {i : Idx} {a : Seat} {p : Port} (ha : v.seats i = some a) (hap : a.port = some p)
    (hi : i ∈ T) {D : Port → Drive} {R : Port → Nat} (hp : D p = .off ∧ R p = 0)
    (ho : ∀ q, q ≠ p → D q = v.drive q ∧ R q = v.run q) : ({ v with drive := D, run := R } : Service).Law M X T :=
  { h with
    level := fun j b q hb hj hbq => by
      have hq : q ≠ p := fun he => hj (h.ports i j a b p ha hb hap (he ▸ hbq) ▸ hi)
      show if b.st = .fed then D q = .ramp ∨ D q = .feed else D q = driveFor v.mode b.st
      rw [(ho q hq).1]
      exact h.level j b q hb hj hbq
    bare := fun q hq => by
      by_cases he : q = p
      · exact he ▸ hp.1
      · exact (ho q he).1.trans (h.bare q hq)
    still := fun m q hd => by
      by_cases he : q = p
      · exact he ▸ hp.2
      · exact (ho q he).2.trans (h.still m q ((ho q he).1.symm.trans hd)) }

/-- Levels and presence runs that change within what the laws ask: a fed record's cell may pass from RAMP to FEED, and a
cell in OFF counts nothing. -/
theorem Law.cells {D : Port → Drive} {R : Port → Nat} (h : v.Law M X T)
    (hD : ∀ p, D p = v.drive p ∨ v.drive p = .ramp ∧ D p = .feed)
    (hR : ∀ p, v.drive p = .off → R p = 0 ∨ R p = v.run p) :
    ({ v with drive := D, run := R } : Service).Law M X T :=
  { h with
    level := fun i a p ha hi hap => by
      have hl := h.level i a p ha hi hap
      obtain he | ⟨hr, hf⟩ := hD p
      · show if a.st = .fed then D p = .ramp ∨ D p = .feed else D p = driveFor v.mode a.st
        rw [he]; exact hl
      · show if a.st = .fed then D p = .ramp ∨ D p = .feed else D p = driveFor v.mode a.st
        split
        · exact .inr hf
        · next hst =>
          rw [if_neg hst, hr] at hl
          exact absurd hl.symm (driveFor_ne_ramp v.mode hst)
    bare := fun p hp => by
      have hb := h.bare p hp
      obtain he | ⟨hr, -⟩ := hD p
      · exact he.trans hb
      · rw [hb] at hr; cases hr
    still := fun m p hd => by
      obtain he | ⟨-, hf⟩ := hD p
      · have hv : v.drive p = .off := he.symm.trans hd
        obtain h0 | h0 := hR p hv
        · exact h0
        · exact h0.trans (h.still m p hv)
      · exact absurd (hf.symm.trans hd) (by decide) }

/-! ### Slots that come and go -/

/-- A free slot is in transit or not as one likes. -/
theorem Law.free (h : v.Law M X T) {i : Idx} (hi : v.seats i = none) : v.Law M X (T \ {i}) := by
  have hT : ∀ j a, v.seats j = some a → (j ∉ T ↔ j ∉ T \ {i}) := fun j a ha => by
    have : j ≠ i := fun he => by rw [he, hi] at ha; cases ha
    simp [this]
  exact { h with
    queue := fun j => (h.queue j).trans
      ⟨fun ⟨h1, a, h2, h3⟩ => ⟨(hT j a h2).mp h1, a, h2, h3⟩, fun ⟨h1, a, h2, h3⟩ => ⟨(hT j a h2).mpr h1, a, h2, h3⟩⟩
    feed := fun j => (h.feed j).trans
      ⟨fun ⟨h1, a, h2, h3⟩ => ⟨(hT j a h2).mp h1, a, h2, h3⟩, fun ⟨h1, a, h2, h3⟩ => ⟨(hT j a h2).mpr h1, a, h2, h3⟩⟩
    admitted := fun j a ha => by rw [← hT j a ha]; exact h.admitted j a ha
    idle := fun j a ha hj => h.idle j a ha ((hT j a ha).mpr hj)
    level := fun j a p ha hj => h.level j a p ha ((hT j a ha).mpr hj) }

/-- A record goes back into service where it stood: it holds no place of the arbiter's, and its cell is at its level. -/
theorem Law.stays {i : Idx} {a : Seat} (h : v.Law M X T) (ha : v.seats i = some a) (hT : i ∈ T)
    (hid : if v.mode = .mains then a.st = .idle else (a.st = .idle ↔ a.port = none)) (hfed : a.st ≠ .fed)
    (hwait : a.st ≠ .waiting) (hl : ∀ p, a.port = some p → v.drive p = driveFor v.mode a.st)
    (hc : M → v.mode = .critical → i ∉ X → a.st = .testing → a.cls = .lifeline) : v.Law M X (T \ {i}) := by
  refine h.moved (w := v) ⟨?_, rfl, rfl, rfl, rfl, hl, fun _ _ => ⟨rfl, rfl⟩, fun p hp => .inr ⟨hp, rfl⟩⟩ ha hT hid hfed hwait hc
  funext j
  by_cases hj : j = i
  · subst hj
    rw [put_self, ha]
    simp [Seat.moved]
  · rw [put_other v _ hj]

/-- A slot with no port takes a record that is IDLE, untested and without an admitted current, on a free port. -/
theorem Law.reseat (h : v.Law M X T) {i : Idx} {a : Seat} (hT : i ∉ T) (hi : ∀ b, v.seats i = some b → b.port = none ∧ b.st = .idle)
    (hst : a.st = .idle) (hn : a.admitted = none) (ht : M → a.tested = false)
    (hp : ∀ p, a.port = some p → ∀ j b, v.seats j = some b → b.port ≠ some p) : (v.put i a).Law M X (insert i T) := by
  have hiq : i ∉ v.queue := fun hq => by
    obtain ⟨-, b, hb, hw⟩ := (h.queue i).mp hq
    rw [(hi b hb).2] at hw
    cases hw
  have hif : i ∉ v.feedList := fun hf => by
    obtain ⟨-, b, hb, hw⟩ := (h.feed i).mp hf
    rw [(hi b hb).2] at hw
    cases hw
  refine { h with
    ports := fun j k b c p hb hc hbp hcp => ?_, queue := fun j => ?_, order := ?_, feed := fun j => ?_,
    admitted := fun j b hb => ?_, budget := ?_, idle := fun j b hb hj => ?_, level := fun j b p hb hj => ?_,
    bare := fun p hpn => ?_, tested := fun m j b hb => ?_, critical := fun m hm j b hb hX hs => ?_ }
  · by_cases hj : j = i <;> by_cases hk : k = i
    · exact hj.trans hk.symm
    · subst hj
      cases (put_self v j a).symm.trans hb
      exact absurd hcp (hp p hbp k c ((put_other v a hk).symm.trans hc))
    · subst hk
      cases (put_self v k a).symm.trans hc
      exact absurd hbp (hp p hcp j b ((put_other v a hj).symm.trans hb))
    · exact h.ports j k b c p ((put_other v a hj).symm.trans hb) ((put_other v a hk).symm.trans hc) hbp hcp
  · by_cases hj : j = i
    · subst hj
      exact ⟨fun hq => absurd hq hiq, fun ⟨hn, _⟩ => absurd (Set.mem_insert j T) hn⟩
    · rw [put_other v a hj]
      exact (h.queue j).trans (by simp [hj])
  · exact sorted_congr (fun j hj => rank_put_other v a fun he => hiq (he ▸ hj)) h.order
  · by_cases hj : j = i
    · subst hj
      exact ⟨fun hq => absurd hq hif, fun ⟨hn, _⟩ => absurd (Set.mem_insert j T) hn⟩
    · rw [put_other v a hj]
      exact (h.feed j).trans (by simp [hj])
  · by_cases hj : j = i
    · subst hj
      cases (put_self v j a).symm.trans hb
      simp [hn]
    · rw [h.admitted j b ((put_other v a hj).symm.trans hb)]
      simp [hj]
  · show (v.feedList.map (v.put i a).current).sum ≤ v.cap
    rw [List.map_congr_left fun j hj => current_put_other v a (i := i) fun he => hif (by rw [← he]; exact hj)]
    exact h.budget
  · have hji : j ≠ i := fun he => hj (he ▸ Set.mem_insert i T)
    exact h.idle j b ((put_other v a hji).symm.trans hb) fun hjT => hj (Set.mem_insert_of_mem i hjT)
  · have hji : j ≠ i := fun he => hj (he ▸ Set.mem_insert i T)
    exact h.level j b p ((put_other v a hji).symm.trans hb) fun hjT => hj (Set.mem_insert_of_mem i hjT)
  · refine h.bare p fun j b hb => ?_
    by_cases hj : j = i
    · subst hj
      rw [(hi b hb).1]
      exact nofun
    · exact hpn j b ((put_other v a hj).trans hb)
  · by_cases hj : j = i
    · subst hj
      cases (put_self v j a).symm.trans hb
      simp [ht m, hst]
    · exact h.tested m j b ((put_other v a hj).symm.trans hb)
  · by_cases hj : j = i
    · subst hj
      cases (put_self v j a).symm.trans hb
      rw [RState.serving, hst] at hs
      simp at hs
    · exact h.critical m hm j b ((put_other v a hj).symm.trans hb) hX hs

/-- A record in transit gives up its port, and its slot or its state with it (R21, R24): its cell goes OFF. -/
theorem Law.vacate (h : v.Law M X T) {i : Idx} {a : Seat} (ha : v.seats i = some a) (hT : i ∈ T)
    (hs : ∀ j, j ≠ i → w.seats j = v.seats j)
    (hi : ∀ b, w.seats i = some b → b.port = none ∧ b.st = .idle ∧ b.admitted = none ∧ (M → b.tested = false))
    (hf : w.feedList = v.feedList) (hq : w.queue = v.queue) (hcap : w.cap = v.cap) (hmode : w.mode = v.mode)
    (hp : ∀ p, a.port = some p → w.drive p = .off) (ho : ∀ p, a.port ≠ some p → w.drive p = v.drive p)
    (hr : ∀ p, w.drive p = .off → w.run p = 0 ∨ v.drive p = .off ∧ w.run p = v.run p) : w.Law M X (T \ {i}) := by
  have hiq : i ∉ v.queue := fun hq => ((h.queue i).mp hq).1 hT
  have hif : i ∉ v.feedList := fun hf => ((h.feed i).mp hf).1 hT
  refine ⟨fun j k b c p hb hc hbp hcp => ?_, hq ▸ h.queueNodup, fun j => ?_, ?_, hf ▸ h.feedNodup, fun j => ?_,
    fun j b hb => ?_, ?_, fun j b hb hj => ?_, fun j b p hb hj hbp => ?_, fun p hpn => ?_, fun m j b hb => ?_,
    fun m p hd => ?_, fun m hm j b hb hX hsv => ?_⟩
  · have hn : ∀ j b, w.seats j = some b → b.port = some p → j ≠ i := fun j b hb hbp he => by
      rw [(hi b (he ▸ hb)).1] at hbp
      cases hbp
    exact h.ports j k b c p (hs j (hn j b hb hbp) ▸ hb) (hs k (hn k c hc hcp) ▸ hc) hbp hcp
  · rw [hq, h.queue j]
    by_cases hj : j = i
    · subst hj
      refine ⟨fun ⟨hn, _⟩ => absurd hT hn, fun ⟨_, b, hb, hw⟩ => ?_⟩
      rw [(hi b hb).2.1] at hw
      cases hw
    · simp [hj, hs j hj]
  · rw [hq]
    refine sorted_congr (g := v.rank) (fun j hj => ?_) h.order
    simp only [rank, hs j fun he => hiq (he ▸ hj)]
  · rw [hf, h.feed j]
    by_cases hj : j = i
    · subst hj
      refine ⟨fun ⟨hn, _⟩ => absurd hT hn, fun ⟨_, b, hb, hw⟩ => ?_⟩
      rw [(hi b hb).2.1] at hw
      cases hw
    · simp [hj, hs j hj]
  · by_cases hj : j = i
    · subst hj
      simp [(hi b hb).2.1, (hi b hb).2.2.1]
    · rw [h.admitted j b (hs j hj ▸ hb)]
      simp [hj]
  · rw [hf, hcap, List.map_congr_left (g := v.current) fun j hj => ?_]
    · exact h.budget
    · simp only [current, hs j fun he => hif (he ▸ hj)]
  · rw [hmode]
    by_cases hji : j = i
    · subst hji
      simp [(hi b hb).1, (hi b hb).2.1]
    · exact h.idle j b (hs j hji ▸ hb) fun hjT => hj ⟨hjT, hji⟩
  · have hji : j ≠ i := fun he => by
      rw [(hi b (he ▸ hb)).1] at hbp
      cases hbp
    have hb' := hs j hji ▸ hb
    rw [ho p fun hap => hji (h.ports j i b a p hb' ha hbp hap), hmode]
    exact h.level j b p hb' (fun hjT => hj ⟨hjT, hji⟩) hbp
  · by_cases hap : a.port = some p
    · exact hp p hap
    · rw [ho p hap]
      refine h.bare p fun j b hb => ?_
      by_cases hj : j = i
      · subst hj
        cases ha.symm.trans hb
        exact hap
      · exact hpn j b ((hs j hj).trans hb)
  · by_cases hj : j = i
    · subst hj
      simp [(hi b hb).2.1, (hi b hb).2.2.2 m]
    · exact h.tested m j b (hs j hj ▸ hb)
  · obtain h1 | ⟨h1, h2⟩ := hr p hd
    · exact h1
    · exact h2.trans (h.still m p h1)
  · by_cases hj : j = i
    · subst hj
      rw [RState.serving, (hi b hb).2.1] at hsv
      simp at hsv
    · exact h.critical m (hmode ▸ hm) j b (hs j hj ▸ hb) hX hsv

/-- A record off the queue changes its class; what CRITICAL asks of it is then open. -/
theorem Law.recls (h : v.Law M X T) {i : Idx} {a : Seat} (ha : v.seats i = some a) (hq : i ∉ v.queue) (c : Cls) :
    (v.put i { a with cls := c }).Law M (insert i X) T := by
  have hb' : ∀ j b, (v.put i { a with cls := c }).seats j = some b →
      ∃ d, v.seats j = some d ∧ d.port = b.port ∧ d.st = b.st ∧ d.admitted = b.admitted ∧ d.tested = b.tested ∧
        (j ≠ i → d = b) := fun j b hb => by
    by_cases hj : j = i
    · subst hj
      cases (put_self v j _).symm.trans hb
      exact ⟨a, ha, rfl, rfl, rfl, rfl, fun hn => absurd rfl hn⟩
    · exact ⟨b, (put_other v _ hj).symm.trans hb, rfl, rfl, rfl, rfl, fun _ => rfl⟩
  have hst : ∀ j st, (∃ b, (v.put i { a with cls := c }).seats j = some b ∧ b.st = st) ↔
      ∃ b, v.seats j = some b ∧ b.st = st := fun j st => by
    by_cases hj : j = i
    · subst hj; simp [ha]
    · rw [put_other v _ hj]
  refine { h with
    ports := h.ports_put (b := { a with cls := c }) ha rfl
    queue := fun j => (h.queue j).trans (and_congr_right fun _ => (hst j _).symm)
    order := sorted_congr (fun j hj => rank_put_other v _ fun he => hq (he ▸ hj)) h.order
    feed := fun j => (h.feed j).trans (and_congr_right fun _ => (hst j _).symm)
    admitted := fun j b hb => ?_, budget := ?_, idle := fun j b hb hj => ?_, level := fun j b p hb hj hbp => ?_
    bare := fun p hp => h.bare p (bare_put (b := { a with cls := c }) ha rfl hp)
    tested := fun m j b hb => ?_, critical := fun m hm j b hb hX hs => ?_ }
  · obtain ⟨d, hd, -, hds, hda, -, -⟩ := hb' j b hb
    rw [← hda, ← hds]; exact h.admitted j d hd
  · rw [current_put v (b := { a with cls := c }) ha rfl]; exact h.budget
  · obtain ⟨d, hd, hdp, hds, -, -, -⟩ := hb' j b hb
    rw [← hdp, ← hds]; exact h.idle j d hd hj
  · obtain ⟨d, hd, hdp, hds, -, -, -⟩ := hb' j b hb
    rw [← hds]; exact h.level j d p hd hj (hdp.trans hbp)
  · obtain ⟨d, hd, -, hds, -, hdt, -⟩ := hb' j b hb
    rw [← hds, ← hdt]; exact h.tested m j d hd
  · obtain ⟨d, hd, -, -, -, -, he⟩ := hb' j b hb
    have hji : j ≠ i := fun he => hX (he ▸ Set.mem_insert i X)
    have hdb := he hji
    rw [hdb] at hd
    exact h.critical m hm j b hd (fun hx => hX (Set.mem_insert_of_mem i hx)) hs

/-- What CRITICAL asks of a record is settled. -/
theorem Law.settled (h : v.Law M X T) {i : Idx}
    (hi : M → v.mode = .critical → ∀ a, v.seats i = some a → a.st.serving → a.cls = .lifeline) :
    v.Law M (X \ {i}) T :=
  { h with
    critical := fun m hm j a ha hX hs => by
      by_cases hj : j = i
      · subst hj; exact hi m hm a ha hs
      · exact h.critical m hm j a ha (fun hx => hX ⟨hx, hj⟩) hs }

end Service

end Sys2Proof.Machine
end

section
/-! The service view under the operations of the model: what leaves it alone, and how a state entry, a place in the queue
and an admission change it. -/

namespace Sys2Proof.Machine

open Sys2Proof

/-! ### What leaves the service view alone -/

theorem seats_setRec {i j : Idx} {r : Option Record} {s : State} :
    (setRec i r s).service.seats j = if j = i then r.map Record.seat else s.service.seats j := by
  simp only [State.service, rec?_setRec]
  split <;> rfl

theorem service_setRec {i : Idx} {r q : Record} {s : State} (hr : s.rec? i = some r) (hq : q.seat = r.seat) :
    (setRec i (some q) s).service = s.service := by
  have h : (setRec i (some q) s).service.seats = s.service.seats := by
    funext j
    rw [seats_setRec]
    split
    · next hj => subst hj; simp [State.service, hr, hq]
    · rfl
  unfold State.service at h ⊢
  simp only [Service.mk.injEq] at h ⊢
  exact ⟨h, rfl, rfl, rfl, rfl, rfl, rfl⟩

theorem service_updRec {f : Record → Record} (hf : ∀ r, (f r).seat = r.seat) (i : Idx) (s : State) :
    (updRec i f s).service = s.service := by
  unfold updRec
  cases hr : s.rec? i with
  | none => rfl
  | some r => exact service_setRec hr (hf r)

theorem service_updCell {p : Port} {f : Cell → Cell} {s : State}
    (hf : (f s.cells[p]).drive = s.cells[p].drive ∧ (f s.cells[p]).presRun = s.cells[p].presRun) :
    (updCell p f s).service = s.service := by
  have h : ∀ q : Port, (updCell p f s).cells[q].drive = s.cells[q].drive ∧
      (updCell p f s).cells[q].presRun = s.cells[q].presRun := fun q => by
    rw [cells_updCell]
    split
    · next hq => subst hq; exact hf
    · exact ⟨rfl, rfl⟩
  unfold State.service
  simp only [Service.mk.injEq]
  exact ⟨rfl, funext fun q => (h q).1, funext fun q => (h q).2, rfl, rfl, rfl, rfl⟩

theorem service_foldl {α : Type} (f : State → α → State) (h : ∀ s a, (f s a).service = s.service) (l : List α) (s : State) :
    (l.foldl f s).service = s.service := by
  induction l generalizing s with
  | nil => rfl
  | cons a l ih => rw [List.foldl_cons, ih, h]

@[simp] theorem service_callDecision (s : State) : (callDecision s).service = s.service := rfl
@[simp] theorem service_callPick (s : State) : (callPick s).service = s.service := rfl
@[simp] theorem service_clearNotes (s : State) : (clearNotes s).service = s.service := rfl
@[simp] theorem service_makeDue (ev : Event) (s : State) : (makeDue ev s).service = s.service := rfl
@[simp] theorem service_dropDue (ev : Event) (s : State) : (dropDue ev s).service = s.service := rfl

@[simp] theorem service_setCountdown (i : Idx) (f : Countdown → Countdown) (s : State) :
    (setCountdown i f s).service = s.service :=
  (service_dropDue _ _).trans (service_updRec (f := fun r => { r with cd := f r.cd }) (fun _ => rfl) i s)

@[simp] theorem service_setEngine (e : Engine) (g : Option Engagement) (s : State) :
    (setEngine e g s).service = s.service := by cases e <;> rfl

@[simp] theorem service_setLine (e : Engine) (l : List LineLevel) (s : State) : (setLine e l s).service = s.service := by
  cases e <;> rfl

@[simp] theorem service_takeBaseline (e : Engine) (s : State) : (takeBaseline e s).service = s.service := by
  unfold takeBaseline
  split
  · cases e <;> rfl
  · rfl

@[simp] theorem service_sendPart (e : Engine) (s : State) : (sendPart e s).service = s.service := by
  obtain h | ⟨g, n, -, -, -, h⟩ := sendPart_cases e s
  · rw [h]
  · rw [h]; cases e <;> rfl

@[simp] theorem service_sendPartOn (p : Port) (s : State) : (sendPartOn p s).service = s.service := by
  unfold sendPartOn; split <;> simp

@[simp] theorem service_cutLine (e : Engine) (s : State) : (cutLine e s).service = s.service := by
  unfold cutLine
  dsimp only
  split
  · split <;> simp
  · simp

@[simp] theorem service_failAttempt (e : Engine) (o : ExOutcome) (s : State) :
    (failAttempt e o s).service = s.service := by
  unfold failAttempt
  split
  · split <;> simp
  · rfl

@[simp] theorem service_linkAtLevelChange (p : Port) (l : Drive) (s : State) :
    (linkAtLevelChange p l s).service = s.service := by
  unfold linkAtLevelChange
  split
  · rfl
  · split
    · rfl
    · dsimp only; split <;> simp

@[simp] theorem service_restartCall (p : Option Port) (s : State) : (restartCall p s).service = s.service := by
  unfold restartCall
  split
  · exact service_updCell ⟨rfl, rfl⟩
  · rfl

@[simp] theorem service_freeEngine (e : Engine) (s : State) : (freeEngine e s).service = s.service := by
  unfold freeEngine; split <;> simp

@[simp] theorem service_dropPending (i : Idx) (s : State) : (dropPending i s).service = s.service :=
  service_updRec (f := fun r => { r with pend := none }) (fun _ => rfl) i s

@[simp] theorem service_ask (i : Idx) (x : Exchange) (s : State) : (ask i x s).service = s.service := by
  obtain ⟨-, h⟩ | ⟨r, hr, ⟨-, h⟩ | ⟨-, -, h⟩ | ⟨-, h⟩⟩ := ask_cases i x s
  · rw [h]
  · rw [h]
  · rw [h]; exact service_setRec hr rfl
  · rw [h, service_callPick]; exact service_setRec (q := { r with pend := some x }) hr rfl

@[simp] theorem service_order (k : ExKind) (i : Idx) (s : State) : (order k i s).service = s.service := service_ask ..

@[simp] theorem service_engage (e : Engine) (i : Idx) (s : State) : (engage e i s).service = s.service := by
  unfold engage
  split
  · rfl
  · split
    · rfl
    · simp

@[simp] theorem service_pickBoth (s : State) : (pickBoth s).service = s.service := by
  have hp : ∀ (e : Engine) (s : State), (pickFor e s).service = s.service := fun e s => by
    obtain h | ⟨i, -, -, h⟩ := pickFor_cases e s <;> simp [h]
  simp [pickBoth, hp]

theorem raise_seat (f : RecFlag) (r : Record) : (r.raise f).seat = r.seat := by unfold Record.raise; split <;> rfl

@[simp] theorem service_raiseFlag (i : Idx) (f : RecFlag) (s : State) : (raiseFlag i f s).service = s.service :=
  service_updRec (raise_seat f) i s

@[simp] theorem service_setTested (i : Idx) (o : TestOutcome) (s : State) : (setTested i o s).service = s.service :=
  service_updRec (f := Record.tested o) (fun r => raise_seat .tested r) i s

@[simp] theorem service_noteSent (i : Idx) (x : Exchange) (o : ExOutcome) (s : State) :
    (noteSent i x o s).service = s.service := by
  unfold noteSent
  split
  · exact service_updRec (f := Record.sentWith x.kind o) (fun r => raise_seat .sent r) i s
  · rfl

@[simp] theorem service_seenNow (i : Idx) (s : State) : (seenNow i s).service = s.service :=
  service_updRec (f := fun r => { r with lastSeen := some s.clock }) (fun _ => rfl) i s

@[simp] theorem service_linkFail (i : Idx) (s : State) : (linkFail i s).service = s.service := service_raiseFlag ..

@[simp] theorem service_abortEngine (o : ExOutcome) (e : Engine) (s : State) :
    (abortEngine o e s).service = s.service := by unfold abortEngine; split <;> simp

@[simp] theorem service_abortInFlight (o : ExOutcome) (i : Idx) (s : State) :
    (abortInFlight o i s).service = s.service := by unfold abortInFlight; split <;> simp

@[simp] theorem service_abandonTest (i : Idx) (s : State) : (abandonTest i s).service = s.service := by
  unfold abandonTest; split <;> simp

@[simp] theorem service_dropUnheard (i : Idx) (s : State) : (dropUnheard i s).service = s.service := by
  unfold dropUnheard
  split
  · split <;> simp
  · rfl

theorem service_allowance (i : Idx) (g : Nat → Nat) (s : State) :
    (updRec i (fun r => { r with allowance := g r.allowance }) s).service = s.service :=
  service_updRec (f := fun r => { r with allowance := g r.allowance }) (fun _ => rfl) i s

theorem service_takeReport (i : Idx) (p : Report) (n : Stamp) (s : State) :
    (updRec i (takeReport n p) s).service = s.service :=
  service_updRec (fun r => by simp [takeReport, Record.seat]) i s

/-! ### Drive orders and state entries -/

theorem toLevel_drive (n : Nat) (l : Drive) (c : Cell) : (c.toLevel n l).drive = l := by
  have hs : c.toSense.drive = .sense := by unfold Cell.toSense; split <;> rfl
  unfold Cell.toLevel
  split
  · assumption
  · cases l with
    | off => rfl
    | sense => exact hs
    | ramp => dsimp only; split <;> rfl
    | feed => rfl

/-- A cell that is OFF keeps its run where it was OFF, and has none otherwise (R47). -/
theorem toLevel_still (n : Nat) (l : Drive) (c : Cell) (h : (c.toLevel n l).drive = .off) :
    (c.toLevel n l).presRun = 0 ∨ c.drive = .off ∧ (c.toLevel n l).presRun = c.presRun := by
  rw [toLevel_drive] at h
  subst h
  unfold Cell.toLevel
  split
  · next hc => exact .inr ⟨hc, rfl⟩
  · exact .inl rfl

/-- A drive order changes its own cell alone, to the level ordered. -/
theorem cells_orderLevel (p q : Port) (n : Nat) (l : Drive) (s : State) :
    (orderLevel p n l s).service.drive q = (if q = p then l else s.service.drive q) ∧
    (q ≠ p → (orderLevel p n l s).service.run q = s.service.run q) ∧
    ((orderLevel p n l s).service.drive q = .off → (orderLevel p n l s).service.run q = 0 ∨
      s.service.drive q = .off ∧ (orderLevel p n l s).service.run q = s.service.run q) := by
  unfold orderLevel
  split
  · next hl =>
    refine ⟨?_, fun _ => rfl, fun hd => .inr ⟨hd, rfl⟩⟩
    split
    · next hq => subst hq; exact hl
    · rfl
  · rw [service_linkAtLevelChange]
    have hc : (sendPartOn p s).service = s.service := service_sendPartOn p s
    have hd : ∀ q : Port, (sendPartOn p s).cells[q].drive = s.service.drive q := fun q =>
      congrFun (congrArg Service.drive hc) q
    have hr : ∀ q : Port, (sendPartOn p s).cells[q].presRun = s.service.run q := fun q =>
      congrFun (congrArg Service.run hc) q
    simp only [State.service, cells_updCell] at hd hr ⊢
    by_cases hq : q = p
    · subst hq
      simp only [if_true]
      refine ⟨toLevel_drive n l _, fun hn => absurd rfl hn, fun h => ?_⟩
      rw [← hd, ← hr]
      exact toLevel_still n l _ h
    · simp only [hq, if_false, hd, hr]
      exact ⟨trivial, fun _ => trivial, fun h => .inr ⟨h, trivial⟩⟩

/-- A drive order leaves the rest of the service view alone. -/
theorem service_orderLevel (p : Port) (n : Nat) (l : Drive) (s : State) :
    (orderLevel p n l s).service =
      { s.service with drive := (orderLevel p n l s).service.drive, run := (orderLevel p n l s).service.run } := by
  unfold orderLevel
  split
  · rfl
  · rw [service_linkAtLevelChange]
    have hc : (sendPartOn p s).service = s.service := service_sendPartOn p s
    have : ∀ (f : Cell → Cell) (t : State), (updCell p f t).service =
        { t.service with drive := (updCell p f t).service.drive, run := (updCell p f t).service.run } := fun _ _ => rfl
    rw [this, hc]

/-- An order to a bound record's cell, at the level of its state: the record stays where it is (R6). -/
theorem moved_orderAt {i : Idx} {a : Seat} {s : State} (ha : s.service.seats i = some a) (n : Nat) (l : Drive)
    (hl : l = driveFor s.supply.mode a.st) :
    Service.Moved s.service (orderAt a.port n l s).service i a a.st := by
  have hself : s.service.seats = (s.service.put i (Seat.moved a.st a)).seats := by
    funext j
    by_cases hj : j = i
    · subst hj; rw [Service.put_self, ha]; simp [Seat.moved]
    · rw [Service.put_other _ _ hj]
  unfold orderAt
  cases hp : a.port with
  | none => exact ⟨hself, rfl, rfl, rfl, rfl, fun p h => absurd (hp.symm.trans h) nofun, fun _ _ => ⟨rfl, rfl⟩,
      fun p h => .inr ⟨h, rfl⟩⟩
  | some p =>
    have hs := service_orderLevel p n l s
    refine ⟨?_, ?_, ?_, ?_, ?_, fun q hq => ?_, fun q hq => ?_, fun q => (cells_orderLevel p q n l s).2.2⟩
    · rw [hs]; exact hself
    · rw [hs]
    · rw [hs]
    · rw [hs]
    · rw [hs]
    · cases hp.symm.trans hq
      rw [(cells_orderLevel p p n l s).1, if_pos rfl]; exact hl
    · have hqp : q ≠ p := fun he => hq (he ▸ hp)
      exact ⟨by rw [(cells_orderLevel p q n l s).1, if_neg hqp], (cells_orderLevel p q n l s).2.1 hqp⟩

theorem seats_enterSlot {b : Bool} {st : RState} {i : Idx} {r : Record} {s : State} (hst : r.st ≠ st) :
    (enterSlot b st i r s).service = s.service.put i (Seat.moved st r.seat) := by
  have h : (setRec i (some (enteredRec b st s r)) s).service = s.service.put i (Seat.moved st r.seat) := by
    have hseats : (setRec i (some (enteredRec b st s r)) s).service.seats =
        (s.service.put i (Seat.moved st r.seat)).seats := by
      funext j
      rw [seats_setRec]
      by_cases hj : j = i
      · subst hj
        have hne : r.seat.st ≠ st := hst
        simp only [if_true, Service.put_self, Option.map_some, Option.some.injEq, Seat.moved, hne, if_false]
        simp only [enteredRec, Record.seat, Seat.mk.injEq, true_and]
        split <;> simp_all
      · rw [if_neg hj, Service.put_other _ _ hj]
    unfold State.service at hseats ⊢
    simp only [Service.put, Service.mk.injEq] at hseats ⊢
    exact ⟨hseats, rfl, rfl, rfl, rfl, rfl, rfl⟩
  unfold enterSlot
  dsimp only
  split
  · rw [service_dropPending, service_dropDue, h]
  · rw [service_dropDue, h]

/-- A state entry moves the record to the state, its cell to the level of it (R6, R7). -/
theorem moved_enterState {b : Bool} {st : RState} {i : Idx} {a : Seat} {s : State} (ha : s.service.seats i = some a)
    (hst : a.st ≠ st) : Service.Moved s.service (enterState b st i s).service i a st := by
  obtain ⟨r, hr, rfl⟩ := seat_some.mp ha
  have hne : r.st ≠ st := hst
  rw [enterState_new hr hne]
  have hm : (enterSlot b st i r s).supply.mode = s.supply.mode :=
    congrArg Service.mode (seats_enterSlot (b := b) (i := i) (s := s) hne)
  have hs := seats_enterSlot (b := b) (i := i) (s := s) hne
  have hseat : (enterSlot b st i r s).service.seats i = some (Seat.moved st r.seat) := by rw [hs, Service.put_self]
  have ho := moved_orderAt hseat (r.admitted.getD 0) (driveFor s.supply.mode st) (by rw [hm]; rfl)
  have hport : (Seat.moved st r.seat).port = r.port := rfl
  rw [hport] at ho
  obtain ⟨h1, h2, h3, h4, h5, h6, h7, h8⟩ := ho
  refine ⟨?_, h2.trans (by rw [hs]; rfl), h3.trans (by rw [hs]; rfl), h4.trans (by rw [hs]; rfl),
    h5.trans (by rw [hs]; rfl), fun p hp => ?_, fun p hp => ?_, fun p hp => ?_⟩
  · rw [h1, hs]
    funext j
    by_cases hj : j = i
    · subst hj; simp [Seat.moved]
    · simp only [Service.put_other _ _ hj]
  · rw [h6 p hp, hs]; rfl
  · have := h7 p hp
    rw [hs] at this; exact this
  · have := h8 p hp
    rw [hs] at this; exact this

/-! ### Leaving service -/

namespace Service

/-- The record of slot `i`, bound and not in MAINS, is in transit: it has left its old state's service and has not entered
the next state's. -/
structure Transit (M : Prop) (X T : Set Idx) (i : Idx) (a : Seat) (v : Service) : Prop where
  law : v.Law M X (insert i T)
  seat : v.seats i = some a
  out : i ∉ T
  bound : a.port ≠ none
  awake : v.mode ≠ .mains

variable {M : Prop} {X T : Set Idx} {v w : Service} {i : Idx} {a : Seat}

theorem insert_diff (h : i ∉ T) : insert i T \ {i} = T := by
  ext j
  by_cases hj : j = i
  · subst hj; simp [h]
  · simp [hj]

theorem Transit.hid (h : Transit M X T i a v) {st : RState} (hst : st ≠ .idle) :
    if v.mode = .mains then st = .idle else (st = .idle ↔ a.port = none) := by
  rw [if_neg h.awake]
  exact ⟨fun he => absurd he hst, fun he => absurd he h.bound⟩

/-- The record enters a state that takes no place of the arbiter's. -/
theorem Transit.moved (h : Transit M X T i a v) {st : RState} (hw : Moved v w i a st) (hid : st ≠ .idle)
    (hfed : st ≠ .fed) (hwait : st ≠ .waiting) (hc : M → v.mode = .critical → i ∉ X → st = .testing → a.cls = .lifeline) :
    w.Law M X T := by
  have := h.law.moved hw h.seat (Set.mem_insert i T) (h.hid hid) hfed hwait hc
  rwa [insert_diff h.out] at this

/-- The record takes its place in the queue. -/
theorem Transit.waits (h : Transit M X T i a v) (hw : Moved v w i a .waiting) {ahead : Idx → Bool}
    (hc : M → v.mode = .critical → i ∉ X → a.cls = .lifeline)
    (h1 : ∀ j, ahead j = true → v.rank j ≤ v.rank i) (h2 : ∀ j, ahead j = false → v.rank i ≤ v.rank j) :
    ({ w with queue := insertBehind ahead i v.queue } : Service).Law M X T := by
  have := h.law.waits hw h.seat (Set.mem_insert i T) h.bound h.awake hc h1 h2
  rwa [insert_diff h.out] at this

/-- A record that is not IDLE is bound, outside MAINS (R8). -/
theorem Law.bound (h : v.Law M X T) (ha : v.seats i = some a) (hi : i ∉ T) (hst : a.st ≠ .idle) :
    a.port ≠ none ∧ v.mode ≠ .mains := by
  have := h.idle i a ha hi
  split at this
  · exact absurd this hst
  · next hm => exact ⟨fun hp => hst (this.mpr hp), hm⟩

/-- A record that holds no place of the arbiter's is in transit as it stands. -/
theorem Law.transit (h : v.Law M X T) (ha : v.seats i = some a) (hi : i ∉ T) (hst : a.st ≠ .idle) (hfed : a.st ≠ .fed)
    (hwait : a.st ≠ .waiting) : Transit M X T i a v :=
  have ⟨hb, hm⟩ := h.bound ha hi hst
  ⟨h.lift fun b hb => by cases ha.symm.trans hb; exact ⟨hfed, hwait⟩, ha, hi, hb, hm⟩

end Service

section Transit

variable {M : Prop} {X T : Set Idx} {s : State} {i : Idx} {a : Seat}

theorem stOf_seat (ha : s.service.seats i = some a) : s.stOf i = some a.st := stOf_some.mpr ⟨a, ha, rfl⟩

theorem service_releaseFeed (ha : s.service.seats i = some a) : (releaseFeed i s).service =
    { s.service.put i { a with admitted := none } with feedList := s.arbiter.feedList.filter (· ≠ i) } := by
  obtain ⟨r, hr, rfl⟩ := seat_some.mp ha
  have hu : updRec i (fun r => { r with admitted := none }) s = setRec i (some { r with admitted := none }) s := by
    simp [updRec, hr]
  have hs : (setRec i (some { r with admitted := none }) s).service.seats =
      (s.service.put i { r.seat with admitted := none }).seats := by
    funext j
    rw [seats_setRec]
    by_cases hj : j = i
    · subst hj; simp [Record.seat]
    · rw [if_neg hj, Service.put_other _ _ hj]
  unfold releaseFeed
  rw [hu]
  unfold State.service Service.put at hs ⊢
  simp only [Service.mk.injEq] at hs ⊢
  exact ⟨hs, rfl, rfl, rfl, rfl, rfl, rfl⟩

theorem filter_ne_self {l : List Idx} (h : i ∉ l) : l.filter (· ≠ i) = l :=
  List.filter_eq_self.mpr fun j hj => by
    have : j ≠ i := fun he => h (he ▸ hj)
    simpa using this

/-- What a record gives up when it leaves its state. -/
theorem service_leaveService (h : s.service.Law M X T) (ha : s.service.seats i = some a) (hi : i ∉ T) :
    (leaveService i s).service = s.service.leave i a := by
  have hq : a.st ≠ .waiting → i ∉ s.service.queue := fun hn hq => by
    obtain ⟨-, b, hb, hw⟩ := (h.queue i).mp hq
    cases ha.symm.trans hb
    exact hn hw
  have hf : a.st ≠ .fed → i ∉ s.service.feedList := fun hn hf => by
    obtain ⟨-, b, hb, hw⟩ := (h.feed i).mp hf
    cases ha.symm.trans hb
    exact hn hw
  have hn : a.st ≠ .fed → a.admitted = none := fun hn => by
    have := h.admitted i a ha
    cases hd : a.admitted with
    | none => rfl
    | some n => rw [hd] at this; exact absurd (this.mp rfl).2 hn
  unfold leaveService
  rw [stOf_seat ha]
  have key : a.st ≠ .fed → a.st ≠ .waiting → s.service = s.service.leave i a := fun h1 h2 =>
    (Service.leave_eq ha (hq h2) (hf h1) (hn h1)).symm
  cases hst : a.st with
  | fed =>
    have h1 := hq (by rw [hst]; decide)
    show (releaseFeed i s).service = _
    rw [service_releaseFeed ha, Service.leave, filter_ne_self h1]
    rfl
  | waiting =>
    have h1 := hf (by rw [hst]; decide)
    have h2 := hn (by rw [hst]; decide)
    show (leaveQueue i s).service = _
    rw [Service.leave, filter_ne_self h1]
    have hs : (s.service.put i { a with admitted := none }).seats = s.service.seats := by
      funext j
      by_cases hj : j = i
      · subst hj; rw [Service.put_self, ha, ← h2]
      · exact Service.put_other _ _ hj
    rw [hs]
    rfl
  | _ => exact key (by rw [hst]; decide) (by rw [hst]; decide)

/-- A record that leaves its state's service is in transit. -/
theorem transit_leaveService (h : s.service.Law M X T) (ha : s.service.seats i = some a) (hi : i ∉ T)
    (hst : a.st ≠ .idle) : Service.Transit M X T i { a with admitted := none } (leaveService i s).service := by
  rw [service_leaveService h ha hi]
  obtain ⟨hb, hm⟩ := h.bound ha hi hst
  exact ⟨h.leave ha, Service.put_self _ _ _, hi, hb, hm⟩

/-- FED: the record releases its feed into transit. -/
theorem transit_releaseFeed (h : s.service.Law M X T) (ha : s.service.seats i = some a) (hi : i ∉ T)
    (hst : a.st = .fed) : Service.Transit M X T i { a with admitted := none } (releaseFeed i s).service := by
  have he : leaveService i s = releaseFeed i s := by rw [leaveService, stOf_seat ha, hst]
  rw [← he]
  exact transit_leaveService h ha hi (by rw [hst]; decide)

/-! ### Entering the next state -/

/-- A record in transit enters a state without a place of the arbiter's. -/
theorem Service.Transit.enters (h : Service.Transit M X T i a s.service) (b : Bool) {st : RState} (hne : a.st ≠ st)
    (hid : st ≠ .idle) (hfed : st ≠ .fed) (hwait : st ≠ .waiting)
    (hc : M → s.supply.mode = .critical → i ∉ X → st = .testing → a.cls = .lifeline) :
    (enterState b st i s).service.Law M X T :=
  h.moved (moved_enterState h.seat hne) hid hfed hwait hc

/-- A record in transit enters WAITING at the tail of its class group (R86). -/
theorem Service.Transit.joinsTail (h : Service.Transit M X T i a s.service) (b : Bool) (hne : a.st ≠ .waiting)
    (hc : M → s.supply.mode = .critical → i ∉ X → a.cls = .lifeline) :
    (joinTail i (enterState b .waiting i s)).service.Law M X T := by
  have hm := moved_enterState (b := b) h.seat hne
  have hr : (enterState b .waiting i s).rankOf = s.service.rank :=
    (funext fun j => (service_rank _ j).symm).trans (hm.rank h.seat)
  have hq : (enterState b .waiting i s).arbiter.queue = s.service.queue := hm.queue
  have := h.waits hm (ahead := fun j => decide (s.service.rank j ≤ s.service.rank i)) hc (fun j hj => by simpa using hj)
    (fun j hj => by simp at hj; omega)
  have he : (joinTail i (enterState b .waiting i s)).service =
      { (enterState b .waiting i s).service with
        queue := insertBehind (fun j => decide (s.service.rank j ≤ s.service.rank i)) i s.service.queue } := by
    rw [← hr, ← hq]
    rfl
  rw [he]
  exact this

end Transit

end Sys2Proof.Machine
end

section
/-! The works on one record keep the laws of service: lapses and grants, tests, presence, calls, REPORTs, countdowns and
appointments. -/

namespace Sys2Proof.Machine

open Sys2Proof

/-! ### What a work reads of the service view -/

theorem stOf_congr {s t : State} (h : t.service = s.service) (i : Idx) : t.stOf i = s.stOf i := by
  have hs : ∀ s : State, s.stOf i = (s.service.seats i).map Seat.st := fun s => by
    simp only [State.stOf, State.service, Option.map_map]; rfl
  rw [hs, hs, h]

theorem mode_congr {s t : State} (h : t.service = s.service) : t.supply.mode = s.supply.mode := congrArg Service.mode h

theorem seat_of_rec {s : State} {i : Idx} {r : Record} (h : s.rec? i = some r) : s.service.seats i = some r.seat :=
  seat_some.mpr ⟨r, h, rfl⟩

theorem stOf_rec {s : State} {i : Idx} {r : Record} (h : s.rec? i = some r) : s.stOf i = some r.st := by
  simp [State.stOf, h]

/-- States that take no place of the arbiter's and no test. -/
def RState.plain (st : RState) : Bool :=
  match st with
  | .idle | .waiting | .fed | .testing => false
  | _ => true

theorem RState.plain_ne {st : RState} (h : st.plain = true) : st ≠ .idle ∧ st ≠ .fed ∧ st ≠ .waiting ∧ st ≠ .testing := by
  cases st <;> simp [RState.plain] at h ⊢

section Law

variable {M : Prop} {X T : Set Idx} {s t : State} {i : Idx} {x : RState}

/-- From a state without a place of the arbiter's into a plain one. -/
theorem law_enter (h : s.service.Law M X T) (hi : i ∉ T) (hx : s.stOf i = some x) (hid : x ≠ .idle) (hfed : x ≠ .fed)
    (hwait : x ≠ .waiting) (b : Bool) {st : RState} (hne : x ≠ st) (hst : st.plain = true) :
    (enterState b st i s).service.Law M X T := by
  obtain ⟨a, ha, rfl⟩ := stOf_some.mp hx
  obtain ⟨h1, h2, h3, h4⟩ := RState.plain_ne hst
  exact (h.transit ha hi hid hfed hwait).enters b hne h1 h2 h3 fun _ _ _ he => absurd he h4

/-- From any state but IDLE, its service left, into a plain one. -/
theorem law_reenter (h : s.service.Law M X T) (hi : i ∉ T) (hx : s.stOf i = some x) (hid : x ≠ .idle)
    (ht : t.service = (leaveService i s).service) (b : Bool) {st : RState} (hne : x ≠ st) (hst : st.plain = true) :
    (enterState b st i t).service.Law M X T := by
  obtain ⟨a, ha, rfl⟩ := stOf_some.mp hx
  obtain ⟨h1, h2, h3, h4⟩ := RState.plain_ne hst
  have hT := transit_leaveService h ha hi hid
  rw [← ht] at hT
  exact hT.enters b hne h1 h2 h3 fun _ _ _ he => absurd he h4

/-- In CRITICAL a record in service is LIFELINE. -/
theorem law_lifeline (h : s.service.Law M X T) (hx : s.stOf i = some x) (hsv : x.serving) {a : Seat}
    (ha : s.service.seats i = some a) : M → s.supply.mode = .critical → i ∉ X → a.cls = .lifeline := fun m hm hX => by
  obtain ⟨b, hb, rfl⟩ := stOf_some.mp hx
  cases ha.symm.trans hb
  exact h.critical m hm i a ha hX hsv

/-! ### Lapses, grants, and records that want feed -/

/-- From a state without a place of the arbiter's into WAITING. -/
theorem law_wait (h : s.service.Law M X T) (hi : i ∉ T) (hx : s.stOf i = some x) (hid : x ≠ .idle) (hfed : x ≠ .fed)
    (hwait : x ≠ .waiting)
    (hc : M → s.supply.mode = .critical → i ∉ X → ∀ a, s.service.seats i = some a → a.cls = .lifeline) :
    (joinTail i (enter .waiting i s)).service.Law M X T := by
  obtain ⟨a, ha, rfl⟩ := stOf_some.mp hx
  exact (h.transit ha hi hid hfed hwait).joinsTail false hwait fun m hm hX => hc m hm hX a ha

theorem law_leaveLapsed (h : s.service.Law M X T) (hi : i ∉ T) : (leaveLapsed i s).service.Law M X T := by
  unfold leaveLapsed
  cases hr : s.rec? i with
  | none => exact h
  | some r =>
    dsimp only
    split
    · next hl =>
      have hx : s.stOf i = some .lapsed := by rw [stOf_rec hr, hl.1]
      have hw := law_wait h hi hx (by decide) (by decide) (by decide)
      cases hm : s.supply.mode with
      | outage => exact hw fun _ he => by rw [hm] at he; cases he
      | critical =>
        dsimp only
        split
        · next hc =>
          refine hw fun _ _ _ a ha => ?_
          cases (seat_of_rec hr).symm.trans ha
          exact hc
        · exact law_enter h hi hx (by decide) (by decide) (by decide) false (by decide) rfl
      | mains => exact h
      | depleted => exact h
    · exact h

theorem law_grantTo (h : s.service.Law M X T) (hi : i ∉ T) (n : Nat) : (grantTo i n s).service.Law M X T := by
  cases hr : s.rec? i with
  | none => simpa [grantTo, hr] using h
  | some r =>
    rw [grantTo_record i n s r hr]
    refine law_leaveLapsed ?_ hi
    rw [service_allowance i (· + grantMoves r s.meter.pool n)]
    exact h

theorem law_topUp (h : s.service.Law M X T) (hi : i ∉ T) : (topUp i s).service.Law M X T := by
  unfold topUp
  split
  · exact h
  · dsimp only
    split
    · exact h
    · split
      · exact h
      · exact law_grantTo h hi _

theorem law_lapse (h : s.service.Law M X T) (hi : i ∉ T) (hx : s.stOf i = some x) (hid : x ≠ .idle) (hne : x ≠ .lapsed) :
    (lapse i s).service.Law M X T := by
  unfold lapse
  refine law_topUp ?_ hi
  rw [service_raiseFlag]
  exact law_reenter h hi hx hid rfl false hne rfl

/-- A record that wants feed, in a state where CRITICAL lets it (R139, R169, R170). -/
theorem law_wantFeed (h : s.service.Law M X T) (hi : i ∉ T) (hx : s.stOf i = some x) (hs : x = .carrying ∨ x = .testing)
    (hc : M → s.supply.mode = .critical → i ∉ X → ∀ a, s.service.seats i = some a → a.cls = .lifeline) :
    (wantFeed i s).service.Law M X T := by
  have hn : x ≠ .idle ∧ x ≠ .fed ∧ x ≠ .waiting ∧ x ≠ .lapsed := by rcases hs with rfl | rfl <;> decide
  unfold wantFeed
  split
  · exact h
  · split
    · exact law_wait h hi hx hn.1 hn.2.1 hn.2.2.1 hc
    · exact law_lapse h hi hx hn.1 hn.2.2.2

/-! ### Tests -/

theorem law_abandonForCall (h : s.service.Law M X T) (hi : i ∉ T) (hx : s.stOf i = some .testing) :
    (abandonForCall i s).service.Law M X T := by
  have key : ∀ t : State, t.service = s.service → (wantFeed i t).service.Law M X T := fun t ht => by
    have h' : t.service.Law M X T := by rw [ht]; exact h
    have hx' : t.stOf i = some .testing := (stOf_congr ht i).trans hx
    exact law_wantFeed h' hi hx' (.inr rfl) fun m hm hX a ha => law_lifeline h' hx' (.inr (.inr rfl)) ha m hm hX
  unfold abandonForCall
  dsimp only
  refine key _ ?_
  split
  · split <;> simp
  · simp

theorem law_enterTest (h : s.service.Law M X T) (hi : i ∉ T) (hx : s.stOf i = some .fed ∨ s.stOf i = some .carrying)
    (hm : s.supply.mode = .outage) : (enterTest i s).service.Law M X T := by
  unfold enterTest
  rw [service_ask]
  have key : ∀ x : RState, s.stOf i = some x → x ≠ .idle → x ≠ .testing →
      (enter .testing i (leaveService i s)).service.Law M X T := fun x hx hid hne => by
    obtain ⟨a, ha, rfl⟩ := stOf_some.mp hx
    have hT := transit_leaveService h ha hi hid
    refine hT.enters false hne (by decide) (by decide) (by decide) fun _ he => ?_
    have hmode : (leaveService i s).supply.mode = s.supply.mode := by rw [supply_of_outer (outer_leaveService i s)]
    rw [hmode, hm] at he
    cases he
  rcases hx with hx | hx
  · exact key _ hx (by decide) (by decide)
  · exact key _ hx (by decide) (by decide)

/-! ### Presence and calls -/

theorem law_presenceLoss (h : s.service.Law M X T) (hi : i ∉ T) : (presenceLoss i s).service.Law M X T := by
  have hs : (raiseFlag i .presence s).service = s.service := service_raiseFlag ..
  have h' : (raiseFlag i .presence s).service.Law M X T := by rw [hs]; exact h
  have lost : ∀ x : RState, (raiseFlag i .presence s).stOf i = some x → x ≠ .idle → x ≠ .silent →
      (presenceLoss.lost i (raiseFlag i .presence s)).service.Law M X T := fun x hx hid hne => by
    have hd : (dropPending i (abortInFlight .line i (raiseFlag i .presence s))).service =
        (raiseFlag i .presence s).service := by simp
    have hl := h'
    rw [← hd] at hl
    exact law_reenter hl hi ((stOf_congr hd i).trans hx) hid (service_abandonTest ..) false hne rfl
  unfold presenceLoss
  dsimp only
  split
  iterate 6 next hx => exact lost _ hx (by decide) (by decide)
  exact h'

theorem law_presenceGain (h : s.service.Law M X T) (hi : i ∉ T) : (presenceGain i s).service.Law M X T := by
  have hs : (seenNow i (raiseFlag i .presence s)).service = s.service := by simp
  have h' := h
  rw [← hs] at h'
  unfold presenceGain
  dsimp only
  split
  · next hc =>
    have hx : (seenNow i (raiseFlag i .presence s)).stOf i = some .silent := by
      simp only [State.isIn, Bool.and_eq_true, decide_eq_true_eq] at hc; exact hc.1
    have ha : (ask i ⟨.wake, 0, .policy⟩ (seenNow i (raiseFlag i .presence s))).service =
        (seenNow i (raiseFlag i .presence s)).service := service_ask ..
    refine law_enter ?_ hi ((stOf_congr ha i).trans hx) (by decide) (by decide) (by decide) false (by decide) rfl
    rw [ha]; exact h'
  · exact h'

theorem law_settleEffect (h : s.service.Law M X T) (hi : i ∉ T) (b : Presence) (r : Reading) :
    (settleEffect b r i s).service.Law M X T := by
  unfold settleEffect
  split
  · exact law_presenceLoss h hi
  · exact law_presenceLoss h hi
  · exact law_presenceGain h hi
  · rw [service_seenNow]; exact h
  · exact h
  · exact h

theorem law_callEffect (h : s.service.Law M X T) (hi : i ∉ T) : (callEffect i s).service.Law M X T := by
  have hs : (raiseFlag i .call s).service = s.service := service_raiseFlag ..
  have h' : (raiseFlag i .call s).service.Law M X T := by rw [hs]; exact h
  unfold callEffect
  dsimp only
  split
  · next hx =>
    rw [service_ask]
    exact law_enter h' hi hx (by decide) (by decide) (by decide) false (by decide) rfl
  · rw [service_ask]; exact h'
  · rw [service_ask]; exact h'
  · rw [service_ask]; exact h'
  · next hx =>
    rw [service_ask]
    exact law_enter h' hi hx (by decide) (by decide) (by decide) false (by decide) rfl
  · next hx =>
    split
    · exact law_abandonForCall h' hi hx
    · exact h'
  · exact h'

/-! ### REPORTs and final outcomes -/

theorem law_reportCarrying (h : s.service.Law M X T) (hi : i ∉ T) (hx : s.stOf i = some .carrying) :
    (reportCarrying i s).service.Law M X T := by
  unfold reportCarrying
  cases hr : s.rec? i with
  | none => exact h
  | some r =>
    dsimp only
    split
    · rw [service_ask]; exact h
    · next hn =>
      have hw : (wantFeed i s).service.Law M X T := law_wantFeed h hi hx (.inl rfl) fun _ hm _ a ha => by
        cases (seat_of_rec hr).symm.trans ha
        exact not_not.mp fun hc => hn ⟨hm, hc⟩
      split
      · exact hw
      · split
        · exact hw
        · split
          · rw [service_ask]; exact h
          · exact h

theorem law_reportFed (h : s.service.Law M X T) (hi : i ∉ T) (hx : s.stOf i = some .fed) :
    (reportFed i s).service.Law M X T := by
  unfold reportFed
  split
  · exact h
  · split
    · exact law_reenter h hi hx (by decide) (by rw [leaveService, hx]) false (by decide) rfl
    · exact h

theorem law_reportRule (h : s.service.Law M X T) (hi : i ∉ T) : (reportRule i s).service.Law M X T := by
  unfold reportRule
  split
  · next hx => exact law_reportCarrying h hi hx
  · next hx => exact law_reportFed h hi hx
  · exact h

theorem law_wakeToCarrying (h : s.service.Law M X T) (hi : i ∉ T) (hx : s.stOf i = some x) (hid : x ≠ .idle)
    (hfed : x ≠ .fed) (hwait : x ≠ .waiting) (hne : x ≠ .carrying) : (wakeToCarrying i s).service.Law M X T := by
  obtain ⟨a, ha, rfl⟩ := stOf_some.mp hx
  refine law_reportCarrying (law_enter h hi hx hid hfed hwait false hne rfl) hi ?_
  exact stOf_some.mpr ⟨_, (moved_enterState ha hne).self, rfl⟩

theorem law_testOther (h : s.service.Law M X T) (hi : i ∉ T) (hx : s.stOf i = some .testing) (p : Report) :
    (testOther i p s).service.Law M X T := by
  unfold testOther
  split
  · exact law_abandonForCall h hi hx
  · exact h

theorem law_gradeTest (h : s.service.Law M X T) (hi : i ∉ T) (hx : s.stOf i = some .testing) (p : Report) (c : TestCtx) :
    (gradeTest i p c s).service.Law M X T := by
  unfold gradeTest
  split
  · exact h
  · next r hr =>
    dsimp only
    have hu : (updRec i (fun q => { q.tested .graded with
        selfMinutes := some (gradeMinutes c.faultMark (c.soc0.getD 0) p.soc r.cd.reload) }) s).service = s.service :=
      service_updRec (f := fun q => { q.tested .graded with
        selfMinutes := some (gradeMinutes c.faultMark (c.soc0.getD 0) p.soc r.cd.reload) })
        (fun q => raise_seat .tested q) i s
    have h' := h
    rw [← hu] at h'
    have hx' := (stOf_congr hu i).trans hx
    split
    · exact law_enter h' hi hx' (by decide) (by decide) (by decide) false (by decide) rfl
    · exact law_wantFeed h' hi hx' (.inr rfl) fun m hm hX a ha => law_lifeline h' hx' (.inr (.inr rfl)) ha m hm hX

theorem law_testPhaseOk (h : s.service.Law M X T) (hi : i ∉ T) (hx : s.stOf i = some .testing) (p : Report) :
    (testPhaseOk i p s).service.Law M X T := by
  unfold testPhaseOk
  cases hr : s.rec? i with
  | none => exact h
  | some r =>
    simp only [Option.bind_some]
    split
    · exact h
    · next c hc =>
      split
      · split
        · exact law_abandonForCall h hi hx
        · rw [service_setCountdown, updRec, hr]
          dsimp only
          rw [service_setRec hr (by simp [Record.seat, hc])]
          exact h
      · exact law_testOther h hi hx p
      · split
        · exact law_abandonForCall h hi hx
        · exact law_gradeTest h hi hx p c

theorem law_failTest (h : s.service.Law M X T) (hi : i ∉ T) (hx : s.stOf i = some .testing) :
    (failTest i s).service.Law M X T := by
  have hu : (setTested i .failed s).service = s.service := service_setTested ..
  have h' := h
  rw [← hu] at h'
  exact law_enter h' hi ((stOf_congr hu i).trans hx) (by decide) (by decide) (by decide) false (by decide) rfl

theorem law_linkFail (h : s.service.Law M X T) : (linkFail i s).service.Law M X T := by rw [service_linkFail]; exact h

/-- A failed exchange sends the record to SILENT, with LINKFAIL (R127, R128). -/
theorem law_failSilent (h : s.service.Law M X T) (hi : i ∉ T) (hx : s.stOf i = some x) (hid : x ≠ .idle)
    (hfed : x ≠ .fed) (hwait : x ≠ .waiting) (hne : x ≠ .silent) :
    (enter .silent i (linkFail i s)).service.Law M X T :=
  law_enter (law_linkFail h) hi ((stOf_congr (service_linkFail i s) i).trans hx) hid hfed hwait false hne rfl

theorem law_wakeEffect (h : s.service.Law M X T) (hi : i ∉ T) (rep : Option Report) :
    (wakeEffect i rep s).service.Law M X T := by
  unfold wakeEffect
  split
  · next hx => exact law_wakeToCarrying h hi hx (by decide) (by decide) (by decide) (by decide)
  · next hx => exact law_wakeToCarrying h hi hx (by decide) (by decide) (by decide) (by decide)
  · next hx => exact law_wakeToCarrying h hi hx (by decide) (by decide) (by decide) (by decide)
  · next hx => exact law_testOther h hi hx _
  · exact law_reportRule h hi
  · next hx => exact law_failSilent h hi hx (by decide) (by decide) (by decide) (by decide)
  · exact law_linkFail h
  · exact h

theorem law_queryEffect (h : s.service.Law M X T) (hi : i ∉ T) (o : Origin) (rep : Option Report) :
    (queryEffect i o rep s).service.Law M X T := by
  unfold queryEffect
  split
  · next hx => exact law_wakeToCarrying h hi hx (by decide) (by decide) (by decide) (by decide)
  · next hx => exact law_wakeToCarrying h hi hx (by decide) (by decide) (by decide) (by decide)
  · next hx => exact law_wakeToCarrying h hi hx (by decide) (by decide) (by decide) (by decide)
  · next hx =>
    split
    · exact law_testPhaseOk h hi hx _
    · exact law_testOther h hi hx _
  · exact h
  · exact h
  · exact law_reportRule h hi
  · next hx => exact law_failSilent h hi hx (by decide) (by decide) (by decide) (by decide)
  · next hx =>
    split
    · exact law_failTest h hi hx
    · exact law_linkFail h
  · exact law_linkFail h
  · exact h

theorem law_restEffect (h : s.service.Law M X T) (hi : i ∉ T) (rep : Option Report) :
    (restEffect i rep s).service.Law M X T := by
  unfold restEffect
  split
  · rw [service_dropUnheard]; exact h
  · rw [service_dropUnheard]; exact h
  · exact h
  · exact h
  · next x _ _ h2 h3 _ hx =>
    refine law_reenter h hi hx (fun he => ?_) (by simp) false (fun he => ?_) rfl
    · subst he; simp_all
    · subst he; simp_all
  · exact law_linkFail h
  · exact h

theorem law_shedEffect (h : s.service.Law M X T) (hi : i ∉ T) (rep : Option Report) :
    (shedEffect i rep s).service.Law M X T := by
  unfold shedEffect
  split
  · next hx => exact law_testOther h hi hx _
  · exact h
  · exact law_linkFail h
  · exact h

theorem law_kindEffect (h : s.service.Law M X T) (hi : i ∉ T) (e : Exchange) (rep : Option Report) :
    (kindEffect i e rep s).service.Law M X T := by
  unfold kindEffect
  split
  · exact law_wakeEffect h hi rep
  · exact law_queryEffect h hi _ rep
  · exact law_restEffect h hi rep
  · exact law_shedEffect h hi rep

theorem law_completeWork (h : s.service.Law M X ∅) (e : Engine) : (completeWork e s).service.Law M X ∅ := by
  unfold completeWork
  split
  · exact h
  · split
    · exact h
    · dsimp only
      rw [service_noteSent]
      refine law_kindEffect ?_ (Set.notMem_empty _) _ _
      split
      · rw [service_takeReport, service_freeEngine]; exact h
      · rw [service_freeEngine]; exact h

/-! ### Countdowns and appointments -/

/-- A WAKE is asked for, and the record enters WAKING (R145, R158). -/
theorem law_wakeUp (h : s.service.Law M X T) (hi : i ∉ T) (hx : s.stOf i = some x) (hs : x = .resting ∨ x = .silent)
    (e : Exchange) : (enter .waking i (ask i e s)).service.Law M X T := by
  have hn : x ≠ .idle ∧ x ≠ .fed ∧ x ≠ .waiting ∧ x ≠ .waking := by rcases hs with rfl | rfl <;> decide
  have ha : (ask i e s).service = s.service := service_ask ..
  have h' := h
  rw [← ha] at h'
  exact law_enter h' hi ((stOf_congr ha i).trans hx) hn.1 hn.2.1 hn.2.2.1 false hn.2.2.2 rfl

theorem law_wakePeriodWork (h : s.service.Law M X T) (hi : i ∉ T) (hx : s.stOf i = some x)
    (hs : x = .resting ∨ x = .silent) : (wakePeriodWork i s).service.Law M X T := by
  unfold wakePeriodWork
  split
  · rw [service_setCountdown]; exact h
  · exact law_wakeUp h hi hx hs _

theorem service_testWindowWork (i : Idx) (s : State) : (testWindowWork i s).service = s.service := by
  unfold testWindowWork
  split
  · rw [service_ask]
    exact service_updRec (fun r => by simp [Record.seat]) i s
  · rfl

theorem law_expiryEffect (h : s.service.Law M X T) (hi : i ∉ T) : (expiryEffect i s).service.Law M X T := by
  unfold expiryEffect queryIntervalWork
  split
  · rw [service_ask]; exact h
  · rw [service_ask]; exact h
  · next hx => exact law_wakePeriodWork h hi hx (.inl rfl)
  · next hx => exact law_wakePeriodWork h hi hx (.inr rfl)
  · exact h
  · rw [service_testWindowWork]; exact h
  · exact h

theorem law_actWake (h : s.service.Law M X ∅) (i : Idx) : (actWake s i).service.Law M X ∅ := by
  unfold actWake
  split
  · next hc =>
    simp only [State.isIn, Bool.and_eq_true, Bool.or_eq_true, decide_eq_true_eq] at hc
    rcases hc.1 with hx | hx
    · exact law_wakeUp h (Set.notMem_empty i) hx (.inl rfl) _
    · exact law_wakeUp h (Set.notMem_empty i) hx (.inr rfl) _
  · exact h

theorem testEligible_cases (h : s.testEligible i = true) :
    (s.stOf i = some .fed ∨ s.stOf i = some .carrying) ∧ s.supply.mode = .outage := by
  unfold State.testEligible at h
  cases hr : s.rec? i with
  | none => simp [hr] at h
  | some r =>
    rw [hr] at h
    cases hp : r.port with
    | none => simp [hp] at h
    | some p =>
      simp only [hp, Bool.and_eq_true, decide_eq_true_eq] at h
      obtain ⟨⟨⟨hst, -⟩, -⟩, hm⟩ := h
      refine ⟨?_, hm⟩
      rw [stOf_rec hr]
      exact hst.imp (congrArg some) (congrArg some)

theorem law_actTest (h : s.service.Law M X ∅) (named : Bool) (i : Idx) : (actTest named s i).service.Law M X ∅ := by
  unfold actTest
  split
  · next he =>
    obtain ⟨hx, hm⟩ := testEligible_cases he
    exact law_enterTest h (Set.notMem_empty i) hx hm
  · split
    · rw [service_setTested]; exact h
    · exact h

theorem law_actOn (h : s.service.Law M X ∅) (a : Appointment) : (actOn a s).service.Law M X ∅ := by
  have hk : ∀ (f : State → Idx → State), (∀ (s : State) (i : Idx), s.service.Law M X ∅ → (f s i).service.Law M X ∅) →
      ((if s.supply.mode = .mains ∨ s.supply.mode = .depleted then s
        else (s.targets a.target).foldl f s) : State).service.Law M X ∅ := fun f hf => by
    split
    · exact h
    · exact foldl_keeps (Q := fun s => s.service.Law M X ∅) hf _ h
  unfold actOn
  split
  · split
    · unfold markApportion
      split <;> exact h
    · exact h
  · exact hk _ fun s i h => law_actWake h i
  · refine hk _ fun s i h => ?_
    unfold actQuery
    split
    · rw [service_ask]; exact h
    · exact h
  · refine hk _ fun s i h => ?_
    unfold actRest
    split
    · rw [service_ask]; exact h
    · exact h
  · exact hk _ fun s i h => law_actTest h _ i

theorem law_expiryWork (h : s.service.Law M X ∅) : (expiryWork s).service.Law M X ∅ := by
  refine foldl_keeps (Q := fun s => s.service.Law M X ∅) (fun s a h => ?_) _ h
  unfold expireOne
  dsimp only
  have ha : (actOn a { s with schedule := s.schedule.erase a }).service.Law M X ∅ := law_actOn (by exact h) a
  split
  · exact ha
  · exact ha

end Law

end Sys2Proof.Machine
end

section
/-! The works of the cells, the meter and the arbiter keep the laws of service: samples and trips, the debit pass and the
apportionment, admission decisions, the bus cap. -/

namespace Sys2Proof.Machine

open Sys2Proof

section Law

variable {M : Prop} {X T : Set Idx} {s t : State} {i : Idx}

/-! ### Samples -/

/-- The counts of a sample keep the drive level, and in OFF without a reading the presence run too (R47, R55). -/
theorem sampledCell_drive (d : Drive) (x : Option Reading) (e : Bool) (n v : Nat) (c : Cell) :
    (sampledCell d x e n v c).drive = c.drive := by
  have hp : ∀ r, (presenceStep r c).drive = c.drive := fun r => by
    unfold presenceStep; repeat' split
    all_goals rfl
  have hc : ∀ c : Cell, (callStep e v c).drive = c.drive := fun c => by
    unfold callStep; repeat' split
    all_goals rfl
  have ho : ∀ c : Cell, (overStep n v c).drive = c.drive := fun c => by unfold overStep; split <;> rfl
  cases d <;> cases x <;> simp [sampledCell, hp, hc, ho]

theorem sampled_drive (s : State) (p : Port) : (s.sampled p).drive = s.cells[p].drive := by
  unfold State.sampled
  split
  · rfl
  · exact sampledCell_drive ..

/-- A cell in OFF counts nothing (R47, R48). -/
theorem sampled_off {p : Port} (h : s.cells[p].drive = .off) : s.sampled p = s.cells[p] := by
  unfold State.sampled
  split
  · rfl
  · dsimp only
    have hr : ∀ b c, readingOf (s.sampleLevel p) b c = none := fun b c => by
      unfold State.sampleLevel
      rw [h]
      rfl
    rw [hr, h]
    rfl

/-- A change of one cell that keeps its level, and its presence run where it is OFF, up to a cleared run. -/
theorem law_updCell {p : Port} {f : Cell → Cell} (h : s.service.Law M X T)
    (hd : (f s.cells[p]).drive = s.cells[p].drive)
    (hr : s.cells[p].drive = .off → (f s.cells[p]).presRun = 0 ∨ (f s.cells[p]).presRun = s.cells[p].presRun) :
    (updCell p f s).service.Law M X T := by
  refine h.cells (D := (updCell p f s).service.drive) (R := (updCell p f s).service.run) (fun q => .inl ?_) fun q hq => ?_
  · show (updCell p f s).cells[q].drive = s.cells[q].drive
    rw [cells_updCell]
    split
    · next he => subst he; exact hd
    · rfl
  · show (updCell p f s).cells[q].presRun = 0 ∨ (updCell p f s).cells[q].presRun = s.cells[q].presRun
    rw [cells_updCell]
    split
    · next he => subst he; exact hr hq
    · exact .inr rfl

theorem law_settleWork (h : s.service.Law M X ∅) (p : Port) : (settleWork p s).service.Law M X ∅ := by
  unfold settleWork
  dsimp only
  split
  · exact h
  · next r _ =>
    split
    · have hu := law_updCell (p := p)
        (f := fun c => { c with presence := r.settled, stamp := some s.clock, cand := none, presRun := 0 }) h rfl
        fun _ => .inl rfl
      split
      · exact law_settleEffect hu (Set.notMem_empty _) _ _
      · exact hu
    · exact h

theorem law_rampWork (h : s.service.Law M X ∅) (p : Port) : (rampWork p s).service.Law M X ∅ := by
  unfold rampWork
  dsimp only
  split
  · next hc =>
    split
    · next i hi =>
      rw [service_orderLevel]
      refine h.cells (fun q => ?_) fun q hq => ?_
      · rw [(cells_orderLevel p q _ .feed s).1]
        split
        · next he => subst he; exact .inr ⟨hc.1, rfl⟩
        · exact .inl rfl
      · have hqp : q ≠ p := fun he => by
          subst he
          exact absurd (hc.1.symm.trans hq) (by decide)
        exact .inr ((cells_orderLevel p q _ .feed s).2.1 hqp)
    · exact h
  · exact h

theorem law_cellWork (h : s.service.Law M X ∅) (p : Port) (w : CellWork) : (cellWork p w s).service.Law M X ∅ := by
  cases w with
  | settle => exact law_settleWork h p
  | call =>
    simp only [cellWork, callWork]
    split
    · exact h
    · exact law_callEffect h (Set.notMem_empty _)
  | overCeiling =>
    have hs : (overWork p s).service = s.service := by
      unfold overWork
      dsimp only
      repeat' split
      all_goals simp
    simp only [cellWork, hs]
    exact h
  | rampEnd => exact law_rampWork h p
  | feedRun =>
    simp only [cellWork, feedRunWork]
    split
    · rw [service_updCell ⟨rfl, rfl⟩]; exact h
    · exact h

theorem law_sampleWork (h : s.service.Law M X ∅) (p : Port) : (sampleWork p s).service.Law M X ∅ := by
  refine foldl_keeps (Q := fun s => s.service.Law M X ∅) (fun t w ht => law_cellWork ht p w) _ ?_
  exact law_updCell h (sampled_drive s p) fun hd => .inr (by rw [sampled_off hd])

/-! ### Trips and debits -/

/-- The levels RAMP and FEED are those of a FED record's port alone (R6). -/
theorem fed_of_drive (h : s.service.Law M X ∅) {p : Port} (hd : s.cells[p].drive = .ramp ∨ s.cells[p].drive = .feed) :
    ∃ i a, s.boundAt p = some i ∧ s.service.seats i = some a ∧ a.port = some p ∧ a.st = .fed := by
  have hne : s.cells[p].drive ≠ .off := by rcases hd with hd | hd <;> rw [hd] <;> decide
  cases hb : s.boundAt p with
  | none =>
    refine absurd (h.bare p fun i a ha hap => ?_) hne
    exact boundAt_none.mp hb i (portOf_some.mpr ⟨a, ha, hap⟩)
  | some i =>
    obtain ⟨a, ha, hap⟩ := portOf_some.mp (portOf_of_boundAt hb)
    refine ⟨i, a, rfl, ha, hap, ?_⟩
    have hl := h.level i a p ha (Set.notMem_empty i) hap
    by_contra hst
    rw [if_neg hst] at hl
    change s.cells[p].drive = _ at hl
    rw [hl] at hd
    rcases hd with hd | hd
    · exact Service.driveFor_ne_ramp _ hst hd
    · revert hd
      cases a.st <;> cases s.service.mode <;> simp [driveFor]

/-- The feed of a tripped record is released, and its cell is OFF (R51). -/
theorem transit_trip (h : s.service.Law M X ∅) {a : Seat} {p : Port} (ha : s.service.seats i = some a)
    (hap : a.port = some p) (hst : a.st = .fed) {t : State}
    (ht : t.service = (releaseFeed i (updCell p Cell.toOff (sendPartOn p s))).service) :
    Service.Transit M X ∅ i { a with admitted := none } t.service := by
  have hT := transit_releaseFeed h ha (Set.notMem_empty i) hst
  obtain ⟨hlaw, hseat, hout, hbound, hmode⟩ := hT
  have hc : (sendPartOn p s).service = s.service := service_sendPartOn p s
  have hu : ∀ q : Port, (updCell p Cell.toOff (sendPartOn p s)).service.drive q =
      (if q = p then .off else s.service.drive q) ∧ (updCell p Cell.toOff (sendPartOn p s)).service.run q =
      (if q = p then 0 else s.service.run q) := fun q => by
    rw [← hc]
    simp only [State.service, cells_updCell]
    split <;> exact ⟨rfl, rfl⟩
  have hseats : (updCell p Cell.toOff (sendPartOn p s)).service.seats = s.service.seats :=
    show (sendPartOn p s).service.seats = _ from congrArg Service.seats hc
  have ha' : (updCell p Cell.toOff (sendPartOn p s)).service.seats i = some a := by rw [hseats]; exact ha
  have hw := service_releaseFeed ha'
  rw [service_releaseFeed ha] at hlaw hseat hmode
  have he : t.service = { s.service.put i { a with admitted := none } with
      feedList := s.arbiter.feedList.filter (· ≠ i)
      drive := (updCell p Cell.toOff (sendPartOn p s)).service.drive
      run := (updCell p Cell.toOff (sendPartOn p s)).service.run } := by
    rw [ht, hw]
    unfold Service.put
    have hf : (updCell p Cell.toOff (sendPartOn p s)).arbiter.feedList = s.arbiter.feedList :=
      show (sendPartOn p s).service.feedList = _ from congrArg Service.feedList hc
    have hq : (updCell p Cell.toOff (sendPartOn p s)).service.queue = s.service.queue :=
      show (sendPartOn p s).service.queue = _ from congrArg Service.queue hc
    have hcap : (updCell p Cell.toOff (sendPartOn p s)).service.cap = s.service.cap :=
      show (sendPartOn p s).service.cap = _ from congrArg Service.cap hc
    have hm : (updCell p Cell.toOff (sendPartOn p s)).service.mode = s.service.mode :=
      show (sendPartOn p s).service.mode = _ from congrArg Service.mode hc
    rw [hf, hq, hcap, hm, hseats]
  rw [he]
  refine ⟨hlaw.cellOff hseat hap (Set.mem_insert i ∅) ⟨by rw [(hu p).1, if_pos rfl], by rw [(hu p).2, if_pos rfl]⟩
    fun q hq => ⟨by rw [(hu q).1, if_neg hq]; rfl, by rw [(hu q).2, if_neg hq]; rfl⟩, hseat, hout, hbound, hmode⟩

theorem law_tripWork (h : s.service.Law M X ∅) (p : Port) (n : Nat) : (tripWork p n s).service.Law M X ∅ := by
  unfold tripWork
  split
  · next hf =>
    have hd : s.cells[p].drive = .ramp ∨ s.cells[p].drive = .feed := by
      simp only [Cell.fires, Bool.and_eq_true, decide_eq_true_eq] at hf; exact hf.1
    obtain ⟨i, a, hb, ha, hap, hst⟩ := fed_of_drive h hd
    have hT := transit_trip h ha hap hst
      (t := updCell p (fun c => { c with faultCount := min 4 (c.faultCount + 1) })
        (abortInFlight .line i (raiseFlag i .trip (releaseFeed i (updCell p Cell.toOff (sendPartOn p s))))))
      (by rw [service_updCell ⟨rfl, rfl⟩]; simp)
    rw [hb]
    dsimp only
    have hne : ({ a with admitted := none } : Seat).st = .fed := hst
    split
    · rw [service_raiseFlag]
      exact hT.enters false (by rw [hne]; decide) (by decide) (by decide) (by decide) fun _ _ _ he => by cases he
    · refine hT.joinsTail true (by rw [hne]; decide) fun m hm hX => ?_
      refine h.critical m ?_ i a ha hX (.inl hst)
      have he := fixed_abortInFlight .line i (raiseFlag i .trip (releaseFeed i (updCell p Cell.toOff (sendPartOn p s))))
      rw [fixed_raiseFlag, fixed_releaseFeed, fixed_updCell rfl, fixed_sendPartOn] at he
      rw [← hm]
      exact congrArg (fun f => f.supply.mode) he.symm
  · exact h

theorem law_debitPort (h : s.service.Law M X ∅) (sc : Scan) (p : Port) : (debitPort sc s p).service.Law M X ∅ := by
  unfold debitPort
  split
  · exact h
  · next i hi =>
    split
    · next hc =>
      simp only [State.isIn, Bool.and_eq_true, decide_eq_true_eq] at hc
      have hu := service_allowance i (· - sc.codes[p].toNat) s
      have h' := h
      rw [← hu] at h'
      dsimp only
      split
      · exact law_lapse h' (Set.notMem_empty i) ((stOf_congr hu i).trans hc.1) (by decide) (by decide)
      · exact h'
    · exact h

theorem law_debitPass (h : s.service.Law M X ∅) (sc : Scan) : (debitPass sc s).service.Law M X ∅ :=
  foldl_keeps (Q := fun s => s.service.Law M X ∅) (fun _ p ht => law_debitPort ht sc p) _ h

/-! ### The apportionment -/

theorem service_pool (n : Nat) (s : State) :
    ({ s with meter := { s.meter with pool := n } } : State).service = s.service := rfl

theorem service_assignShares (s : State) : (assignShares s).service = s.service := by
  unfold assignShares
  exact (service_pool _ _).trans
    (service_foldl _ (fun t i => service_allowance i (fun _ => s.shareFor i) t) allIdx s)

theorem law_consequence (h : s.service.Law M X ∅) (i : Idx) : (consequence s i).service.Law M X ∅ := by
  unfold consequence
  cases hr : s.rec? i with
  | none => exact h
  | some r =>
    have hx := stOf_rec hr
    dsimp only
    split
    · next hs =>
      rw [hs] at hx
      split
      · exact law_lapse h (Set.notMem_empty i) hx (by decide) (by decide)
      · exact h
    · next hs =>
      rw [hs] at hx
      split
      · exact law_lapse h (Set.notMem_empty i) hx (by decide) (by decide)
      · exact h
    · exact law_leaveLapsed h (Set.notMem_empty i)
    · exact h

theorem law_apportionWork (h : s.service.Law M X ∅) : (apportionWork s).service.Law M X ∅ := by
  refine foldl_keeps (Q := fun s => s.service.Law M X ∅) (fun _ i ht => law_consequence ht i) _ ?_
  rw [service_assignShares]; exact h

/-! ### Admission -/

theorem budget_service (s : State) : s.budget = (s.service.feedList.map s.service.current).sum := by
  rw [show s.service.current = s.admittedOf from funext (service_current s)]
  rfl

theorem service_admitSlot {r : Record} (hr : s.rec? i = some r) : (admitSlot i s).service =
    { s.service.put i { r.seat with admitted := some r.ceiling } with
      feedList := s.arbiter.feedList ++ [i], queue := s.arbiter.queue.filter (· ≠ i) } := by
  have hu : admitSlot i s = setRec i (some { r with admitted := some r.ceiling })
      { s with arbiter := ⟨s.arbiter.feedList ++ [i], s.arbiter.queue.filter (· ≠ i)⟩ } := by
    have : ({ s with arbiter := ⟨s.arbiter.feedList ++ [i], s.arbiter.queue.filter (· ≠ i)⟩ } : State).rec? i = some r :=
      hr
    unfold admitSlot updRec
    rw [this]
  have hs : (setRec i (some { r with admitted := some r.ceiling }) s).service.seats =
      (s.service.put i { r.seat with admitted := some r.ceiling }).seats := by
    funext j
    rw [seats_setRec]
    by_cases hj : j = i
    · subst hj; simp [Record.seat]
    · rw [if_neg hj, Service.put_other _ _ hj]
  rw [hu]
  unfold State.service Service.put at hs ⊢
  simp only [Service.mk.injEq] at hs ⊢
  exact ⟨hs, rfl, rfl, rfl, rfl, rfl, rfl⟩

theorem law_admitMember (h : s.service.Law M X ∅) (hx : s.stOf i = some .waiting)
    (hb : s.ceilingOf i + s.budget ≤ s.cfg.busCap) : (admitMember i s).service.Law M X ∅ := by
  obtain ⟨hr, -⟩ | ⟨r, hr, hcase⟩ := admitMember_cases i s
  · simp [State.stOf, hr] at hx
  have hst : r.st = .waiting := by rw [stOf_rec hr] at hx; simpa using hx
  have hlaw : (enter .fed i (admitSlot i s)).service.Law M X ∅ := by
    have hslot := service_admitSlot hr
    have ha : (admitSlot i s).service.seats i = some { r.seat with admitted := some r.ceiling } := by
      rw [hslot]; exact Service.put_self _ _ _
    have hne : ({ r.seat with admitted := some r.ceiling } : Seat).st ≠ .fed := by
      show r.st ≠ .fed
      rw [hst]; decide
    obtain ⟨h1, h2, h3, h4, h5, h6, h7, h8⟩ := moved_enterState (b := false) ha hne
    refine h.admits (seat_of_rec hr) hst (n := r.ceiling) ?_ ?_ (h2.trans (by rw [hslot]; rfl)) (h3.trans (by rw [hslot]; rfl))
      (h4.trans (by rw [hslot]; rfl)) (h5.trans (by rw [hslot]; rfl)) (fun p hp => (h6 p hp).trans rfl)
      (fun p hp => (h7 p hp).1.trans (by rw [hslot]; rfl)) fun p hp => ?_
    · rw [budget_service] at hb
      show r.ceiling + _ ≤ s.cfg.busCap
      simpa [State.ceilingOf, hr] using hb
    · rw [enter, h1, hslot]
      funext j
      by_cases hj : j = i
      · subst hj
        simp [Seat.moved, Record.seat, hst]
      · simp only [Service.put_other _ _ hj]
    · have := h8 p hp
      rw [hslot] at this
      exact this
  obtain he | ⟨x, -, he⟩ := hcase
  · rw [he]; exact hlaw
  · rw [he, service_ask]; exact hlaw

theorem law_decideLoop (n : Nat) {s : State} (h : s.service.Law M X ∅) : (decideLoop n s).service.Law M X ∅ := by
  induction n generalizing s with
  | zero => exact h
  | succ n ih =>
    unfold decideLoop
    split
    · exact h
    · next i hi =>
      split
      · next hb =>
        obtain ⟨-, a, ha, hw⟩ := (h.queue i).mp (List.mem_of_find?_eq_some hi)
        exact ih (law_admitMember h (stOf_some.mpr ⟨a, ha, hw⟩) hb)
      · exact h

theorem law_finishEvent (h : t.service.Law M X ∅) (s : State) : (finishEvent s t).service.Law M X ∅ := by
  have hd : ((if t.agenda.decision then decideAdmission t else t) : State).service.Law M X ∅ := by
    split
    · unfold decideAdmission
      split
      · exact h
      · exact law_decideLoop _ h
    · exact h
  unfold finishEvent
  dsimp only
  rw [service_clearNotes]
  generalize (if t.agenda.decision then decideAdmission t else t) = u at hd ⊢
  split
  · rw [service_pickBoth]; exact hd
  · exact hd

end Law

end Sys2Proof.Machine
end

section
/-! A changed bus cap keeps the laws of service (R83, R94, R95): the records released for it are in transit, each WAITING
at its cell's level, until they join the heads of their class groups. -/

namespace Sys2Proof.Machine

open Sys2Proof

namespace Service

variable {M : Prop} {X T : Set Idx} {v w : Service} {i j : Idx} {a : Seat}

/-- The view under another bus cap. -/
def capped (B : Nat) (v : Service) : Service := { v with cap := B }

/-- A bus cap that the budget fits. -/
theorem Law.recap (h : v.Law M X T) {B : Nat} (hb : (v.feedList.map v.current).sum ≤ B) : (v.capped B).Law M X T :=
  { h with budget := hb }

theorem Moved.capped (B : Nat) {st : RState} (h : Moved v w i a st) : Moved (v.capped B) (w.capped B) i a st :=
  ⟨h.seats, h.feedList, h.queue, rfl, h.mode, h.level, h.others, h.still⟩

/-- A record in transit that stands in WAITING at its cell's level, and lacks only its place in the queue. -/
structure Placed (M : Prop) (X : Set Idx) (v : Service) (j : Idx) : Prop where
  exists_seat : ∃ a, v.seats j = some a ∧ a.st = .waiting ∧ a.port ≠ none ∧ v.mode ≠ .mains ∧
    (∀ p, a.port = some p → v.drive p = driveFor v.mode .waiting) ∧
    (M → v.mode = .critical → j ∉ X → a.cls = .lifeline)

theorem Placed.of_moved (h : Moved v w i a .waiting) (hp : a.port ≠ none) (hm : v.mode ≠ .mains)
    (hc : M → v.mode = .critical → i ∉ X → a.cls = .lifeline) : Placed M X w i :=
  ⟨Seat.moved .waiting a, h.self, rfl, hp, by rw [h.mode]; exact hm, fun p hap => by rw [h.mode]; exact h.level p hap,
    fun m hcr hX => hc m (by rw [← h.mode]; exact hcr) hX⟩

/-- Another record's move leaves a placed one placed. -/
theorem Placed.other (h : Placed M X v j) (hl : v.Law M X T) {st : RState} (hw : Moved v w i a st)
    (ha : v.seats i = some a) (hj : j ≠ i) : Placed M X w j := by
  obtain ⟨b, hb, hst, hp, hm, hlev, hc⟩ := h.exists_seat
  refine ⟨b, (hw.other hj).trans hb, hst, hp, by rw [hw.mode]; exact hm, fun p hbp => ?_, fun m hcr hX => hc m ?_ hX⟩
  · have hap : a.port ≠ some p := fun hap => hj (hl.ports j i b a p hb ha hbp hap)
    rw [(hw.others p hap).1, hw.mode]; exact hlev p hbp
  · rw [← hw.mode]; exact hcr

/-- Giving up feed leaves the other records placed. -/
theorem Placed.leave (h : Placed M X v j) (hj : j ≠ i) : Placed M X (v.leave i a) j := by
  obtain ⟨b, hb, hrest⟩ := h.exists_seat
  exact ⟨b, (put_other v _ hj).trans hb, hrest⟩

/-- A placed record joins the queue in class order. -/
theorem Placed.joins (h : Placed M X v i) (hl : v.Law M X (insert i T)) (hi : i ∉ T) {ahead : Idx → Bool}
    (h1 : ∀ j, ahead j = true → v.rank j ≤ v.rank i) (h2 : ∀ j, ahead j = false → v.rank i ≤ v.rank j) :
    ({ v with queue := insertBehind ahead i v.queue } : Service).Law M X T := by
  obtain ⟨a, ha, hst, hp, hm, hlev, hc⟩ := h.exists_seat
  refine Transit.waits (a := a) ⟨hl, ha, hi, hp, hm⟩
    ⟨?_, rfl, rfl, rfl, rfl, hlev, fun _ _ => ⟨rfl, rfl⟩, fun p hd => .inr ⟨hd, rfl⟩⟩ hc h1 h2
  funext k
  by_cases hk : k = i
  · subst hk
    rw [put_self, ha]
    cases a
    cases hst
    simp [Seat.moved]
  · rw [put_other v _ hk]

end Service

section Law

variable {M : Prop} {X T : Set Idx} {s t : State} {i : Idx}

/-- A FED record's release is what it gives up. -/
theorem service_releaseFeed_leave {a : Seat} (ha : s.service.seats i = some a) (hq : i ∉ s.service.queue) :
    (releaseFeed i s).service = s.service.leave i a := by
  rw [service_releaseFeed ha, Service.leave, filter_ne_self hq]
  rfl

theorem capVictim_mem (h : s.capVictim = some i) : i ∈ s.arbiter.feedList := by
  have hm : ∀ f : Idx → Bool, s.arbiter.feedList.reverse.find? f = some i → i ∈ s.arbiter.feedList := fun f hf =>
    List.mem_reverse.mp (List.mem_of_find?_eq_some hf)
  unfold State.capVictim at h
  dsimp only at h
  split at h
  · next hf => exact hm _ (hf.trans h)
  · split at h
    · next hf => exact hm _ (hf.trans h)
    · exact hm _ h

theorem capVictim_none (h : s.capVictim = none) (hocc : ∀ i ∈ s.arbiter.feedList, s.rec? i ≠ none) :
    s.arbiter.feedList = [] := by
  unfold State.capVictim at h
  dsimp only at h
  split at h
  · cases h
  · next hd =>
    split at h
    · cases h
    · next hst =>
      refine List.eq_nil_iff_forall_not_mem.mpr fun i hi => ?_
      have hn := hocc i hi
      have hi' := List.mem_reverse.mpr hi
      have h1 := List.find?_eq_none.mp hd i hi'
      have h2 := List.find?_eq_none.mp hst i hi'
      have h3 := List.find?_eq_none.mp h i hi'
      cases hr : s.rec? i with
      | none => exact hn hr
      | some r =>
        simp only [State.ofClass, hr, Option.map_some, decide_eq_true_eq, Option.some.injEq] at h1 h2 h3
        revert h1 h2 h3
        cases r.cls <;> simp

/-- What holds while records are released for a lowered cap: the laws under a cap that the budget fits, with the records
released so far in transit, WAITING. -/
structure Releasing (M : Prop) (X : Set Idx) (B : Nat) (done : List Idx) (s : State) : Prop where
  law : (s.service.capped B).Law M X {j | j ∈ done}
  nodup : done.Nodup
  placed : ∀ j ∈ done, Service.Placed M X s.service j

/-- One record is released and enters WAITING. -/
theorem Releasing.release {B : Nat} {done : List Idx} (h : Releasing M X B done s) (hi : i ∈ s.arbiter.feedList) :
    Releasing M X B (done ++ [i]) (enter .waiting i (releaseFeed i s)) ∧
      (enter .waiting i (releaseFeed i s)).arbiter.feedList = s.arbiter.feedList.filter (· ≠ i) := by
  obtain ⟨hiT, a, ha, hst⟩ := (h.law.feed i).mp hi
  change s.service.seats i = some a at ha
  have hq : i ∉ s.service.queue := fun hq => by
    obtain ⟨-, b, hb, hw⟩ := (h.law.queue i).mp hq
    cases ha.symm.trans hb
    rw [hst] at hw
    cases hw
  obtain ⟨hport, hmode⟩ := h.law.bound ha hiT (by rw [hst]; decide)
  have hleave := service_releaseFeed_leave ha hq
  have ha' : (releaseFeed i s).service.seats i = some { a with admitted := none } := by
    rw [hleave]; exact Service.put_self _ _ _
  have hne : ({ a with admitted := none } : Seat).st ≠ .waiting := by
    show a.st ≠ .waiting
    rw [hst]; decide
  have hm := moved_enterState (b := false) ha' hne
  have hlaw : ((releaseFeed i s).service.capped B).Law M X (insert i {j | j ∈ done}) := by
    rw [hleave]; exact h.law.leave ha
  have hcrit : M → s.service.mode = .critical → i ∉ X → a.cls = .lifeline := fun m hcr hX =>
    h.law.critical m hcr i a ha hX (.inl hst)
  have hmode' : (releaseFeed i s).service.mode = s.service.mode := by rw [hleave]; rfl
  have hT : {j | j ∈ done ++ [i]} = insert i {j | j ∈ done} := by
    ext j; simp [or_comm]
  refine ⟨⟨?_, ?_, fun j hj => ?_⟩, hm.feedList.trans (by rw [hleave]; rfl)⟩
  · rw [hT]
    refine hlaw.shift (hm.capped B) ha' (Set.mem_insert _ _) fun m hcr hX _ => ?_
    exact hcrit m (hmode'.symm.trans hcr) hX
  · exact List.nodup_append.mpr ⟨h.nodup, List.nodup_singleton i, fun x hx y hy he => by
      rw [List.mem_singleton] at hy
      exact hiT (hy ▸ he ▸ hx)⟩
  · rcases List.mem_append.mp hj with hj | hj
    · have hji : j ≠ i := fun he => hiT (he ▸ hj)
      have hp : Service.Placed M X ((releaseFeed i s).service.capped B) j := by
        obtain ⟨b, hb⟩ := ((h.placed j hj).leave (a := a) hji).exists_seat
        rw [← hleave] at hb
        exact ⟨b, hb⟩
      obtain ⟨b, hb⟩ := (hp.other hlaw (hm.capped B) ha' hji).exists_seat
      exact ⟨b, hb⟩
    · rw [List.mem_singleton] at hj
      subst hj
      exact .of_moved hm hport (by rw [hmode']; exact hmode) fun m hcr hX => hcrit m (hmode'.symm.trans hcr) hX

/-- The releases end with a budget within the cap, where their bound is the feed list's length (R94). -/
theorem releasing_capReleases {B : Nat} (n : Nat) {done : List Idx} {s : State} (h : Releasing M X B done s)
    (hn : s.arbiter.feedList.length ≤ n) :
    Releasing M X B (capReleases n done s).2 (capReleases n done s).1 ∧
      (capReleases n done s).1.budget ≤ (capReleases n done s).1.cfg.busCap := by
  have hempty : ∀ s : State, s.arbiter.feedList = [] → s.budget ≤ s.cfg.busCap := fun s hf => by
    simp [State.budget, hf]
  induction n generalizing done s with
  | zero => exact ⟨h, hempty s (List.length_eq_zero_iff.mp (Nat.le_zero.mp hn))⟩
  | succ n ih =>
    unfold capReleases
    split
    · next hb => exact ⟨h, hb⟩
    · cases hv : s.capVictim with
      | none =>
        refine ⟨h, hempty s (capVictim_none hv fun i hi => ?_)⟩
        obtain ⟨-, a, ha, -⟩ := (h.law.feed i).mp hi
        obtain ⟨r, hr, -⟩ := seat_some.mp ha
        rw [hr]; exact Option.some_ne_none r
      | some i =>
        have hi := capVictim_mem hv
        obtain ⟨hr, hf⟩ := h.release hi
        refine ih hr ?_
        rw [hf]
        have hlt := List.length_filter_lt_length_iff_exists (l := s.arbiter.feedList) (p := fun j => decide (j ≠ i))
        have := hlt.mpr ⟨i, hi, by simp⟩
        omega

/-- A record at the head of its class group (R95). -/
theorem service_joinHead (i : Idx) (s : State) : (joinHead i s).service =
    { s.service with
      queue := insertBehind (fun j => decide (s.service.rank j < s.service.rank i)) i s.service.queue } := by
  rw [show s.service.rank = s.rankOf from funext (service_rank s)]
  rfl

/-- The released records join the queue one by one (R95). -/
theorem law_rejoin (done : List Idx) {s : State} (hn : done.Nodup) (h : s.service.Law M X {j | j ∈ done})
    (hp : ∀ j ∈ done, Service.Placed M X s.service j) : (rejoin done s).service.Law M X ∅ := by
  have key : ∀ l : List Idx, l.Nodup → ∀ T : Set Idx, (∀ j ∈ l, j ∉ T) → s.service.Law M X (T ∪ {j | j ∈ l}) →
      (∀ j ∈ l, Service.Placed M X s.service j) →
      (rejoin l s).service.Law M X T ∧ ∀ j, Service.Placed M X s.service j → Service.Placed M X (rejoin l s).service j := by
    intro l
    induction l with
    | nil => intro _ T _ hl _; exact ⟨by simpa [rejoin] using hl, fun _ h => h⟩
    | cons i l ih =>
      intro hnd T hT hl hp
      obtain ⟨hil, hnd'⟩ := List.nodup_cons.mp hnd
      have hset : T ∪ {j | j ∈ i :: l} = insert i T ∪ {j | j ∈ l} := by
        ext j
        show j ∈ T ∨ j ∈ i :: l ↔ (j = i ∨ j ∈ T) ∨ j ∈ l
        rw [List.mem_cons]
        tauto
      rw [hset] at hl
      obtain ⟨hlaw, hkeep⟩ := ih hnd' (insert i T)
        (fun j hj hjT => (Set.mem_insert_iff.mp hjT).elim (fun he => hil (he ▸ hj)) (hT j (List.mem_cons_of_mem i hj))) hl
        fun j hj => hp j (List.mem_cons_of_mem i hj)
      have hpi := hkeep i (hp i List.mem_cons_self)
      show (joinHead i (rejoin l s)).service.Law M X T ∧ ∀ j, _ → Service.Placed M X (joinHead i (rejoin l s)).service j
      rw [service_joinHead]
      refine ⟨hpi.joins hlaw (hT i List.mem_cons_self) (fun j hj => le_of_lt (by simpa using hj)) fun j hj => by simpa using hj,
        fun j hj => ?_⟩
      obtain ⟨b, hb⟩ := (hkeep j hj).exists_seat
      exact ⟨b, hb⟩
  exact (key done hn ∅ (fun _ _ => Set.notMem_empty _) (by rwa [Set.empty_union]) hp).1

theorem law_changeBusCap (h : s.service.Law M X ∅) (n : Nat) : (changeBusCap n s).service.Law M X ∅ := by
  let u : State := { s with cfg := { s.cfg with busCap := n } }
  have hstart : Releasing M X s.cfg.busCap [] u :=
    ⟨by simpa using (show (u.service.capped s.cfg.busCap).Law M X ∅ from h), List.nodup_nil, fun j hj => by simp at hj⟩
  obtain ⟨hr, hb⟩ := releasing_capReleases u.arbiter.feedList.length hstart le_rfl
  have hlaw : (capReleases u.arbiter.feedList.length [] u).1.service.Law M X
      {j | j ∈ (capReleases u.arbiter.feedList.length [] u).2} := by
    refine hr.law.recap (B := (capReleases u.arbiter.feedList.length [] u).1.cfg.busCap) ?_
    rw [budget_service] at hb
    exact hb
  have hre := law_rejoin _ hr.nodup hlaw hr.placed
  have he : (changeBusCap n s).service = (rejoin (capReleases u.arbiter.feedList.length [] u).2
      (capReleases u.arbiter.feedList.length [] u).1).service := by
    unfold changeBusCap
    dsimp only
    rw [service_callDecision]
    split <;> rfl
  rw [he]
  exact hre

end Law

end Sys2Proof.Machine
end

section
/-! The owners of the requests keep the laws of service: ENROLL, AMEND, RETIRE, CLEAR, and those that touch no seat. -/

namespace Sys2Proof.Machine

open Sys2Proof

section Law

variable {M : Prop} {X T : Set Idx} {s t : State} {i : Idx} {a : Seat}

/-! ### Binding and unbinding -/

theorem stOf_enterState {x : RState} (hx : s.stOf i = some x) (b : Bool) (st : RState) :
    (enterState b st i s).stOf i = some st := by
  obtain ⟨a, ha, rfl⟩ := stOf_some.mp hx
  by_cases hne : a.st = st
  · obtain ⟨r, hr, rfl⟩ := seat_some.mp ha
    rw [enterState_same hr hne, hx, hne]
  · exact stOf_some.mpr ⟨_, (moved_enterState ha hne).self, rfl⟩

/-- A bound record, IDLE or FAULTED, moves by the mode (R13, R22, R23). -/
theorem law_enterByMode (h : s.service.Law M X (insert i T)) (ha : s.service.seats i = some a) (hi : i ∉ T)
    (hst : a.st = .idle ∨ a.st = .faulted) (hp : a.port ≠ none)
    (hoff : s.supply.mode = .mains → a.st = .idle ∧ ∀ p, a.port = some p → s.service.drive p = .off) :
    (enterByMode i s).service.Law M X T := by
  have hT : s.supply.mode ≠ .mains → Service.Transit M X T i a s.service := fun hm => ⟨h, ha, hi, hp, hm⟩
  have hne : ∀ st : RState, st = .waking ∨ st = .silent → a.st ≠ st := fun st hs => by
    rcases hst with he | he <;> rcases hs with rfl | rfl <;> rw [he] <;> decide
  have wake : s.supply.mode ≠ .mains → (ask i ⟨.wake, 0, .policy⟩ (enter .waking i s)).service.Law M X T := fun hm => by
    rw [service_ask]
    exact (hT hm).enters false (hne _ (.inl rfl)) (by decide) (by decide) (by decide) fun _ _ _ he => by cases he
  unfold enterByMode
  cases hm : s.supply.mode with
  | mains =>
    obtain ⟨hid, hd⟩ := hoff hm
    have := h.stays ha (Set.mem_insert i T) (by rw [if_pos (show s.service.mode = .mains from hm)]; exact hid)
      (by rw [hid]; decide) (by rw [hid]; decide) (fun p hap => by rw [hid]; exact hd p hap) fun _ _ _ he => by
        rw [hid] at he; cases he
    rwa [Service.insert_diff hi] at this
  | outage => exact wake (by rw [hm]; decide)
  | critical => exact wake (by rw [hm]; decide)
  | depleted =>
    exact (hT (by rw [hm]; decide)).enters false (hne _ (.inr rfl)) (by decide) (by decide) (by decide)
      fun _ _ _ he => by cases he

/-- A record's seat replaced in its slot. -/
theorem service_setRec_put (r : Record) : (setRec i (some r) s).service = s.service.put i r.seat := by
  have hs : (setRec i (some r) s).service.seats = (s.service.put i r.seat).seats := by
    funext j
    rw [seats_setRec]
    by_cases hj : j = i
    · subst hj; simp
    · rw [if_neg hj, Service.put_other _ _ hj]
  unfold State.service Service.put at hs ⊢
  simp only [Service.mk.injEq] at hs ⊢
  exact ⟨hs, rfl, rfl, rfl, rfl, rfl, rfl⟩

/-- A record's seat changed in its slot. -/
theorem service_updRec_put {f : Record → Record} {r : Record} (hr : s.rec? i = some r) :
    (updRec i f s).service = s.service.put i (f r).seat := by
  rw [updRec, hr]
  exact service_setRec_put (f r)

theorem portOf_seat (j : Idx) : s.portOf j = (s.service.seats j).bind Seat.port := by
  simp only [State.portOf, State.service, Option.bind_map]
  rfl

theorem uniquePorts_of_law (h : s.service.Law M X T) : s.UniquePorts := fun j k p hj hk => by
  obtain ⟨a, ha, hap⟩ := portOf_some.mp hj
  obtain ⟨b, hb, hbp⟩ := portOf_some.mp hk
  exact h.ports j k a b p ha hb hap hbp

/-- The seat of a record that has been unbound, or not bound at all: no port, IDLE, nothing admitted, no test. -/
def Seat.vacant (M : Prop) (a : Seat) : Prop := a.port = none ∧ a.st = .idle ∧ a.admitted = none ∧ (M → a.tested = false)

/-- An unbound record is vacant (R8, R21, R84, R5). -/
theorem vacant_of_law (h : s.service.Law M X ∅) (ha : s.service.seats i = some a) (hp : a.port = none) :
    a.vacant M := by
  have hid : a.st = .idle := by
    have := h.idle i a ha (Set.notMem_empty i)
    split at this
    · exact this
    · exact this.mpr hp
  have had := h.admitted i a ha
  refine ⟨hp, hid, ?_, fun m => ?_⟩
  · cases hn : a.admitted with
    | none => rfl
    | some n =>
      rw [hn, hid] at had
      exact absurd (had.mp rfl).2 (by decide)
  · have := h.tested m i a ha
    rw [hid] at this
    cases ht : a.tested with
    | false => rfl
    | true => exact absurd (this.mp ht) (by decide)

/-- Giving up what a state holds of the arbiter's, of a record of any state. -/
theorem law_leave (h : s.service.Law M X ∅) (ha : s.service.seats i = some a) :
    (leaveService i s).service.Law M X (insert i ∅) ∧
      (leaveService i s).service.seats i = some { a with admitted := none } := by
  rw [service_leaveService h ha (Set.notMem_empty i)]
  exact ⟨h.leave ha, Service.put_self _ _ _⟩

theorem service_withdraw (i : Idx) (s : State) (h : s.service.Law M X ∅) (ha : s.service.seats i = some a) :
    (withdraw i s).service = s.service.leave i a := by
  have he : (dropPending i (abortInFlight .aborted i s)).service = s.service := by simp
  unfold withdraw
  rw [service_leaveService (by rw [he]; exact h) (by rw [he]; exact ha) (Set.notMem_empty i), he]

/-- The cell of a port that is given up is OFF (R21). -/
theorem abandon_cell (p q : Port) (s : State) :
    (updCell p Cell.abandon s).service.drive q = (if q = p then .off else s.service.drive q) ∧
    ((updCell p Cell.abandon s).service.drive q = .off → (updCell p Cell.abandon s).service.run q = 0 ∨
      s.service.drive q = .off ∧ (updCell p Cell.abandon s).service.run q = s.service.run q) := by
  simp only [State.service, cells_updCell]
  split
  · next hq =>
    subst hq
    exact ⟨toLevel_drive 0 .off _, toLevel_still 0 .off _⟩
  · exact ⟨rfl, fun h => .inr ⟨h, rfl⟩⟩

/-- An entry of an unbound record touches no cell. -/
theorem enterState_unbound {b : Bool} {st : RState} (ha : s.service.seats i = some a) (hp : a.port = none) :
    (enterState b st i s).service = s.service.put i (Seat.moved st a) := by
  obtain ⟨r, hr, rfl⟩ := seat_some.mp ha
  by_cases hne : r.st = st
  · rw [enterState_same hr hne]
    have : Seat.moved st r.seat = r.seat := by
      subst hne
      simp [Seat.moved, Record.seat]
    rw [this, ← service_setRec_put]
    exact (service_setRec hr rfl).symm
  · have hport : r.port = none := hp
    rw [enterState_new hr hne, hport]
    exact seats_enterSlot hne

/-- An unbind, ahead of its cell: the record has left service, holds no port and is IDLE. -/
def unbindRecord (i : Idx) (s : State) : State :=
  setCountdown i Countdown.stop (enter .idle i (updRec i (fun r => { r with port := none }) (withdraw i s)))

theorem unbindWork_of_port {p : Port} (h : s.portOf i = some p) :
    unbindWork i s = updCell p Cell.abandon (unbindRecord i s) := by
  unfold unbindWork
  rw [h]
  rfl

theorem service_unbindRecord (h : s.service.Law M X ∅) (ha : s.service.seats i = some a) :
    (unbindRecord i s).service =
      (s.service.leave i a).put i (Seat.moved .idle { a with port := none, admitted := none }) := by
  have hw := service_withdraw i s h ha
  have hwi : (withdraw i s).service.seats i = some { a with admitted := none } := by rw [hw]; exact Service.put_self _ _ _
  obtain ⟨r, hr, hrs⟩ := seat_some.mp hwi
  have hu := service_updRec_put (f := fun r => { r with port := none }) hr
  have hseat : ({ r with port := none } : Record).seat = { a with port := none, admitted := none } := by
    have : ({ r with port := none } : Record).seat = { r.seat with port := none } := rfl
    rw [this, hrs]
  rw [hseat] at hu
  have hui : (updRec i (fun r => { r with port := none }) (withdraw i s)).service.seats i =
      some { a with port := none, admitted := none } := by rw [hu]; exact Service.put_self _ _ _
  unfold unbindRecord
  rw [service_setCountdown, enter, enterState_unbound hui rfl, hu, hw]
  unfold Service.put
  simp only [Service.mk.injEq, and_true]
  funext j
  split <;> simp_all

/-- An unbind keeps the laws (R21). -/
theorem law_unbindWork (h : s.service.Law M X ∅) (i : Idx) : (unbindWork i s).service.Law M X ∅ := by
  cases hp : s.portOf i with
  | none => rw [unbindWork, hp]; exact h
  | some p =>
    obtain ⟨a, ha, hap⟩ := portOf_some.mp hp
    rw [unbindWork_of_port hp]
    have hv := service_unbindRecord h ha
    generalize unbindRecord i s = t at hv
    have hc : ∀ q, (updCell p Cell.abandon t).service.drive q = (if q = p then .off else s.service.drive q) ∧
        ((updCell p Cell.abandon t).service.drive q = .off → (updCell p Cell.abandon t).service.run q = 0 ∨
          s.service.drive q = .off ∧ (updCell p Cell.abandon t).service.run q = s.service.run q) := fun q => by
      have := abandon_cell p q t
      rw [hv] at this
      exact this
    have hfl := congrArg Service.feedList hv
    have hq := congrArg Service.queue hv
    have hcap := congrArg Service.cap hv
    have hmode := congrArg Service.mode hv
    have := (h.leave ha).vacate (w := (updCell p Cell.abandon t).service) (Service.put_self _ _ _) (Set.mem_insert i ∅)
      (fun j hj => ?_) (fun b hb => ?_) hfl hq hcap hmode (fun q hq => ?_) (fun q hq => ?_) fun q hd => (hc q).2 hd
    · rwa [Service.insert_diff (Set.notMem_empty i)] at this
    · show t.service.seats j = _
      rw [hv, Service.put_other _ _ hj]
    · change t.service.seats i = some b at hb
      rw [hv, Service.put_self] at hb
      cases hb
      refine ⟨rfl, rfl, rfl, fun m => ?_⟩
      simp only [Seat.moved]
      split
      · next hst =>
        have := h.tested m i a ha
        rw [show a.st = .idle from hst] at this
        cases ht : a.tested with
        | false => rfl
        | true => exact absurd (this.mp ht) (by decide)
      · rfl
    · have hqp : q = p := by cases hap.symm.trans hq; rfl
      rw [(hc q).1, if_pos hqp]
    · have hqp : q ≠ p := fun hqp => hq (hqp ▸ hap)
      rw [(hc q).1, if_neg hqp]
      rfl

/-- Binding to a free port keeps the laws (R22). -/
theorem law_bindWork (h : s.service.Law M X ∅) (p : Port) (hfree : ∀ j, j ≠ i → s.portOf j ≠ some p) :
    (bindWork p i s).service.Law M X ∅ := by
  unfold bindWork
  split
  · exact h
  · have hu := law_unbindWork h i
    cases hr : (unbindWork i s).rec? i with
    | none =>
      have : (updRec i (fun r => { r with port := some p }) (unbindWork i s)) = unbindWork i s := by simp [updRec, hr]
      rw [this]
      have hns : (unbindWork i s).stOf i = none := by simp [State.stOf, hr]
      have hask : ∀ x, ask i x (unbindWork i s) = unbindWork i s := fun x => by simp [ask, hr]
      have hent : ∀ st, enter st i (unbindWork i s) = unbindWork i s := fun st => enterState_free hr
      unfold enterByMode
      split
      · exact hu
      · rw [hent, hask]; exact hu
      · rw [hent, hask]; exact hu
      · rw [hent]; exact hu
    | some r =>
      have hport : ∀ j, (unbindWork i s).portOf j = if j = i then none else s.portOf j := fun j => by
        rw [portOf_eq, roster_unbindWork, portOf_eq]
        split
        · cases s.roster i <;> rfl
        · rfl
      have hrp : r.port = none := by
        have := hport i
        rw [if_pos rfl, portOf_seat, seat_of_rec hr] at this
        exact this
      obtain ⟨-, hid, had, htd⟩ := vacant_of_law hu (seat_of_rec hr) hrp
      have hup := service_updRec_put (f := fun r => { r with port := some p }) hr
      have hfree' : ∀ j b, (unbindWork i s).service.seats j = some b → b.port ≠ some p := fun j b hb hbp => by
        have hj := portOf_some.mpr ⟨b, hb, hbp⟩
        rw [hport] at hj
        split at hj
        · cases hj
        · next hji => exact hfree j hji hj
      have ht : ({ r with port := some p } : Record).seat.tested = false ∨ ¬M := by
        by_cases m : M
        · exact .inl (htd m)
        · exact .inr m
      have hre := hu.reseat (i := i) (a := ({ r with port := some p } : Record).seat) (Set.notMem_empty i)
        (fun b hb => by cases (seat_of_rec hr).symm.trans hb; exact ⟨hrp, hid⟩) hid had htd
        fun q hq => by cases hq; exact hfree'
      rw [← hup] at hre
      have hself : (updRec i (fun r => { r with port := some p }) (unbindWork i s)).service.seats i =
          some ({ r with port := some p } : Record).seat := by rw [hup]; exact Service.put_self _ _ _
      refine law_enterByMode hre hself (Set.notMem_empty i) (.inl hid) nofun fun _ => ⟨hid, fun q hq => ?_⟩
      cases hq
      rw [hup]
      exact hu.bare p hfree'

/-! ### ENROLL -/

theorem law_createRecord (h : s.service.Law M X ∅) (hi : s.rec? i = none) (v : Identity) (c : Cls) (pt : Option Port)
    (hfree : s.portHeld pt = false) : (createRecord i v c pt s).service.Law M X ∅ := by
  have hseat : s.service.seats i = none := by simp [State.service, hi]
  have hfree' : ∀ p, pt = some p → ∀ j b, s.service.seats j = some b → b.port ≠ some p := fun p hp j b hb hbp => by
    subst hp
    have : s.boundAt p = none := by simpa [State.portHeld] using hfree
    exact boundAt_none.mp this j (portOf_some.mpr ⟨b, hb, hbp⟩)
  have hre := h.reseat (i := i) (a := (newRecord s v c pt).seat) (Set.notMem_empty i)
    (fun b hb => by rw [hseat] at hb; cases hb) rfl rfl (fun _ => rfl) hfree'
  have hput : (setRec i (some (newRecord s v c pt)) s).service = s.service.put i (newRecord s v c pt).seat :=
    service_setRec_put _
  rw [← hput] at hre
  have hself : (setRec i (some (newRecord s v c pt)) s).service.seats i = some (newRecord s v c pt).seat := by
    rw [hput]; exact Service.put_self _ _ _
  unfold createRecord
  cases pt with
  | none =>
    have := hre.stays hself (Set.mem_insert i ∅) (by
        split
        · rfl
        · exact ⟨fun _ => rfl, fun _ => rfl⟩) (nofun : RState.idle ≠ .fed) (nofun : RState.idle ≠ .waiting)
      (fun p hp => by cases hp) fun _ _ _ he => by cases he
    rwa [Service.insert_diff (Set.notMem_empty i)] at this
  | some p =>
    refine law_enterByMode hre hself (Set.notMem_empty i) (.inl rfl) nofun fun _ => ⟨rfl, fun q hq => ?_⟩
    cases hq
    rw [hput]
    exact h.bare p (hfree' p rfl)

/-! ### AMEND's terms -/

theorem service_amendCeilingWork (v : Nat) (i : Idx) (s : State) : (amendCeilingWork v i s).service = s.service := by
  have h : (updRec i (fun r => { r with ceiling := clampTo 50 1000 v }) s).service = s.service :=
    service_updRec (f := fun r => { r with ceiling := clampTo 50 1000 v }) (fun _ => rfl) i s
  unfold amendCeilingWork
  dsimp only
  split
  · rw [service_callDecision, h]
  · exact h

theorem law_amendCapWork (h : s.service.Law M X ∅) (c : Option Nat) (i : Idx) :
    (amendCapWork c i s).service.Law M X ∅ := by
  unfold amendCapWork
  cases hr : s.rec? i with
  | none => exact h
  | some r =>
    dsimp only
    cases c with
    | none =>
      show (setRec i (some { r with cap := none }) s).service.Law M X ∅
      rw [service_setRec (q := { r with cap := none }) hr rfl]
      exact h
    | some c =>
      dsimp only
      split
      · have hs : (setRec i (some { r with cap := some c, allowance := c }) s).service = s.service :=
          service_setRec (q := { r with cap := some c, allowance := c }) hr rfl
        have hp := (service_pool ((setRec i (some { r with cap := some c, allowance := c }) s).meter.pool +
          (r.allowance - c)) (setRec i (some { r with cap := some c, allowance := c }) s)).trans hs
        have h' := h
        rw [← hp] at h'
        split
        · next hc =>
          refine law_lapse h' (Set.notMem_empty i) (x := r.st) ((stOf_congr hp i).trans (stOf_rec hr)) ?_ ?_
          · rcases hc.2 with he | he <;> rw [he] <;> decide
          · rcases hc.2 with he | he <;> rw [he] <;> decide
        · exact h'
      · rw [service_setRec (q := { r with cap := some c }) hr rfl]; exact h

/-- The orders of R20 leave a record that CRITICAL asks nothing of. -/
theorem law_criticalClassChange (h : s.service.Law M (insert i ∅) ∅) : (criticalClassChange i s).service.Law M ∅ ∅ := by
  have settle : ∀ t : State, t.service.Law M (insert i ∅) ∅ → (∀ x, t.stOf i = some x → ¬x.serving) →
      t.service.Law M ∅ ∅ := fun t ht hx => by
    have := ht.settled (i := i) fun _ _ a ha hs => absurd hs (hx _ (stOf_seat ha))
    rwa [Service.insert_diff (Set.notMem_empty i)] at this
  have carried : ∀ (x : RState) (u : State), s.stOf i = some x → x ≠ .idle → x ≠ .carrying →
      u.service = (leaveService i s).service → (order .rest i (enter .carrying i u)).service.Law M ∅ ∅ :=
    fun x u hx hid hne hu => by
      rw [service_order]
      refine settle _ (law_reenter h (Set.notMem_empty i) hx hid hu false hne rfl) fun y hy => ?_
      have hux : u.stOf i = some x := by
        obtain ⟨a, ha, rfl⟩ := stOf_some.mp hx
        rw [stOf_congr hu]
        exact stOf_some.mpr ⟨_, (law_leave h ha).2, rfl⟩
      have := stOf_enterState hux false .carrying
      rw [show enter .carrying i u = enterState false .carrying i u from rfl, this] at hy
      cases hy
      simp [RState.serving]
  unfold criticalClassChange
  split
  · next hx => exact carried _ _ hx (by decide) (by decide) (by rw [leaveService, hx])
  · next hx => exact carried _ _ hx (by decide) (by decide) (by rw [leaveService, hx])
  · next hx => exact carried _ _ hx (by decide) (by decide) (by rw [service_setTested, leaveService, hx])
  · next hx =>
    rw [service_order]
    exact settle _ h fun y hy => by cases hx.symm.trans hy; simp [RState.serving]
  · next hx =>
    rw [service_order]
    exact settle _ h fun y hy => by cases hx.symm.trans hy; simp [RState.serving]
  · next h1 h2 h3 _ _ =>
    exact settle _ h fun y hy hs => by
      rcases hs with rfl | rfl | rfl
      · exact h1 hy
      · exact h2 hy
      · exact h3 hy

theorem law_amendClassWork (h : s.service.Law M ∅ ∅) (c : Cls) (i : Idx) :
    (amendClassWork c i s).service.Law M ∅ ∅ := by
  unfold amendClassWork
  cases hr : s.rec? i with
  | none => exact h
  | some r =>
    dsimp only
    split
    · exact h
    · have ha := seat_of_rec hr
      have hput : (setRec i (some { r with cls := c }) s).service = s.service.put i { r.seat with cls := c } :=
        service_setRec_put _
      have key : ∀ t : State, t = (if r.st = .waiting then joinTail i (leaveQueue i (setRec i (some { r with cls := c }) s))
            else setRec i (some { r with cls := c }) s) →
          t.service.Law M (insert i ∅) ∅ ∧ t.supply.mode = s.supply.mode ∧ t.stOf i = some r.st := fun t ht => by
        subst ht
        split
        · next hw =>
          have hl := h.leave ha
          have hbound := h.bound ha (Set.notMem_empty i) (show r.st ≠ .idle by rw [hw]; decide)
          have hlev := fun p hp => h.level i r.seat p ha (Set.notMem_empty i) hp
          have hcls := hl.recls (Service.put_self _ _ _)
            (fun hq => ((hl.queue i).mp hq).1 (Set.mem_insert i ∅)) c
          have hne : r.st ≠ .fed := by rw [hw]; decide
          have hadm : r.admitted = none := by
            have := h.admitted i r.seat ha
            cases hn : r.admitted with
            | none => rfl
            | some n => exact absurd (this.mp (by show r.admitted.isSome = true; rw [hn]; rfl)).2 hne
          have hif : i ∉ s.arbiter.feedList := fun hf => by
            obtain ⟨-, b, hb, hbf⟩ := (h.feed i).mp hf
            cases ha.symm.trans hb
            exact hne hbf
          have hv : (leaveQueue i (setRec i (some { r with cls := c }) s)).service =
              (s.service.leave i r.seat).put i { r.seat with admitted := none, cls := c } := by
            have hseats : (s.service.put i { r.seat with cls := c }).seats =
                ((s.service.leave i r.seat).put i { r.seat with admitted := none, cls := c }).seats := by
              funext j
              by_cases hj : j = i
              · subst hj
                rw [Service.put_self, Service.put_self]
                simp [Record.seat, hadm]
              · rw [Service.put_other _ _ hj, Service.put_other _ _ hj]
                exact (Service.put_other _ _ hj).symm
            have : (leaveQueue i (setRec i (some { r with cls := c }) s)).service =
                { (setRec i (some { r with cls := c }) s).service with
                  queue := s.arbiter.queue.filter (· ≠ i) } := rfl
            rw [this, hput]
            unfold Service.put Service.leave at hseats ⊢
            simp only [Service.mk.injEq] at hseats ⊢
            exact ⟨hseats, rfl, rfl, (filter_ne_self hif).symm, rfl, rfl, rfl⟩
          have hplaced : Service.Placed M (insert i ∅) (leaveQueue i (setRec i (some { r with cls := c }) s)).service i := by
            rw [hv]
            refine ⟨_, Service.put_self _ _ _, hw, hbound.1, hbound.2, fun p hp => ?_,
              fun _ _ hX => absurd (Set.mem_insert i ∅) hX⟩
            have := hlev p hp
            rw [if_neg (show r.seat.st ≠ .fed from hne)] at this
            rw [show r.seat.st = .waiting from hw] at this
            exact this
          rw [← hv] at hcls
          refine ⟨?_, rfl, ?_⟩
          · have hj := hplaced.joins hcls (Set.notMem_empty i)
              (ahead := fun j => decide ((leaveQueue i (setRec i (some { r with cls := c }) s)).service.rank j ≤
                (leaveQueue i (setRec i (some { r with cls := c }) s)).service.rank i))
              (fun j hj => by simpa using hj) fun j hj => by simp at hj; omega
            have he : (joinTail i (leaveQueue i (setRec i (some { r with cls := c }) s))).service =
                { (leaveQueue i (setRec i (some { r with cls := c }) s)).service with
                  queue := insertBehind (fun j => decide
                    ((leaveQueue i (setRec i (some { r with cls := c }) s)).service.rank j ≤
                      (leaveQueue i (setRec i (some { r with cls := c }) s)).service.rank i)) i
                    (leaveQueue i (setRec i (some { r with cls := c }) s)).service.queue } := by
              rw [show (leaveQueue i (setRec i (some { r with cls := c }) s)).service.rank =
                (leaveQueue i (setRec i (some { r with cls := c }) s)).rankOf from funext (service_rank _)]
              rfl
            rw [he]; exact hj
          · show (setRec i (some { r with cls := c }) s).stOf i = _
            simp [State.stOf]
        · next hw =>
          refine ⟨?_, rfl, by simp [State.stOf]⟩
          rw [hput]
          refine h.recls ha (fun hq => ?_) c
          obtain ⟨-, b, hb, hbw⟩ := (h.queue i).mp hq
          cases ha.symm.trans hb
          exact hw hbw
      obtain ⟨hl, hmode, hst⟩ := key _ rfl
      split
      · exact law_criticalClassChange hl
      · next hn =>
        have := hl.settled (i := i) fun m hcr a ha' hs => ?_
        · rwa [Service.insert_diff (Set.notMem_empty i)] at this
        · exfalso
          have hcr' : s.supply.mode = .critical := hmode.symm.trans hcr
          have has : a.st = r.st := by simpa using (stOf_seat ha').symm.trans hst
          rw [has] at hs
          exact hn ⟨hcr', h.critical m hcr' i r.seat ha (Set.notMem_empty i) hs⟩

end Law

end Sys2Proof.Machine
end

section
/-! The owners of the requests keep the laws of service, from AMEND as a whole to the settings. -/

namespace Sys2Proof.Machine

open Sys2Proof

/-- What each step of a fold establishes for its own element, and keeps for every other, holds of all at the end. -/
theorem foldl_each {α : Type} {f : State → α → State} {P : α → State → Prop} (h1 : ∀ s a, P a (f s a))
    (h2 : ∀ s a b, P b s → P b (f s a)) (l : List α) (s : State) : ∀ a ∈ l, P a (l.foldl f s) := by
  induction l generalizing s with
  | nil => intro a ha; cases ha
  | cons b l ih =>
    intro a ha
    rw [List.foldl_cons]
    rcases List.mem_cons.mp ha with rfl | ha
    · exact foldl_keeps (Q := P a) (fun t c ht => h2 t c a ht) l (h1 s a)
    · exact ih (f s b) a ha

section Law

variable {M : Prop} {X T : Set Idx} {s t : State} {i : Idx} {a : Seat}

/-! ### AMEND -/

/-- The terms of an AMEND keep what the work of each keeps. -/
theorem amendTerms_keeps {Q : State → Prop} {i : Idx} (h1 : ∀ v s, Q s → Q (amendCeilingWork v i s))
    (h2 : ∀ c s, Q s → Q (amendCapWork c i s)) (h3 : ∀ c s, Q s → Q (amendClassWork c i s)) (l : List AmendChange)
    {s : State} (h : Q s) : Q (amendTerms l i s) := by
  have hceil : ∀ s, Q s → Q (match ceilingIn l with
      | some v => amendCeilingWork v i s
      | none => s) := fun s h => by
    split
    · exact h1 _ s h
    · exact h
  have hcap : ∀ s, Q s → Q (match capIn l with
      | some c => amendCapWork c i s
      | none => s) := fun s h => by
    split
    · exact h2 _ s h
    · exact h
  have hcls : ∀ s, Q s → Q (match (classIn l).bind clsOf with
      | some c => amendClassWork c i s
      | none => s) := fun s h => by
    split
    · exact h3 _ s h
    · exact h
  exact hcls _ (hcap _ (hceil _ h))

theorem law_amendTerms (h : s.service.Law M ∅ ∅) (l : List AmendChange) (i : Idx) :
    (amendTerms l i s).service.Law M ∅ ∅ :=
  amendTerms_keeps (Q := fun s => s.service.Law M ∅ ∅) (fun v s h => by rw [service_amendCeilingWork]; exact h)
    (fun c s h => law_amendCapWork h c i) (fun c s h => law_amendClassWork h c i) l h

/-- The terms of an AMEND leave a FAULTED record FAULTED. -/
theorem faulted_amendTerms (h : s.stOf i = some .faulted) (l : List AmendChange) :
    (amendTerms l i s).stOf i = some .faulted := by
  have hcap : ∀ (u : State) (c : Option Nat), u.stOf i = some .faulted → (amendCapWork c i u).stOf i = some .faulted := by
    intro u c hu
    unfold amendCapWork
    cases hr : u.rec? i with
    | none => exact hu
    | some r =>
      have hst : r.st = .faulted := by rw [stOf_rec hr] at hu; simpa using hu
      have hs : ∀ q : Record, q.st = r.st → (setRec i (some q) u).stOf i = some .faulted := fun q hq => by
        simp [State.stOf, hq, hst]
      cases c with
      | none => exact hs _ rfl
      | some c =>
        dsimp only
        split
        · rw [if_neg (by simp [hst])]
          exact hs _ rfl
        · exact hs _ rfl
  have hcls : ∀ (u : State) (c : Cls), u.stOf i = some .faulted → (amendClassWork c i u).stOf i = some .faulted := by
    intro u c hu
    unfold amendClassWork
    cases hr : u.rec? i with
    | none => exact hu
    | some r =>
      have hst : r.st = .faulted := by rw [stOf_rec hr] at hu; simpa using hu
      have hs : (setRec i (some { r with cls := c }) u).stOf i = some .faulted := by simp [State.stOf, hst]
      dsimp only
      split
      · exact hu
      · rw [if_neg (show ¬r.st = .waiting by rw [hst]; decide)]
        split
        · unfold criticalClassChange
          rw [hs]
          exact hs
        · exact hs
  exact amendTerms_keeps (Q := fun s => s.stOf i = some .faulted)
    (fun v s h => (stOf_congr (service_amendCeilingWork v i s) i).trans h) (fun c s h => hcap s c h)
    (fun c s h => hcls s c h) l h

theorem law_clearFaultWork (h : s.service.Law M X ∅) (hx : s.stOf i = some .faulted) :
    (clearFaultWork i s).service.Law M X ∅ := by
  unfold clearFaultWork
  cases hp : s.portOf i with
  | none => exact h
  | some p =>
    obtain ⟨a, ha, hst⟩ := stOf_some.mp hx
    obtain ⟨hb, hm⟩ := h.bound ha (Set.notMem_empty i) (by rw [hst]; decide)
    have hs : (updCell p (fun c => { c with faultCount := 0 }) s).service = s.service := service_updCell ⟨rfl, rfl⟩
    have hl := h.lift (i := i) fun b hb => by cases ha.symm.trans hb; rw [hst]; decide
    rw [← hs] at hl
    exact law_enterByMode hl (by rw [hs]; exact ha) (Set.notMem_empty i) (.inr hst) hb fun hmm => absurd hmm hm

/-- The port that an accepted AMEND names is taken by no other record (check 4 of R16). -/
theorem amend_port_free {l : List AmendChange} {p : Port} (hf : amendRefusal l i s = none)
    (hp : (portIn l).bind portOfByte = some p) : s.takenByOther i p = false := by
  unfold amendRefusal at hf
  rw [hp] at hf
  cases hc : s.takenByOther i p with
  | false => rfl
  | true =>
    simp only [Option.any_some, hc, if_true] at hf
    split at hf <;> cases hf

/-- A clear-fault comes with no port change, and to a FAULTED record (checks 1 and 5 of R16). -/
theorem amend_fault_alone {l : List AmendChange} (hc : changesFit l = true) (hf : amendRefusal l i s = none)
    (hl : faultIn l = true) : unbindIn l = false ∧ portIn l = none ∧ s.stOf i = some .faulted := by
  have hfit : unbindIn l = false ∧ portIn l = none := by
    simp only [changesFit, hl, Bool.and_eq_true, Bool.true_and, Bool.not_eq_true', Bool.or_eq_false_iff] at hc
    exact ⟨hc.2.1, by simpa using hc.2.2⟩
  refine ⟨hfit.1, hfit.2, ?_⟩
  unfold amendRefusal at hf
  simp only [hfit.2, hl, Option.any_none, Option.bind_none, Bool.false_eq_true, if_false, Bool.true_and] at hf
  cases hi : s.isIn .faulted i with
  | true => simpa [State.isIn] using hi
  | false => simp [hi] at hf

theorem law_amendWork (h : s.service.Law M ∅ ∅) {l : List AmendChange} (hc : changesFit l = true)
    (hf : amendRefusal l i s = none) : (amendWork l i s).service.Law M ∅ ∅ := by
  have ht := law_amendTerms h l i
  have hb : (amendBinding l i (amendTerms l i s)).service.Law M ∅ ∅ := by
    have hbind : (match (portIn l).bind portOfByte with
        | some p => bindWork p i (amendTerms l i s)
        | none => amendTerms l i s : State).service.Law M ∅ ∅ := by
      split
      · next p hp =>
        refine law_bindWork ht p fun j hj => ?_
        rw [portOf_eq, roster_of_fixed (fixed_amendTerms l i s), ← portOf_eq]
        exact free_of_not_taken (uniquePorts_of_law h) (amend_port_free hf hp) j hj
      · exact ht
    unfold amendBinding
    dsimp only
    split
    · exact law_unbindWork hbind i
    · exact hbind
  rw [amendWork_eq]
  split
  · next hl =>
    obtain ⟨hu, hp, hx⟩ := amend_fault_alone hc hf hl
    have he : amendBinding l i (amendTerms l i s) = amendTerms l i s := by simp [amendBinding, hu, hp]
    rw [he]
    exact law_clearFaultWork ht (faulted_amendTerms hx l)
  · exact hb

/-! ### RETIRE and CLEAR -/

theorem law_retireWork (h : s.service.Law M X ∅) (i : Idx) : (retireWork i s).service.Law M X ∅ := by
  cases hr : s.rec? i with
  | none =>
    have hx : s.stOf i = none := by simp [State.stOf, hr]
    have hw : (dropAppointments i (withdraw i s)).service = s.service := by
      have he : (dropPending i (abortInFlight .aborted i s)).service = s.service := by simp
      have hst : (dropPending i (abortInFlight .aborted i s)).stOf i = none := (stOf_congr he i).trans hx
      show (withdraw i s).service = _
      unfold withdraw leaveService
      rw [hst]
      exact he
    have hn : (dropAppointments i (withdraw i s)).rec? i = none := by
      have := congrFun (congrArg Service.seats hw) i
      simpa [State.service, hr] using this
    unfold retireWork
    dsimp only
    rw [hn]
    exact hw ▸ h
  | some r =>
    have ha := seat_of_rec hr
    have hw : (dropAppointments i (withdraw i s)).service = s.service.leave i r.seat := service_withdraw i s h ha
    have hwi : (dropAppointments i (withdraw i s)).service.seats i = some { r.seat with admitted := none } := by
      rw [hw]; exact Service.put_self _ _ _
    obtain ⟨q, hq, -⟩ := seat_some.mp hwi
    have hport : s.portOf i = r.port := by simp [State.portOf, hr]
    unfold retireWork
    dsimp only
    rw [hq, hport]
    dsimp only
    have key : ∀ u : State, u.service.seats = (dropAppointments i (withdraw i s)).service.seats →
        u.service.feedList = (dropAppointments i (withdraw i s)).service.feedList →
        u.service.queue = (dropAppointments i (withdraw i s)).service.queue →
        u.service.cap = (dropAppointments i (withdraw i s)).service.cap →
        u.service.mode = (dropAppointments i (withdraw i s)).service.mode →
        (∀ p, r.port = some p → u.service.drive p = .off) →
        (∀ p, r.port ≠ some p → u.service.drive p = s.service.drive p) →
        (∀ p, u.service.drive p = .off → u.service.run p = 0 ∨ s.service.drive p = .off ∧ u.service.run p = s.service.run p) →
        (setRec i none (dropDue (.expiry i) u)).service.Law M X ∅ := fun u h1 h2 h3 h4 h5 h6 h7 h8 => by
      rw [hw] at h1 h2 h3 h4 h5
      have := (h.leave ha).vacate (w := (setRec i none (dropDue (.expiry i) u)).service) (Service.put_self _ _ _)
        (Set.mem_insert i ∅) (fun j hj => ?_) (fun b hb => ?_) h2 h3 h4 h5 h6 h7 h8
      · rwa [Service.insert_diff (Set.notMem_empty i)] at this
      · rw [seats_setRec, if_neg hj]
        exact congrFun h1 j
      · rw [seats_setRec, if_pos rfl] at hb
        cases hb
    have hcell : ∀ p, (dropAppointments i (withdraw i s)).service.drive p = s.service.drive p ∧
        (dropAppointments i (withdraw i s)).service.run p = s.service.run p := fun p => by
      rw [hw]; exact ⟨rfl, rfl⟩
    cases hp : r.port with
    | none =>
      refine key _ rfl rfl rfl rfl rfl (fun p hpp => ?_) (fun p _ => (hcell p).1) fun p hd => .inr ⟨?_, (hcell p).2⟩
      · rw [hp] at hpp; cases hpp
      · exact (hcell p).1.symm.trans hd
    | some p =>
      refine key _ rfl rfl rfl rfl rfl (fun q hq => ?_) (fun q hq => ?_) fun q hd => ?_
      · have hqp : q = p := by rw [hp] at hq; cases hq; rfl
        exact (abandon_cell p q _).1.trans (if_pos hqp)
      · have hqp : q ≠ p := fun he => hq (he ▸ hp)
        exact ((abandon_cell p q _).1.trans (if_neg hqp)).trans (hcell q).1
      · obtain h1 | ⟨h1, h2⟩ := (abandon_cell p q _).2 hd
        · exact .inl h1
        · exact .inr ⟨(hcell q).1.symm.trans h1, h2.trans (hcell q).2⟩

/-- With no record, empty collections and every cell OFF at rest, the laws hold. -/
theorem law_empty (hr : ∀ i, s.service.seats i = none) (hf : s.service.feedList = []) (hq : s.service.queue = [])
    (hc : ∀ p, s.service.drive p = .off ∧ s.service.run p = 0) : s.service.Law M X ∅ where
  ports i j a b p ha := by rw [hr] at ha; cases ha
  queueNodup := by rw [hq]; exact List.nodup_nil
  queue i := by simp [hq, hr]
  order := by rw [hq]; exact .nil
  feedNodup := by rw [hf]; exact List.nodup_nil
  feed i := by simp [hf, hr]
  admitted i a ha := by rw [hr] at ha; cases ha
  budget := by simp [hf]
  idle i a ha := by rw [hr] at ha; cases ha
  level i a p ha := by rw [hr] at ha; cases ha
  bare p _ := (hc p).1
  tested m i a ha := by rw [hr] at ha; cases ha
  still m p _ := (hc p).2
  critical m _ i a ha := by rw [hr] at ha; cases ha

theorem law_clearWork (s : State) : (clearWork s).service.Law M X ∅ := by
  have hfold : ∀ (l : List Port) (u : State), (l.foldl (fun s p => updCell p Cell.cleared s) u).slots = u.slots ∧
      (l.foldl (fun s p => updCell p Cell.cleared s) u).arbiter = u.arbiter := fun l => by
    induction l with
    | nil => exact fun u => ⟨rfl, rfl⟩
    | cons p l ih => exact fun u => ih _
  have hcells := foldl_each (f := fun s p => updCell p Cell.cleared s)
    (P := fun p s => s.service.drive p = .off ∧ s.service.run p = 0)
    (fun s p => by simp [State.service, Cell.cleared, Cell.reset])
    (fun s p q hq => by
      simp only [State.service, cells_updCell] at hq ⊢
      split
      · exact ⟨rfl, rfl⟩
      · exact hq) allPorts
  unfold clearWork
  dsimp only
  have h1 := fun u => (hfold allPorts u).1
  have h2 := fun u => (hfold allPorts u).2
  refine law_empty (fun i => ?_) ?_ ?_ fun p => hcells _ p (List.mem_finRange p)
  · simp only [State.service, State.rec?, h1]
    simp
  · exact congrArg Arbiter.feedList (h2 _)
  · exact congrArg Arbiter.queue (h2 _)

/-! ### Every owner but RESERVE's -/

theorem law_sendOwner (h : s.service.Law M X ∅) (k : ExKind) (b x : Byte) :
    (sendOwner k b x s).after.service.Law M X ∅ := by
  unfold sendOwner
  split
  · exact h
  · next i _ =>
    cases hr : s.rec? i with
    | none => exact h
    | some r =>
      dsimp only
      split
      · exact h
      · split
        · next hs =>
          show (sendWork k x.toNat i s).service.Law M X ∅
          unfold sendWork
          rw [service_ask]
          split
          · next hk =>
            subst hk
            simp only [sendAllowed, decide_eq_true_eq] at hs
            have hn : r.st ≠ .idle ∧ r.st ≠ .fed ∧ r.st ≠ .waiting ∧ r.st ≠ .waking := by
              rcases hs with he | he <;> rw [he] <;> decide
            exact law_enter h (Set.notMem_empty i) (stOf_rec hr) hn.1 hn.2.1 hn.2.2.1 false hn.2.2.2 rfl
          · exact h
        · exact h

theorem law_testOwner (h : s.service.Law M X ∅) (b : Byte) : (testOwner b s).after.service.Law M X ∅ := by
  unfold testOwner
  split
  · exact h
  · split
    · exact h
    · split
      · next he =>
        obtain ⟨hx, hm⟩ := testEligible_cases he
        exact law_enterTest h (Set.notMem_empty _) hx hm
      · exact h

theorem law_grantOwner (h : s.service.Law M X ∅) (b : Byte) (n : Nat) : (grantOwner b n s).after.service.Law M X ∅ := by
  unfold grantOwner
  split
  · exact h
  · split
    · exact h
    · exact law_grantTo h (Set.notMem_empty _) n

theorem law_enrollOwner (h : s.service.Law M X ∅) (v : Identity) (k : Byte) (p : Option Byte) :
    (enrollOwner v k p s).after.service.Law M X ∅ := by
  unfold enrollOwner
  split
  · exact h
  · split
    · exact h
    · split
      · exact h
      · split
        · exact h
        · split
          · exact h
          · next hp =>
            split
            · exact h
            · next i hi =>
              have hfree : s.rec? i = none := by
                have := List.find?_some (show allIdx.find? _ = some i from hi)
                simpa using this
              exact law_createRecord h hfree _ _ _ (by simpa using hp)

theorem law_amendOwner (h : s.service.Law M ∅ ∅) (b : Byte) (l : List AmendChange) :
    (amendOwner b l s).after.service.Law M ∅ ∅ := by
  unfold amendOwner
  split
  · exact h
  · split
    · next hc =>
      split
      · exact h
      · split
        · exact h
        · next hf => exact law_amendWork h hc hf
    · exact h

theorem service_nextOwner (s : State) : (nextOwner s).after.service = s.service := by
  unfold nextOwner
  split
  · rfl
  · split
    · rfl
    · split
      · rfl
      · exact service_updRec (f := fun r => { r with flags := 0, rep := false }) (fun _ => rfl) _ s

theorem service_bookOwner (k b : Byte) (d n : Nat) (s : State) : (bookOwner k b d n s).after.service = s.service := by
  unfold bookOwner
  split
  · rfl
  · split
    · rfl
    · split <;> rfl

theorem service_cancelOwner (k b : Byte) (s : State) : (cancelOwner k b s).after.service = s.service := by
  unfold cancelOwner
  split
  · rfl
  · split <;> rfl

theorem service_apportionOwner (s : State) : (apportionOwner s).after.service = s.service := by
  unfold apportionOwner
  split <;> rfl

theorem service_policyOwner (b : Byte) (v : Nat) (s : State) : (policyOwner b v s).after.service = s.service := by
  unfold policyOwner
  dsimp only
  split
  · simp only [State.service, Settings.setPolicy]
    split <;> rfl
  · rfl

theorem law_owner {c : Instr} {fr : Framing} {n : Nat} {o : State → Answer} (hr : requestOf c = some (fr, n, o))
    (h : s.service.Law M ∅ ∅) (hres : ∀ q, (reserveWork q s).service.Law M ∅ ∅) :
    (o s).after.service.Law M ∅ ∅ := by
  have same : (o s).after.service = s.service → (o s).after.service.Law M ∅ ∅ := fun he => by rw [he]; exact h
  cases c <;> cases hr
  case enroll => exact law_enrollOwner h ..
  case find => exact same (by rw [after_findOwner])
  case amendCeiling => exact law_amendOwner h ..
  case amendCap => exact law_amendOwner h ..
  case amendClass => exact law_amendOwner h ..
  case amendPort => exact law_amendOwner h ..
  case unbind => exact law_amendOwner h ..
  case clearFault => exact law_amendOwner h ..
  case retire b =>
    unfold retireOwner
    split
    · exact h
    · split
      · exact h
      · exact law_retireWork h _
  case grant => exact law_grantOwner h ..
  case apportion => exact same (service_apportionOwner s)
  case book => exact same (service_bookOwner ..)
  case cancel => exact same (service_cancelOwner ..)
  case schedule => exact same (by rw [after_scheduleOwner])
  case sendWake => exact law_sendOwner h ..
  case sendQuery => exact law_sendOwner h ..
  case sendRest => exact law_sendOwner h ..
  case sendShed => exact law_sendOwner h ..
  case test => exact law_testOwner h _
  case setBusCap v =>
    show (if _ then s else changeBusCap _ s : State).service.Law M ∅ ∅
    split
    · exact h
    · exact law_changeBusCap h _
  case setClassPolicy => exact same (service_policyOwner ..)
  case get => exact same (by rw [after_getOwner])
  case reserve => exact hres _
  case state => exact same (by rw [after_stateOwner])
  case port => exact same (by rw [after_portOwner])
  case next => exact same (service_nextOwner s)
  case clear => exact law_clearWork s
  all_goals exact h

end Law

end Sys2Proof.Machine
end

section
/-! A mode entry keeps the laws of service (R39 to R45). The records that the orders reach are in transit until the pass
comes to them; MAINS and DEPLETED begin from a table whose collections are empty and whose cells are all OFF. -/

namespace Sys2Proof.Machine

open Sys2Proof

namespace Service

variable {M : Prop} {X Y T : Set Idx} {v w : Service} {i j : Idx} {a : Seat}

/-- Another mode than MAINS: the records whose state or level it does not suit go into transit. -/
theorem Law.remode (h : v.Law M X ∅) {m : Mode} (hm : m ≠ .mains) (T Y : Set Idx)
    (hT : ∀ i a, v.seats i = some a → i ∈ T → a.st ≠ .fed ∧ a.st ≠ .waiting)
    (hid : ∀ i a, v.seats i = some a → i ∉ T → (a.st = .idle ↔ a.port = none))
    (hlev : ∀ i a, v.seats i = some a → i ∉ T → driveFor m a.st = driveFor v.mode a.st)
    (hc : M → m = .critical → ∀ i a, v.seats i = some a → i ∉ Y → a.st.serving → a.cls = .lifeline) :
    ({ v with mode := m } : Service).Law M Y T where
  ports := h.ports
  queueNodup := h.queueNodup
  queue i := (h.queue i).trans ⟨fun ⟨_, a, ha, hw⟩ => ⟨fun hi => (hT i a ha hi).2 hw, a, ha, hw⟩,
    fun ⟨_, hw⟩ => ⟨Set.notMem_empty i, hw⟩⟩
  order := h.order
  feedNodup := h.feedNodup
  feed i := (h.feed i).trans ⟨fun ⟨_, a, ha, hw⟩ => ⟨fun hi => (hT i a ha hi).1 hw, a, ha, hw⟩,
    fun ⟨_, hw⟩ => ⟨Set.notMem_empty i, hw⟩⟩
  admitted i a ha := (h.admitted i a ha).trans ⟨fun ⟨_, hf⟩ => ⟨fun hi => (hT i a ha hi).1 hf, hf⟩,
    fun ⟨_, hf⟩ => ⟨Set.notMem_empty i, hf⟩⟩
  budget := h.budget
  idle i a ha hi := by
    rw [if_neg hm]; exact hid i a ha hi
  level i a p ha hi hp := by
    have := h.level i a p ha (Set.notMem_empty i) hp
    show if a.st = .fed then _ else v.drive p = driveFor m a.st
    rw [hlev i a ha hi]; exact this
  bare := h.bare
  tested := h.tested
  still := h.still
  critical := hc

/-- Outside CRITICAL nothing is exempt from what it asks. -/
theorem Law.anyX (h : v.Law M X T) (Y : Set Idx) (hm : v.mode ≠ .critical) : v.Law M Y T :=
  { h with critical := fun _ hc => absurd hc hm }

/-- Free slots need no exemption from what CRITICAL asks. -/
theorem Law.settledAll (h : v.Law M X T) (hX : ∀ i ∈ X, v.seats i = none) : v.Law M ∅ T :=
  { h with
    critical := fun m hm i a ha _ hs => h.critical m hm i a ha (fun hi => by rw [hX i hi] at ha; cases ha) hs }

/-- With empty collections, no admitted current and every cell OFF, the laws hold with every record in transit. -/
theorem Law.stripped (h : v.Law M X T) (hs : ∀ i, w.seats i = (v.seats i).map fun a => { a with admitted := none })
    (hf : w.feedList = []) (hq : w.queue = []) (hoff : ∀ p, w.drive p = .off)
    (hr : M → ∀ p, w.run p = 0) (hm : w.mode ≠ .critical) : w.Law M ∅ Set.univ := by
  have hseat : ∀ i b, w.seats i = some b → ∃ a, v.seats i = some a ∧ b = { a with admitted := none } := fun i b hb => by
    rw [hs] at hb
    obtain ⟨a, ha, he⟩ := Option.map_eq_some_iff.mp hb
    exact ⟨a, ha, he.symm⟩
  refine ⟨fun i j b c p hb hc hbp hcp => ?_, by rw [hq]; exact List.nodup_nil, fun i => by simp [hq], by rw [hq]; exact .nil,
    by rw [hf]; exact List.nodup_nil, fun i => by simp [hf], fun i b hb => ?_, by simp [hf],
    fun i b _ hi => absurd (Set.mem_univ i) hi, fun i b p _ hi => absurd (Set.mem_univ i) hi, fun p _ => hoff p,
    fun m i b hb => ?_, fun m p _ => hr m p, fun _ hc => absurd hc hm⟩
  · obtain ⟨a, ha, rfl⟩ := hseat i b hb
    obtain ⟨d, hd, rfl⟩ := hseat j c hc
    exact h.ports i j a d p ha hd hbp hcp
  · obtain ⟨a, ha, rfl⟩ := hseat i b hb
    simp
  · obtain ⟨a, ha, rfl⟩ := hseat i b hb
    exact h.tested m i a ha

end Service

section Law

variable {M : Prop} {X T : Set Idx} {s t : State} {i j : Idx} {a : Seat}

/-! ### Passes over the table -/

/-- A pass over a list of slots takes the records in transit back into service one by one. -/
theorem law_drain {f : State → Idx → State} (D : Idx → Prop) (C : Idx → State → Prop)
    (hin : ∀ (s : State) (T : Set Idx) (i : Idx), D i → i ∉ T → s.service.Law M X (insert i T) → C i s →
      (f s i).service.Law M X T)
    (hout : ∀ (s : State) (T : Set Idx) (i : Idx), ¬D i → s.service.Law M X T → C i s → (f s i).service.Law M X T)
    (hkeep : ∀ (s : State) (i j : Idx), j ≠ i → C j s → C j (f s i)) (l : List Idx) (hn : l.Nodup) {s : State}
    (h : s.service.Law M X {j | j ∈ l ∧ D j}) (hC : ∀ i ∈ l, C i s) : (l.foldl f s).service.Law M X ∅ := by
  induction l generalizing s with
  | nil => simpa using h
  | cons i l ih =>
    obtain ⟨hil, hnl⟩ := List.nodup_cons.mp hn
    have hCi := hC i List.mem_cons_self
    rw [List.foldl_cons]
    refine ih hnl ?_ fun j hj => hkeep s i j (fun he => hil (he ▸ hj)) (hC j (List.mem_cons_of_mem i hj))
    by_cases hD : D i
    · refine hin s _ i hD (fun hi => hil hi.1) ?_ hCi
      have : insert i {j | j ∈ l ∧ D j} = {j | j ∈ i :: l ∧ D j} := by
        ext j
        show j = i ∨ j ∈ l ∧ D j ↔ j ∈ i :: l ∧ D j
        rw [List.mem_cons]
        constructor
        · rintro (rfl | h)
          · exact ⟨.inl rfl, hD⟩
          · exact ⟨.inr h.1, h.2⟩
        · rintro ⟨rfl | h, hd⟩
          · exact .inl rfl
          · exact .inr ⟨h, hd⟩
      rw [this]; exact h
    · refine hout s _ i hD ?_ hCi
      have : {j | j ∈ l ∧ D j} = {j | j ∈ i :: l ∧ D j} := by
        ext j
        show j ∈ l ∧ D j ↔ j ∈ i :: l ∧ D j
        rw [List.mem_cons]
        constructor
        · exact fun h => ⟨.inr h.1, h.2⟩
        · rintro ⟨rfl | h, hd⟩
          · exact absurd hd hD
          · exact ⟨h, hd⟩
      rw [this]; exact h

theorem mem_classOrder : i ∈ s.classOrder ↔ s.rec? i ≠ none := by
  have hm : ∀ c, i ∈ allIdx.filter (s.ofClass c) ↔ s.ofClass c i = true := fun c => by
    simp [List.mem_filter, allIdx]
  unfold State.classOrder
  rw [List.mem_append, List.mem_append, hm, hm, hm]
  simp only [State.ofClass, decide_eq_true_eq]
  cases hr : s.rec? i with
  | none => simp
  | some r => cases hc : r.cls <;> simp [hc]

theorem nodup_classOrder (s : State) : s.classOrder.Nodup := by
  have hn : ∀ c, (allIdx.filter (s.ofClass c)).Nodup := fun c => (List.nodup_finRange 64).filter _
  have hd : ∀ c d, c ≠ d → ∀ x ∈ allIdx.filter (s.ofClass c), ∀ y ∈ allIdx.filter (s.ofClass d), x ≠ y :=
    fun c d hcd x hx y hy he => by
      subst he
      have h1 := (List.mem_filter.mp hx).2
      have h2 := (List.mem_filter.mp hy).2
      simp only [State.ofClass, decide_eq_true_eq] at h1 h2
      rw [h1] at h2
      exact hcd (Option.some.inj h2)
  unfold State.classOrder
  refine List.nodup_append.mpr ⟨List.nodup_append.mpr ⟨hn _, hn _, hd _ _ (by decide)⟩, hn _, fun x hx y hy => ?_⟩
  rcases List.mem_append.mp hx with hx | hx
  · exact hd .lifeline .deferred (by decide) x hx y hy
  · exact hd .standard .deferred (by decide) x hx y hy

theorem seat_none (h : s.rec? i = none) : s.service.seats i = none := by simp [State.service, h]

/-- A state entry touches no other seat. -/
theorem seats_enterState (hj : j ≠ i) (b : Bool) (st : RState) :
    (enterState b st i s).service.seats j = s.service.seats j := by
  obtain h | ⟨r, hr, hne, -⟩ := enterState_steps b st i s
  · rw [h]
  · exact (moved_enterState (b := b) (seat_of_rec hr) (show r.seat.st ≠ st from hne)).other hj

theorem mode_enterState (b : Bool) (st : RState) : (enterState b st i s).supply.mode = s.supply.mode := by
  rw [supply_of_outer (outer_enterState b st i s)]

/-- An order to OFF leaves every cell OFF where all are. -/
theorem off_enterState (h : ∀ p, s.service.drive p = .off) {st : RState} (hd : driveFor s.supply.mode st = .off)
    (b : Bool) (p : Port) : (enterState b st i s).service.drive p = .off := by
  obtain he | ⟨r, hr, hne, -⟩ := enterState_steps b st i s
  · rw [he]; exact h p
  · have hm := moved_enterState (b := b) (seat_of_rec hr) (show r.seat.st ≠ st from hne)
    by_cases hp : r.seat.port = some p
    · exact (hm.level p hp).trans hd
    · exact (hm.others p hp).1.trans (h p)

/-- A free slot in transit. -/
theorem law_free (h : s.service.Law M X (insert i T)) (hi : i ∉ T) (hr : s.rec? i = none) : s.service.Law M X T := by
  have := h.free (seat_none hr)
  rwa [Service.insert_diff hi] at this

/-- A record in transit that stands where its state wants it. -/
theorem law_stays (h : s.service.Law M X (insert i T)) (hi : i ∉ T) (ha : s.service.seats i = some a)
    (hid : if s.supply.mode = .mains then a.st = .idle else (a.st = .idle ↔ a.port = none)) (hfed : a.st ≠ .fed)
    (hwait : a.st ≠ .waiting) (htest : a.st ≠ .testing)
    (hl : ∀ p, a.port = some p → s.service.drive p = driveFor s.supply.mode a.st) : s.service.Law M X T := by
  have := h.stays ha (Set.mem_insert i T) hid hfed hwait hl fun _ _ _ he => absurd he htest
  rwa [Service.insert_diff hi] at this

/-! ### Leaving MAINS -/

theorem waveRecord_eq (s : State) (i : Idx) : (waveRecord s i).service =
    (if s.portOf i = none then s else enter .carrying i s : State).service := by
  unfold waveRecord
  cases s.portOf i with
  | none => rfl
  | some p => rw [service_order]; rfl

/-- The QUERY wave takes every record up from IDLE (R40). -/
theorem law_queryWave {m : Mode} (hm : m ≠ .mains) (hs : s.supply.mode = m)
    (h : s.service.Law M X {j | j ∈ s.classOrder}) (hidle : ∀ i a, s.service.seats i = some a → a.st = .idle) :
    (queryWave s).service.Law M X ∅ := by
  refine law_drain (fun _ => True) (fun i t => t.supply.mode = m ∧ ∀ a, t.service.seats i = some a → a.st = .idle)
    (fun t T i _ hi hl hC => ?_) (fun t T i hD => absurd trivial hD) (fun t i j hj hC => ?_) _ (nodup_classOrder s)
    (by simpa using h) fun i _ => ⟨hs, hidle i⟩
  · rw [waveRecord_eq]
    cases hr : t.rec? i with
    | none => rw [if_pos (by simp [State.portOf, hr])]; exact law_free hl hi hr
    | some r =>
      have hst := hC.2 _ (seat_of_rec hr)
      split
      · next hp =>
        have hp' : r.seat.port = none := by simpa [State.portOf, hr, Record.seat] using hp
        refine law_stays hl hi (seat_of_rec hr) ?_ (by rw [hst]; decide) (by rw [hst]; decide) (by rw [hst]; decide)
          fun p hpp => by rw [hp'] at hpp; cases hpp
        rw [if_neg (by rw [hC.1]; exact hm)]
        exact ⟨fun _ => hp', fun _ => hst⟩
      · next hp =>
        have hp' : r.seat.port ≠ none := by simpa [State.portOf, hr, Record.seat] using hp
        have hT : Service.Transit M X T i r.seat t.service := ⟨hl, seat_of_rec hr, hi, hp', by
          show t.supply.mode ≠ .mains
          rw [hC.1]; exact hm⟩
        exact hT.enters false (by rw [hst]; decide) (by decide) (by decide) (by decide) fun _ _ _ he => by cases he
  · have he := waveRecord_eq t i
    constructor
    · refine (congrArg Service.mode he).trans ?_
      split
      · exact hC.1
      · exact (mode_enterState false .carrying).trans hC.1
    · rw [he]
      split
      · exact hC.2
      · rw [enter, seats_enterState hj]; exact hC.2

/-! ### CRITICAL -/

/-- The first pass of CRITICAL entry takes a non-LIFELINE record out of service (R41). -/
theorem law_criticalRelease (h : s.service.Law M X ∅) (i : Idx) : (criticalRelease s i).service.Law M (X \ {i}) ∅ := by
  have settle : ∀ t : State, t.service.Law M X ∅ → (∀ x, t.stOf i = some x → ¬x.serving) →
      t.service.Law M (X \ {i}) ∅ := fun t ht hx =>
    ht.settled fun _ _ a ha hs => absurd hs (hx _ (stOf_seat ha))
  have carried : ∀ (x : RState) (u : State), s.stOf i = some x → x ≠ .idle → x ≠ .carrying →
      u.service = (leaveService i s).service → (enter .carrying i u).service.Law M (X \ {i}) ∅ :=
    fun x u hx hid hne hu => by
      refine settle _ (law_reenter h (Set.notMem_empty i) hx hid hu false hne rfl) fun y hy => ?_
      have hux : u.stOf i = some x := by
        obtain ⟨a, ha, rfl⟩ := stOf_some.mp hx
        rw [stOf_congr hu]
        exact stOf_some.mpr ⟨_, (law_leave h ha).2, rfl⟩
      have := stOf_enterState hux false .carrying
      rw [show enter .carrying i u = enterState false .carrying i u from rfl, this] at hy
      cases hy
      simp [RState.serving]
  unfold criticalRelease
  split
  · next hl =>
    refine h.settled fun _ _ a ha _ => ?_
    obtain ⟨r, hr, rfl⟩ := seat_some.mp ha
    simpa [State.lifeline, State.ofClass, hr, Record.seat] using hl
  · split
    · next hx => exact carried _ _ hx (by decide) (by decide) (by rw [leaveService, hx])
    · next hx => exact carried _ _ hx (by decide) (by decide) (by rw [leaveService, hx])
    · next hx => exact carried _ _ hx (by decide) (by decide) (by rw [service_setTested, leaveService, hx])
    · next h1 h2 h3 =>
      exact settle _ h fun y hy hs => by
        rcases hs with rfl | rfl | rfl
        · exact h1 hy
        · exact h2 hy
        · exact h3 hy

theorem service_criticalRest (s : State) (i : Idx) : (criticalRest s i).service = s.service := by
  unfold criticalRest
  split
  · rfl
  · split
    · simp
    · simp
    · rfl

/-- No work of CRITICAL entry fills or empties a slot. -/
theorem occupied_criticalRelease (h : s.rec? j = none) (i : Idx) : (criticalRelease s i).rec? j = none := by
  have key : ∀ t : State, t.fixed = s.fixed → t.rec? j = none := fun t ht => by
    have := congrFun (roster_of_fixed ht) j
    simpa [State.roster, h] using this
  refine key _ ?_
  unfold criticalRelease
  split
  · rfl
  · split <;> simp

theorem law_criticalOrders (h : s.service.Law M X ∅) : (criticalOrders s).service.Law M ∅ ∅ := by
  have hpass : ∀ (l : List Idx) (X : Set Idx) (s : State), s.service.Law M X ∅ →
      (l.foldl criticalRelease s).service.Law M (X \ {j | j ∈ l}) ∅ ∧
      ∀ j, s.rec? j = none → (l.foldl criticalRelease s).rec? j = none := fun l => by
    induction l with
    | nil => intro X s h; exact ⟨by simpa using h, fun _ h => h⟩
    | cons i l ih =>
      intro X s h
      obtain ⟨h1, h2⟩ := ih (X \ {i}) _ (law_criticalRelease h i)
      refine ⟨?_, fun j hj => h2 j (occupied_criticalRelease hj i)⟩
      have : X \ {j | j ∈ i :: l} = (X \ {i}) \ {j | j ∈ l} := by
        ext j
        show j ∈ X ∧ ¬j ∈ i :: l ↔ (j ∈ X ∧ ¬j = i) ∧ ¬j ∈ l
        rw [List.mem_cons]
        tauto
      rw [this]; exact h1
  obtain ⟨h1, h2⟩ := hpass s.classOrder X s h
  unfold criticalOrders
  dsimp only
  rw [service_foldl _ service_criticalRest]
  refine h1.settledAll fun i hi => seat_none (h2 i ?_)
  by_contra hr
  exact hi.2 (mem_classOrder.mpr hr)

/-! ### Leaving DEPLETED -/

/-- A SILENT record that is not woken: its cell takes its level, its countdown is loaded, and a REST is asked for. -/
theorem leaveDepletedRecord_rest {r : Record} (hr : s.rec? i = some r) (hst : r.st = .silent)
    (hn : ¬(s.supply.mode = .outage ∨ r.cls = .lifeline)) : ∃ c, leaveDepletedRecord s i =
      order .rest i (setCountdown i c (orderAt r.port 0 .sense s)) := by
  unfold leaveDepletedRecord orderAt
  rw [hr]
  dsimp only
  rw [if_pos hst, if_neg hn]
  cases r.port with
  | none => exact ⟨_, rfl⟩
  | some p => exact ⟨_, rfl⟩

/-- A SILENT record is woken, or its cell takes its level (R44). -/
theorem law_leaveDepletedRecord (hl : s.service.Law M X (insert i T)) (hi : i ∉ T) (hx : s.stOf i = some .silent)
    (hb : ∀ a, s.service.seats i = some a → a.port ≠ none) (hm : s.supply.mode = .outage ∨ s.supply.mode = .critical) :
    (leaveDepletedRecord s i).service.Law M X T := by
  have hmains : s.supply.mode ≠ .mains := by rcases hm with hm | hm <;> rw [hm] <;> decide
  cases hr : s.rec? i with
  | none => rw [State.stOf, hr] at hx; cases hx
  | some r =>
    have ha := seat_of_rec hr
    have hst : r.st = .silent := by rw [stOf_rec hr] at hx; simpa using hx
    have hp : r.seat.port ≠ none := hb _ ha
    by_cases hw : s.supply.mode = .outage ∨ r.cls = .lifeline
    · have he : leaveDepletedRecord s i = order .wake i (enter .waking i s) := by
        simp only [leaveDepletedRecord, hr, hst, if_true, hw]
      rw [he, service_order]
      have hT : Service.Transit M X T i r.seat s.service := ⟨hl, ha, hi, hp, hmains⟩
      refine hT.enters false ?_ (by decide) (by decide) (by decide) fun _ _ _ he => by cases he
      show r.st ≠ .waking
      rw [hst]; decide
    · obtain ⟨c, hc⟩ := leaveDepletedRecord_rest hr hst hw
      rw [hc, service_order, service_setCountdown]
      have hlev : Drive.sense = driveFor s.supply.mode r.seat.st := by
        show _ = driveFor s.supply.mode r.st
        rcases hm with hm | hm <;> rw [hst, hm] <;> rfl
      have hmv := moved_orderAt ha 0 .sense hlev
      have hid : if s.service.mode = .mains then r.seat.st = .idle else (r.seat.st = .idle ↔ r.seat.port = none) := by
        rw [if_neg (show s.service.mode ≠ .mains from hmains)]
        refine ⟨fun he => ?_, fun he => absurd he hp⟩
        rw [show r.seat.st = r.st from rfl, hst] at he
        cases he
      have := hl.moved hmv ha (Set.mem_insert i T) hid (by show r.st ≠ _; rw [hst]; decide)
        (by show r.st ≠ _; rw [hst]; decide) fun _ _ _ he => by
          rw [show r.seat.st = r.st from rfl, hst] at he
          cases he
      rw [Service.insert_diff hi] at this
      exact this

/-- The pass touches no other seat, and not the mode. -/
theorem leaveDepletedRecord_other (hj : j ≠ i) : (leaveDepletedRecord s i).service.seats j = s.service.seats j ∧
    (leaveDepletedRecord s i).service.mode = s.service.mode := by
  cases hr : s.rec? i with
  | none => simp [leaveDepletedRecord, hr]
  | some r =>
    by_cases hst : r.st = .silent
    · by_cases hw : s.supply.mode = .outage ∨ r.cls = .lifeline
      · have he : leaveDepletedRecord s i = order .wake i (enter .waking i s) := by
          simp only [leaveDepletedRecord, hr, hst, if_true, hw]
        rw [he, service_order]
        exact ⟨seats_enterState hj false .waking, mode_enterState false .waking⟩
      · obtain ⟨c, hc⟩ := leaveDepletedRecord_rest hr hst hw
        rw [hc, service_order, service_setCountdown]
        cases r.port with
        | none => exact ⟨rfl, rfl⟩
        | some p =>
          have ho := service_orderLevel p 0 .sense s
          have h1 := congrFun (congrArg Service.seats ho) j
          have h2 := congrArg Service.mode ho
          exact ⟨h1, h2⟩
    · have he : leaveDepletedRecord s i = s := by simp [leaveDepletedRecord, hr, hst]
      rw [he]
      exact ⟨rfl, rfl⟩

theorem law_leaveDepletedOrders (hm : s.supply.mode = .outage ∨ s.supply.mode = .critical)
    (h : s.service.Law M X {j | s.stOf j = some .silent})
    (hb : ∀ i a, s.service.seats i = some a → a.st = .silent → a.port ≠ none) :
    (leaveDepletedOrders s).service.Law M X ∅ := by
  have hset : {j | s.stOf j = some .silent} = {j | j ∈ s.classOrder ∧ s.stOf j = some .silent} := by
    ext j
    refine ⟨fun hj => ⟨mem_classOrder.mpr fun hr => ?_, hj⟩, fun hj => hj.2⟩
    have hj' : s.stOf j = some .silent := hj
    simp [State.stOf, hr] at hj'
  rw [hset] at h
  have hseat : ∀ (t : State) (i : Idx), t.service.seats i = s.service.seats i → t.stOf i = s.stOf i := fun t i he => by
    have hs : ∀ s : State, s.stOf i = (s.service.seats i).map Seat.st := fun s => by
      simp only [State.stOf, State.service, Option.map_map]; rfl
    rw [hs, hs, he]
  refine law_drain (fun j => s.stOf j = some .silent)
    (fun i t => (t.supply.mode = .outage ∨ t.supply.mode = .critical) ∧ t.service.seats i = s.service.seats i)
    (fun t T i hD hi hl hC => ?_) (fun t T i hD hl hC => ?_) (fun t i j hj hC => ?_) _ (nodup_classOrder s) h
    fun i _ => ⟨hm, rfl⟩
  · have hx := (hseat t i hC.2).trans hD
    refine law_leaveDepletedRecord hl hi hx (fun a ha => ?_) hC.1
    have hst := (stOf_seat ha).symm.trans hx
    exact hb i a (hC.2.symm.trans ha) (Option.some.inj hst)
  · have hx := hseat t i hC.2
    unfold leaveDepletedRecord
    split
    · exact hl
    · next r hr =>
      rw [if_neg fun hst => hD (by rw [← hx, stOf_rec hr, hst])]
      exact hl
  · obtain ⟨h1, h2⟩ := leaveDepletedRecord_other (s := t) hj
    change (leaveDepletedRecord t i).supply.mode = t.supply.mode at h2
    exact ⟨by rw [h2]; exact hC.1, h1.trans hC.2⟩

/-! ### The table stripped, for MAINS and DEPLETED -/

/-- Every cell OFF, every exchange dropped, all feed released and every test abandoned (R43, R45). -/
def stripTable (z : Bool) (s : State) : State := abandonAllTests (releaseAll (dropAllExchanges (allCellsOff z s)))

/-- One cell turned OFF in a pass over the ports. -/
def offCell (z : Bool) (s : State) (p : Port) : State :=
  updCell p (fun c =>
    let c := Cell.toLevel 0 .off c
    if z then { c with faultCount := 0 } else c) (sendPartOn p s)

theorem allCellsOff_eq (z : Bool) (s : State) : allCellsOff z s = allPorts.foldl (offCell z) s := rfl

/-- A cell turned OFF, where cells in OFF are at rest. -/
theorem offCell_cells (z : Bool) (s : State) (p q : Port) :
    (offCell z s p).service.drive q = (if q = p then .off else s.service.drive q) ∧
    ((s.service.drive q = .off → s.service.run q = 0) →
      (offCell z s p).service.drive q = .off → (offCell z s p).service.run q = 0) := by
  unfold offCell
  rw [← service_sendPartOn p s]
  simp only [State.service, cells_updCell]
  split
  · next hq =>
    subst hq
    have h1 := toLevel_drive 0 .off (sendPartOn q s).cells[q]
    have h2 := toLevel_still 0 .off (sendPartOn q s).cells[q] h1
    have h3 : ((sendPartOn q s).cells[q].drive = .off → (sendPartOn q s).cells[q].presRun = 0) →
        ((sendPartOn q s).cells[q].toLevel 0 .off).presRun = 0 := fun h => h2.elim id fun ⟨ho, hr⟩ => hr.trans (h ho)
    split
    · exact ⟨h1, fun h _ => h3 h⟩
    · exact ⟨h1, fun h _ => h3 h⟩
  · exact ⟨rfl, fun h => h⟩

theorem offCell_rest (z : Bool) (s : State) (p : Port) : (offCell z s p).service.seats = s.service.seats ∧
    (offCell z s p).service.mode = s.service.mode := by
  have h : (offCell z s p).service.seats = (sendPartOn p s).service.seats ∧
      (offCell z s p).service.mode = (sendPartOn p s).service.mode := ⟨rfl, rfl⟩
  rwa [service_sendPartOn] at h

theorem allCellsOff_cells (z : Bool) (s : State) (p : Port) : (allCellsOff z s).service.drive p = .off ∧
    ((∀ q, s.service.drive q = .off → s.service.run q = 0) → (allCellsOff z s).service.run p = 0) := by
  rw [allCellsOff_eq]
  have hoff : (allPorts.foldl (offCell z) s).service.drive p = .off :=
    foldl_each (P := fun p t => t.service.drive p = .off) (fun t p => by rw [(offCell_cells z t p p).1, if_pos rfl])
      (fun t p q hq => by
        rw [(offCell_cells z t p q).1]
        split
        · rfl
        · exact hq) allPorts s p (List.mem_finRange p)
  refine ⟨hoff, fun h => ?_⟩
  exact foldl_keeps (Q := fun t => ∀ q, t.service.drive q = .off → t.service.run q = 0)
    (fun t p ht q => (offCell_cells z t p q).2 (ht q)) allPorts h p hoff

theorem allCellsOff_rest (z : Bool) (s : State) : (allCellsOff z s).service.seats = s.service.seats ∧
    (allCellsOff z s).service.mode = s.service.mode :=
  foldl_keeps (Q := fun t => t.service.seats = s.service.seats ∧ t.service.mode = s.service.mode)
    (fun t p ht => ⟨(offCell_rest z t p).1.trans ht.1, (offCell_rest z t p).2.trans ht.2⟩) allPorts ⟨rfl, rfl⟩

theorem service_withLink (l : Link) (s : State) : ({ s with link := l } : State).service = s.service := rfl

@[simp] theorem service_dropAllExchanges (s : State) : (dropAllExchanges s).service = s.service := by
  have hf : (allIdx.foldl (fun s i => updRec i (fun r => { r with pend := none }) s)
      (abortEngine .aborted .b (abortEngine .aborted .a s))).service = s.service := by
    rw [service_foldl _ fun s i => service_updRec (f := fun r => { r with pend := none }) (fun _ => rfl) i s]
    simp
  unfold dropAllExchanges
  exact (service_withLink _ _).trans hf

theorem service_abandonAllTests (s : State) : (abandonAllTests s).service = s.service :=
  service_foldl _ (fun s i => service_abandonTest i s) allIdx s

/-- All feed released: no admitted current is left, and both collections are empty. -/
theorem service_releaseAll (s : State) : (releaseAll s).service =
    { s.service with
      seats := fun i => (s.service.seats i).map fun a => { a with admitted := none }, feedList := [], queue := [] } := by
  have hrec : ∀ (l : List Idx) (s : State) (i : Idx),
      (l.foldl (fun s i => updRec i (fun r => { r with admitted := none }) s) s).rec? i =
        if i ∈ l then (s.rec? i).map fun r => { r with admitted := none } else s.rec? i := fun l => by
    induction l with
    | nil => intro s i; simp
    | cons j l ih =>
      intro s i
      rw [List.foldl_cons, ih, rec?_updRec]
      by_cases hi : i = j
      · subst hi
        by_cases hl : i ∈ l <;> simp [hl, Option.map_map, Function.comp_def]
      · by_cases hl : i ∈ l <;> simp [hi, hl]
  have hrest : ∀ (l : List Idx) (s : State),
      (l.foldl (fun s i => updRec i (fun r => { r with admitted := none }) s) s).service.drive = s.service.drive ∧
      (l.foldl (fun s i => updRec i (fun r => { r with admitted := none }) s) s).service.run = s.service.run ∧
      (l.foldl (fun s i => updRec i (fun r => { r with admitted := none }) s) s).outer = s.outer := fun l s =>
    foldl_keeps (Q := fun t => t.service.drive = s.service.drive ∧ t.service.run = s.service.run ∧ t.outer = s.outer)
      (fun t i ht => by
        refine ⟨?_, ?_, (outer_updRec i _ t).trans ht.2.2⟩
        · rw [← ht.1]; unfold updRec; split <;> rfl
        · rw [← ht.2.1]; unfold updRec; split <;> rfl) l ⟨rfl, rfl, rfl⟩
  have key : ∀ u : State, (∀ i, u.rec? i = (s.rec? i).map fun r => { r with admitted := none }) →
      u.service.drive = s.service.drive ∧ u.service.run = s.service.run ∧ u.outer = s.outer →
      (callDecision { u with arbiter := ⟨[], []⟩ }).service =
        { s.service with
          seats := fun i => (s.service.seats i).map fun a => { a with admitted := none }, feedList := [], queue := [] } := by
    intro u hu ⟨hd, hr, ho⟩
    have hs : u.service.seats = fun i => (s.service.seats i).map fun a => { a with admitted := none } := by
      funext i
      simp only [State.service, hu, Option.map_map]
      rfl
    have hc : u.service.cap = s.service.cap := congrArg (fun c : Settings => c.busCap) (cfg_of_outer ho)
    have hm : u.service.mode = s.service.mode := congrArg (fun c : Supply => c.mode) (supply_of_outer ho)
    have he : (callDecision { u with arbiter := ⟨[], []⟩ }).service =
        ⟨u.service.seats, u.service.drive, u.service.run, [], [], u.service.cap, u.service.mode⟩ := rfl
    rw [he, hs, hd, hr, hc, hm]
  unfold releaseAll
  refine key _ (fun i => ?_) (hrest allIdx s)
  rw [hrec allIdx s i, if_pos (show i ∈ allIdx from List.mem_finRange i)]

/-- Stripped, the table keeps the laws with every record in transit, each cell OFF and each seat as it was but for its
admitted current. -/
theorem law_stripTable {v : Service} (h : v.Law M X T) (hs : s.service.seats = v.seats)
    (hr : s.service.run = v.run) (hd : s.service.drive = v.drive) (hm : s.supply.mode ≠ .critical) (z : Bool) :
    (stripTable z s).service.Law M ∅ Set.univ ∧ (∀ p, (stripTable z s).service.drive p = .off) ∧
      (stripTable z s).supply.mode = s.supply.mode ∧
      ∀ i, (stripTable z s).service.seats i = (v.seats i).map fun a => { a with admitted := none } := by
  have hcells := allCellsOff_cells z s
  obtain ⟨hcs, hcm⟩ := allCellsOff_rest z s
  have he : (stripTable z s).service = { (allCellsOff z s).service with
      seats := fun i => ((allCellsOff z s).service.seats i).map fun a => { a with admitted := none }
      feedList := [], queue := [] } := by
    unfold stripTable
    rw [service_abandonAllTests, service_releaseAll, service_dropAllExchanges]
  generalize stripTable z s = B at he ⊢
  generalize allCellsOff z s = A at he hcells hcs hcm
  have hseats : ∀ i, B.service.seats i = (v.seats i).map fun a => { a with admitted := none } := fun i => by
    rw [he, ← hs, ← hcs]
  have hoff : ∀ p, B.service.drive p = .off := fun p => by rw [he]; exact (hcells p).1
  have hmode : B.service.mode = s.service.mode := by rw [he]; exact hcm
  refine ⟨h.stripped hseats (by rw [he]) (by rw [he]) hoff (fun m p => ?_) (by rw [hmode]; exact hm), hoff, hmode, hseats⟩
  rw [he]
  refine (hcells p).2 fun q hq => ?_
  rw [hd] at hq
  rw [hr]
  exact h.still m q hq

/-! ### MAINS and DEPLETED -/

theorem law_mainsRecord (hl : s.service.Law M X (insert i T)) (hi : i ∉ T) (hm : s.supply.mode = .mains)
    (hoff : ∀ p, s.service.drive p = .off) : (mainsRecord s i).service.Law M X T := by
  unfold mainsRecord
  rw [service_setCountdown]
  cases hr : s.rec? i with
  | none => rw [enter, enterState_free hr]; exact law_free hl hi hr
  | some r =>
    have ha := seat_of_rec hr
    have hid : if s.service.mode = .mains then RState.idle = .idle else (RState.idle = .idle ↔ r.seat.port = none) := by
      rw [if_pos (show s.service.mode = .mains from hm)]
    by_cases hst : r.st = .idle
    · rw [enter, enterState_same hr hst]
      have hst' : r.seat.st = .idle := hst
      refine law_stays hl hi ha (by rw [if_pos hm]; exact hst) (by rw [hst']; decide) (by rw [hst']; decide)
        (by rw [hst']; decide) fun p _ => ?_
      rw [hst', hoff p]; rfl
    · have := hl.moved (moved_enterState (b := false) ha (show r.seat.st ≠ .idle from hst)) ha (Set.mem_insert i T) hid
        (by decide) (by decide) fun _ _ _ he => by cases he
      rw [Service.insert_diff hi] at this
      exact this

theorem law_depletedRecord (hl : s.service.Law M X (insert i T)) (hi : i ∉ T) (hm : s.supply.mode = .depleted)
    (hoff : ∀ p, s.service.drive p = .off)
    (hu : ∀ a, s.service.seats i = some a → a.port = none → a.st = .idle) :
    (depletedRecord s i).service.Law M X T := by
  have hmains : s.supply.mode ≠ .mains := by rw [hm]; decide
  cases hr : s.rec? i with
  | none => rw [depletedRecord, hr]; exact law_free hl hi hr
  | some r =>
    have ha := seat_of_rec hr
    have stays : (r.st = .idle ↔ r.port = none) → r.st = .idle ∨ r.st = .silent ∨ r.st = .faulted →
        s.service.Law M X T := fun hid hst => by
      have hst' : r.seat.st = .idle ∨ r.seat.st = .silent ∨ r.seat.st = .faulted := hst
      refine law_stays hl hi ha (by rw [if_neg hmains]; exact hid) ?_ ?_ ?_ fun p _ => ?_
      · rcases hst' with h | h | h <;> rw [h] <;> decide
      · rcases hst' with h | h | h <;> rw [h] <;> decide
      · rcases hst' with h | h | h <;> rw [h] <;> decide
      · rw [hoff p, hm]
        rcases hst' with h | h | h <;> rw [h] <;> rfl
    unfold depletedRecord
    rw [hr]
    dsimp only
    split
    · next hc =>
      have hp : r.port ≠ none := fun he => by rw [he] at hc; cases hc.1
      rw [service_setCountdown]
      by_cases hst : r.st = .silent
      · rw [enter, enterState_same hr hst]
        refine stays ⟨fun he => ?_, fun he => absurd he hp⟩ (.inr (.inl hst))
        rw [hst] at he; cases he
      · have hT : Service.Transit M X T i r.seat s.service := ⟨hl, ha, hi, hp, hmains⟩
        exact hT.enters false hst (by decide) (by decide) (by decide) fun _ _ _ he => by cases he
    · next hc =>
      cases hp : r.port with
      | none =>
        have hid := hu _ ha hp
        exact stays ⟨fun _ => hp, fun _ => hid⟩ (.inl hid)
      | some p =>
        have hf : r.st = .faulted := by
          by_contra hf
          exact hc ⟨by rw [hp]; rfl, hf⟩
        refine stays ⟨fun he => ?_, fun he => ?_⟩ (.inr (.inr hf))
        · rw [hf] at he; cases he
        · rw [hp] at he; cases he

/-- DEPLETED entry (R43), on a view that keeps the laws but for its mode. -/
theorem law_depletedOrders {v : Service} (h : v.Law M X ∅) (hs : s.service.seats = v.seats) (hr : s.service.run = v.run)
    (hd : s.service.drive = v.drive) (hm : s.supply.mode = .depleted) : (depletedOrders s).service.Law M ∅ ∅ := by
  obtain ⟨hl, hoff, hmode, hseats⟩ := law_stripTable h hs hr hd (by rw [hm]; decide) false
  have he : depletedOrders s = allIdx.foldl depletedRecord (stripTable false s) := rfl
  rw [he]
  generalize stripTable false s = B at *
  have hu : ∀ i a, B.service.seats i = some a → a.port = none → a.st = .idle := fun i a ha hp => by
    rw [hseats] at ha
    obtain ⟨b, hb, rfl⟩ := Option.map_eq_some_iff.mp ha
    have := h.idle i b hb (Set.notMem_empty i)
    split at this
    · exact this
    · exact this.mpr hp
  refine law_drain (fun _ => True) (fun i t => t.supply.mode = .depleted ∧ (∀ p, t.service.drive p = .off) ∧
      ∀ a, t.service.seats i = some a → a.port = none → a.st = .idle)
    (fun t T i _ hi hl hC => law_depletedRecord hl hi hC.1 hC.2.1 hC.2.2) (fun t T i hD => absurd trivial hD)
    (fun t i j hj ⟨h1, h2, h3⟩ => ?_) allIdx (List.nodup_finRange 64) ?_ fun i _ => ⟨hmode.trans hm, hoff, hu i⟩
  · have key : depletedRecord t i = t ∨ depletedRecord t i = setCountdown i Countdown.stop (enter .silent i t) := by
      unfold depletedRecord
      split
      · exact .inl rfl
      · split
        · exact .inr rfl
        · exact .inl rfl
    obtain he | he := key
    · rw [he]; exact ⟨h1, h2, h3⟩
    · have hsv : (depletedRecord t i).service = (enter .silent i t).service := by rw [he, service_setCountdown]
      refine ⟨(mode_congr hsv).trans ((mode_enterState false .silent).trans h1), fun p => ?_, fun a ha => ?_⟩
      · rw [hsv]
        exact off_enterState h2 (by rw [h1]; rfl) false p
      · rw [hsv, enter, seats_enterState hj] at ha
        exact h3 a ha
  · have : {j | j ∈ allIdx ∧ True} = Set.univ := by
      ext j
      exact ⟨fun _ => Set.mem_univ j, fun _ => ⟨List.mem_finRange j, trivial⟩⟩
    rw [this]; exact hl

theorem service_withRun (b : Bool) (n : Nat) (s : State) :
    ({ s with supply := { s.supply with latch := b, uvRun := n } } : State).service = s.service := rfl

theorem law_mainsOrders {v : Service} (h : v.Law M X ∅) (hs : s.service.seats = v.seats) (hr : s.service.run = v.run)
    (hd : s.service.drive = v.drive) (hm : s.supply.mode = .mains) : (mainsOrders s).service.Law M ∅ ∅ := by
  obtain ⟨hl, hoff, hmode, -⟩ := law_stripTable h hs hr hd (by rw [hm]; decide) true
  have hsv : (mainsOrders s).service = (allIdx.foldl mainsRecord (stripTable true s)).service := by
    unfold mainsOrders stripTable
    exact service_withRun false 0 _
  rw [hsv]
  clear hsv
  generalize stripTable true s = B at *
  refine law_drain (fun _ => True) (fun i t => t.supply.mode = .mains ∧ ∀ p, t.service.drive p = .off)
    (fun t T i _ hi hl hC => law_mainsRecord hl hi hC.1 hC.2) (fun t T i hD => absurd trivial hD)
    (fun t i j hj ⟨h1, h2⟩ => ?_) allIdx (List.nodup_finRange 64) ?_ fun i _ => ⟨hmode.trans hm, hoff⟩
  · have hsv : (mainsRecord t i).service = (enter .idle i t).service := service_setCountdown ..
    refine ⟨(mode_congr hsv).trans ((mode_enterState false .idle).trans h1), fun p => ?_⟩
    rw [hsv]
    exact off_enterState h2 (by rw [h1]; rfl) false p
  · have : {j | j ∈ allIdx ∧ True} = Set.univ := by
      ext j
      exact ⟨fun _ => Set.mem_univ j, fun _ => ⟨List.mem_finRange j, trivial⟩⟩
    rw [this]; exact hl

/-! ### The entry -/

/-- Nothing that is in service while the part is DEPLETED (R43). -/
def State.rested (s : State) : Prop := s.supply.mode = .depleted → ∀ i x, s.stOf i = some x → ¬x.serving

/-- The orders of an entry into another mode. -/
theorem law_entryOrders {m : Mode} (h : s.service.Law M ∅ ∅) (hne : m ≠ s.supply.mode) (hrest : M → s.rested) {u : State}
    (hu : u.service = { s.service with mode := m }) : (entryOrders s.supply.mode m u).service.Law M ∅ ∅ := by
  have hum : u.supply.mode = m := congrArg Service.mode hu
  have hseats : u.service.seats = s.service.seats := by rw [hu]
  have hrec : ∀ i, u.stOf i = s.stOf i := fun i => by
    have hs : ∀ s : State, s.stOf i = (s.service.seats i).map Seat.st := fun s => by
      simp only [State.stOf, State.service, Option.map_map]; rfl
    rw [hs, hs, hseats]
  -- The level and the idle law of a record that is not SILENT hold in every mode but MAINS.
  have hdrive : ∀ (a b : Mode) (st : RState), (a ≠ .depleted ∧ b ≠ .depleted ∨ st ≠ .silent) →
      driveFor a st = driveFor b st := fun a b st hab => by
    cases st <;> simp only [driveFor]
    rcases hab with ⟨h1, h2⟩ | hn
    · rw [if_neg h1, if_neg h2]
    · exact absurd rfl hn
  have outage_critical : s.supply.mode ≠ .mains → s.supply.mode ≠ .depleted → m ≠ .mains → m ≠ .depleted →
      u.service.Law M Set.univ ∅ := fun h1 h2 h3 h4 => by
    rw [hu]
    refine h.remode h3 ∅ Set.univ (fun _ _ _ hi => absurd hi (Set.notMem_empty _)) (fun i a ha hi => ?_)
      (fun i a _ _ => hdrive _ _ _ (.inl ⟨h4, h2⟩)) fun _ _ i _ _ hi => absurd (Set.mem_univ i) hi
    have := h.idle i a ha hi
    rwa [if_neg (show s.service.mode ≠ .mains from h1)] at this
  have wave : s.supply.mode = .mains → m ≠ .mains → (queryWave u).service.Law M ∅ ∅ := fun h1 h3 => by
    have hidle : ∀ i a, s.service.seats i = some a → a.st = .idle := fun i a ha => by
      have := h.idle i a ha (Set.notMem_empty i)
      rwa [if_pos (show s.service.mode = .mains from h1)] at this
    refine law_queryWave h3 hum ?_ fun i a ha => hidle i a (hseats ▸ ha)
    rw [hu]
    have hocc : ∀ i a, s.service.seats i = some a → i ∈ u.classOrder := fun i a ha => by
      rw [← hseats] at ha
      obtain ⟨r, hr, -⟩ := seat_some.mp ha
      exact mem_classOrder.mpr (by rw [hr]; exact Option.some_ne_none r)
    refine h.remode h3 _ ∅ (fun i a ha _ => by rw [hidle i a ha]; decide) (fun i a ha hi => absurd (hocc i a ha) hi)
      (fun i a ha hi => absurd (hocc i a ha) hi) fun _ _ i a ha _ hs => ?_
    rw [hidle i a ha] at hs
    simp [RState.serving] at hs
  have leave : s.supply.mode = .depleted → m = .outage ∨ m = .critical → (leaveDepletedOrders u).service.Law M ∅ ∅ :=
    fun h1 h3 => by
      have hmm : s.service.mode ≠ .mains := by
        show s.supply.mode ≠ .mains
        rw [h1]; decide
      refine law_leaveDepletedOrders (by rw [hum]; exact h3) ?_ fun i a ha hst => ?_
      · rw [hu]
        refine h.remode (by rcases h3 with h3 | h3 <;> rw [h3] <;> decide) _ ∅ (fun i a ha hi => ?_) (fun i a ha _ => ?_)
          (fun i a ha hi => hdrive _ _ _ (.inr fun hst => hi ?_)) fun m' _ i a ha _ hs => ?_
        · have hi' : u.stOf i = some .silent := hi
          rw [hrec, stOf_seat ha] at hi'
          rw [Option.some.inj hi']; decide
        · have := h.idle i a ha (Set.notMem_empty i)
          rwa [if_neg hmm] at this
        · show u.stOf i = some .silent
          rw [hrec, stOf_seat ha, hst]
        · exact absurd hs (hrest m' h1 i _ (stOf_seat ha))
      · rw [hseats] at ha
        exact (h.bound ha (Set.notMem_empty i) (by rw [hst]; decide)).1
  have hrun : u.service.run = s.service.run := by rw [hu]
  have hdr : u.service.drive = s.service.drive := by rw [hu]
  unfold entryOrders
  cases hb : s.supply.mode <;> cases m
  case mains.mains => exact absurd hb.symm hne
  case outage.outage => exact absurd hb.symm hne
  case critical.critical => exact absurd hb.symm hne
  case depleted.depleted => exact absurd hb.symm hne
  case outage.mains => exact law_mainsOrders h hseats hrun hdr hum
  case critical.mains => exact law_mainsOrders h hseats hrun hdr hum
  case depleted.mains => exact law_mainsOrders h hseats hrun hdr hum
  case mains.depleted => exact law_depletedOrders h hseats hrun hdr hum
  case outage.depleted => exact law_depletedOrders h hseats hrun hdr hum
  case critical.depleted => exact law_depletedOrders h hseats hrun hdr hum
  case mains.outage => exact wave hb (by decide)
  case mains.critical => exact law_criticalOrders (wave hb (by decide))
  case outage.critical => exact law_criticalOrders (outage_critical (by rw [hb]; decide) (by rw [hb]; decide) nofun nofun)
  case critical.outage =>
    refine (outage_critical (by rw [hb]; decide) (by rw [hb]; decide) nofun nofun).anyX ∅ ?_
    show u.supply.mode ≠ .critical
    rw [hum]; decide
  case depleted.outage => exact leave hb (.inl rfl)
  case depleted.critical => exact leave hb (.inr rfl)

theorem law_enterMode {m : Mode} (h : s.service.Law M ∅ ∅) (hne : m ≠ s.supply.mode) (hrest : M → s.rested) :
    (enterMode m s).service.Law M ∅ ∅ := by
  unfold enterMode
  dsimp only
  rw [service_callDecision]
  have ho := law_entryOrders h hne hrest (u := { s with
    supply := { s.supply with mode := m, failCount := 0, returnCount := 0, held := false }
    dev := { s.dev with mode := true } }) rfl
  split
  · exact ho
  · unfold markApportion
    split <;> exact ho

end Law

end Sys2Proof.Machine
end

section
/-! The part in DEPLETED (R43): its engines are free, no exchange is pending, and every record is at rest. What a DEPLETED
part does leaves it so, and the entry into DEPLETED makes it so. -/

namespace Sys2Proof.Machine

open Sys2Proof

/-- What each step of a fold establishes for its own element, under an invariant, and keeps for every other. -/
theorem foldl_each_of {α : Type} {f : State → α → State} {G : State → Prop} {P : α → State → Prop}
    (hG : ∀ s a, G s → G (f s a)) (h1 : ∀ s a, G s → P a (f s a)) (h2 : ∀ s a b, G s → P b s → P b (f s a)) (l : List α)
    {s : State} (hs : G s) : ∀ a ∈ l, P a (l.foldl f s) := by
  induction l generalizing s with
  | nil => intro a ha; cases ha
  | cons b l ih =>
    intro a ha
    rw [List.foldl_cons]
    rcases List.mem_cons.mp ha with rfl | ha
    · exact (foldl_keeps (Q := fun t => G t ∧ P a t) (fun t c ht => ⟨hG t c ht.1, h2 t c a ht.1 ht.2⟩) l
        ⟨hG s a hs, h1 s a hs⟩).2
    · exact ih (hG s b hs) a ha

/-- A record at rest in DEPLETED; `due` tells whether an expiry of its countdown is due. -/
def Record.AtRest (due : Bool) (r : Record) : Prop :=
  r.pend = none ∧ (r.st = .idle ∨ r.st = .faulted ∨ r.st = .silent ∧ r.cd.running = false ∧ due = false)

/-- The part is in DEPLETED, with its engines free and every record at rest. -/
structure State.Dormant (s : State) : Prop where
  mode : s.supply.mode = .depleted
  engA : s.link.engA = none
  engB : s.link.engB = none
  rest : ∀ i r, s.rec? i = some r → r.AtRest (s.isDue (.expiry i))

theorem depletedLaw_iff (s : State) : s.DepletedLaw ↔ (s.supply.mode = .depleted → s.Dormant) := by
  constructor
  · exact fun h hm => ⟨hm, (h hm).1, (h hm).2.1, (h hm).2.2⟩
  · exact fun h hm => ⟨(h hm).engA, (h hm).engB, (h hm).rest⟩

/-! ### Slots and engines under the operations -/

theorem slots_takeBaseline (e : Engine) (s : State) : (takeBaseline e s).slots = s.slots := by
  unfold takeBaseline
  split
  · cases e <;> rfl
  · rfl

theorem slots_sendPartOn (p : Port) (s : State) : (sendPartOn p s).slots = s.slots := by
  unfold sendPartOn
  split
  · obtain h | ⟨g, n, -, -, -, h⟩ := sendPart_cases _ s
    · rw [h]
    · rw [h]; exact setEngine_slots ..
  · rfl

theorem slots_failAttempt (e : Engine) (o : ExOutcome) (s : State) : (failAttempt e o s).slots = s.slots := by
  unfold failAttempt
  split
  · split <;> simp
  · rfl

theorem slots_orderLevel (p : Port) (n : Nat) (l : Drive) (s : State) : (orderLevel p n l s).slots = s.slots := by
  have hl : ∀ t : State, (linkAtLevelChange p l t).slots = t.slots := fun t => by
    unfold linkAtLevelChange
    split
    · rfl
    · split
      · rfl
      · dsimp only
        split
        · rw [slots_failAttempt, slots_takeBaseline]
        · rw [slots_takeBaseline]
  unfold orderLevel
  split
  · rfl
  · rw [hl, updCell_slots, slots_sendPartOn]

theorem slots_orderAt (p : Option Port) (n : Nat) (l : Drive) (s : State) : (orderAt p n l s).slots = s.slots := by
  cases p with
  | none => rfl
  | some p => exact slots_orderLevel p n l s

/-- The record of a state entry (R7, R9), but for FAULTED. -/
theorem rec?_enterState {s : State} {i : Idx} {r : Record} (hr : s.rec? i = some r) (b : Bool) {st : RState}
    (hne : r.st ≠ st) (hf : st ≠ .faulted) : (enterState b st i s).rec? i = some (enteredRec b st s r) := by
  rw [enterState_new hr hne, rec?_congr (slots_orderAt ..)]
  unfold enterSlot
  dsimp only
  rw [if_neg hf]
  exact rec?_setRec_self i _ s

/-- A state entry changes no other slot. -/
theorem rec?_enterState_other {s : State} {i j : Idx} (hj : j ≠ i) (b : Bool) (st : RState) :
    (enterState b st i s).rec? j = s.rec? j := by
  obtain h | ⟨r, hr, -, h⟩ := enterState_steps b st i s
  · rw [h]
  · rw [h, rec?_congr (slots_orderAt ..)]
    unfold enterSlot
    dsimp only
    split
    · show (updRec i _ (dropDue _ (setRec i _ s))).rec? j = _
      rw [rec?_updRec, if_neg hj]
      exact (rec?_setRec i j _ s).trans (if_neg hj)
    · exact (rec?_setRec i j _ s).trans (if_neg hj)

/-- With no engine engaged, a drive order changes a cell alone. -/
theorem orderLevel_free {s : State} (ha : s.link.engA = none) (hb : s.link.engB = none) (p : Port) (n : Nat) (l : Drive) :
    orderLevel p n l s = s ∨ orderLevel p n l s = updCell p (Cell.toLevel n l) s := by
  have hon : ∀ t : State, t.link = s.link → t.engineOn p = none := fun t ht => by
    simp [State.engineOn, State.engagedOn, State.engine, ht, ha, hb]
  unfold orderLevel
  split
  · exact .inl rfl
  · right
    have h1 : sendPartOn p s = s := by rw [sendPartOn, hon s rfl]
    rw [h1]
    unfold linkAtLevelChange
    split
    · rfl
    · rw [hon (updCell p (Cell.toLevel n l) s) rfl]

/-- With no engine engaged, a state entry engages none. -/
theorem engines_enterState {s : State} (ha : s.link.engA = none) (hb : s.link.engB = none) (b : Bool) (st : RState)
    (i : Idx) : (enterState b st i s).link.engA = none ∧ (enterState b st i s).link.engB = none := by
  obtain h | ⟨r, hr, -, h⟩ := enterState_steps b st i s
  · rw [h]; exact ⟨ha, hb⟩
  · have hslot : (enterSlot b st i r s).link.engA = none ∧ (enterSlot b st i r s).link.engB = none := by
      unfold enterSlot
      dsimp only
      split
      · unfold dropPending updRec
        dsimp only
        split <;> exact ⟨ha, hb⟩
      · exact ⟨ha, hb⟩
    rw [h]
    cases r.port with
    | none => exact hslot
    | some p =>
      show (orderLevel p _ _ _).link.engA = none ∧ (orderLevel p _ _ _).link.engB = none
      obtain he | he := orderLevel_free hslot.1 hslot.2 p (r.admitted.getD 0) (driveFor s.supply.mode st)
      · rw [he]; exact hslot
      · rw [he]; exact hslot

/-- A drive order leaves what is due of the countdowns. -/
theorem isDue_of_due {s t : State} (h : t.agenda.due = s.agenda.due) (ev : Event) : t.isDue ev = s.isDue ev := by
  simp [State.isDue, h]

theorem isDue_dropDue (ev e : Event) (s : State) : (dropDue ev s).isDue e = (s.isDue e && decide (e ≠ ev)) := by
  simp only [State.isDue, dropDue_agenda]
  rw [Bool.eq_iff_iff]
  simp [List.mem_filter]

/-- With no engine engaged, a state entry drops its own countdown's expiry and makes nothing due. -/
theorem isDue_enterState {s : State} (ha : s.link.engA = none) (hb : s.link.engB = none) (b : Bool) (st : RState)
    (i : Idx) (ev : Event) : (enterState b st i s).isDue ev = true → s.isDue ev = true ∧
      (ev = .expiry i → ∀ r, s.rec? i = some r → r.st = st) := by
  obtain h | ⟨r, hr, hne, h⟩ := enterState_steps b st i s
  · rw [h]
    refine fun hd => ⟨hd, fun _ r hr => ?_⟩
    by_contra hne
    have := rec?_congr (congrArg State.slots h) i
    rw [enterState_new hr hne, rec?_congr (slots_orderAt ..), hr] at this
    unfold enterSlot at this
    dsimp only at this
    split at this
    · have h2 : (dropPending i (dropDue (.expiry i) (setRec i (some (enteredRec b st s r)) s))).rec? i =
          some { enteredRec b st s r with pend := none } := by
        show (updRec i _ _).rec? i = _
        rw [rec?_updRec_self, show (dropDue (.expiry i) (setRec i (some (enteredRec b st s r)) s)).rec? i =
          some (enteredRec b st s r) from rec?_setRec_self i _ s]
        rfl
      rw [h2] at this
      exact hne (congrArg Record.st (Option.some.inj this)).symm
    · have h2 : (dropDue (.expiry i) (setRec i (some (enteredRec b st s r)) s)).rec? i =
          some (enteredRec b st s r) := rec?_setRec_self i _ s
      rw [h2] at this
      exact hne (congrArg Record.st (Option.some.inj this)).symm
  · have hslot : (enterSlot b st i r s).agenda.due = (dropDue (.expiry i) s).agenda.due ∧
        (enterSlot b st i r s).link.engA = none ∧ (enterSlot b st i r s).link.engB = none := by
      unfold enterSlot
      dsimp only
      split
      · unfold dropPending updRec
        dsimp only
        split <;> exact ⟨rfl, ha, hb⟩
      · exact ⟨rfl, ha, hb⟩
    have hdue : (enterState b st i s).agenda.due = (dropDue (.expiry i) s).agenda.due := by
      rw [h]
      cases r.port with
      | none => exact hslot.1
      | some p =>
        show (orderLevel p _ _ _).agenda.due = _
        obtain he | he := orderLevel_free hslot.2.1 hslot.2.2 p (r.admitted.getD 0) (driveFor s.supply.mode st)
        · rw [he]; exact hslot.1
        · rw [he]; exact hslot.1
    rw [isDue_of_due hdue, isDue_dropDue]
    intro hd
    simp only [Bool.and_eq_true, decide_eq_true_eq] at hd
    exact ⟨hd.1, fun he => absurd he hd.2⟩

/-! ### What leaves a dormant part dormant -/

namespace State.Dormant

variable {s t : State} {i : Idx}

/-- Rest in terms of the parts it looks at. -/
theorem congr (h : s.Dormant) (hm : t.supply.mode = s.supply.mode) (ha : t.link.engA = s.link.engA)
    (hb : t.link.engB = s.link.engB) (hr : ∀ j, t.rec? j = s.rec? j)
    (hd : ∀ j, t.isDue (.expiry j) = true → s.isDue (.expiry j) = true) : t.Dormant := by
  refine ⟨hm.trans h.mode, ha.trans h.engA, hb.trans h.engB, fun j r hj => ?_⟩
  obtain ⟨hp, hst⟩ := h.rest j r ((hr j).symm.trans hj)
  refine ⟨hp, hst.imp_right fun h => h.imp_right fun ⟨h1, h2, h3⟩ => ⟨h1, h2, ?_⟩⟩
  cases hdd : t.isDue (.expiry j) with
  | false => rfl
  | true => rw [hd j hdd] at h3; cases h3

theorem withParts (h : s.Dormant) (hl : t.link = s.link) (hs : t.slots = s.slots) (hm : t.supply.mode = s.supply.mode)
    (hd : t.agenda.due = s.agenda.due) : t.Dormant :=
  h.congr hm (by rw [hl]) (by rw [hl]) (rec?_congr hs) fun j hj => (isDue_of_due hd _) ▸ hj

/-- A slot that is freed, or takes a record at rest. -/
theorem setRec (h : s.Dormant) {q : Option Record} (hq : ∀ r, q = some r → r.AtRest (s.isDue (.expiry i))) :
    (Machine.setRec i q s).Dormant := by
  refine ⟨h.mode, h.engA, h.engB, fun j r hj => ?_⟩
  rw [rec?_setRec] at hj
  split at hj
  · next he => subst he; exact hq r hj
  · exact h.rest j r hj

/-- A change of a record that keeps what rest asks. -/
theorem updRec (h : s.Dormant) {f : Record → Record}
    (hf : ∀ r, r.AtRest (s.isDue (.expiry i)) → (f r).AtRest (s.isDue (.expiry i))) :
    (Machine.updRec i f s).Dormant := by
  unfold Machine.updRec
  cases hr : s.rec? i with
  | none => exact h
  | some r => exact h.setRec fun q hq => by cases hq; exact hf r (h.rest i r hr)

theorem dropDue (h : s.Dormant) (ev : Event) : (Machine.dropDue ev s).Dormant :=
  h.congr rfl rfl rfl (fun _ => rfl) fun j hj => by
    rw [isDue_dropDue, Bool.and_eq_true] at hj
    exact hj.1

/-- A part of a record that neither rest nor the laws look at. -/
theorem note (h : s.Dormant) {f : Record → Record} (hf : ∀ r, (f r).pend = r.pend ∧ (f r).st = r.st ∧ (f r).cd = r.cd) :
    (Machine.updRec i f s).Dormant := by
  refine h.updRec fun r hr => ?_
  obtain ⟨h1, h2, h3⟩ := hf r
  unfold Record.AtRest
  rw [h1, h2, h3]
  exact hr

theorem stopCountdown (h : s.Dormant) : (setCountdown i Countdown.stop s).Dormant := by
  refine (h.updRec (f := fun r => { r with cd := r.cd.stop }) fun r hr => ?_).dropDue _
  exact ⟨hr.1, hr.2.imp_right fun h => h.imp_right fun ⟨h1, _, h3⟩ => ⟨h1, rfl, h3⟩⟩

theorem dropPending (h : s.Dormant) : (Machine.dropPending i s).Dormant :=
  (h.updRec (f := fun r => { r with pend := none }) fun _ hr => ⟨rfl, hr.2⟩).congr rfl rfl rfl (fun _ => rfl) fun _ h => h

theorem inFlight_none (h : s.Dormant) (i : Idx) : s.inFlight i = none := by
  simp [State.inFlight, State.carries, State.engine, h.engA, h.engB]

theorem abortInFlight (h : s.Dormant) (o : ExOutcome) : Machine.abortInFlight o i s = s := by
  rw [Machine.abortInFlight, h.inFlight_none]

theorem engine (h : s.Dormant) (e : Engine) : s.engine e = none := by
  cases e
  · exact h.engA
  · exact h.engB

theorem stOf (h : s.Dormant) {x : RState} (hx : s.stOf i = some x) : x = .idle ∨ x = .faulted ∨ x = .silent := by
  cases hr : s.rec? i with
  | none => rw [State.stOf, hr] at hx; cases hx
  | some r =>
    rw [stOf_rec hr] at hx
    cases hx
    exact (h.rest i r hr).2.imp_right fun h => h.imp_right fun h => h.1

theorem leaveService (h : s.Dormant) : Machine.leaveService i s = s := by
  unfold Machine.leaveService
  split
  · next hx => have := h.stOf hx; simp at this
  · next hx => have := h.stOf hx; simp at this
  · rfl

/-- A record enters SILENT or IDLE (R8, R43). -/
theorem enters (h : s.Dormant) {st : RState} (hst : st = .silent ∨ st = .idle) : (enter st i s).Dormant := by
  obtain ⟨ha, hb⟩ := engines_enterState h.engA h.engB false st i
  refine ⟨(mode_enterState false st).trans h.mode, ha, hb, fun j r hj => ?_⟩
  have hdue : (enter st i s).isDue (.expiry j) = true → s.isDue (.expiry j) = true := fun hd =>
    (isDue_enterState h.engA h.engB false st i _ hd).1
  by_cases hji : j = i
  · subst hji
    cases hr : s.rec? j with
    | none =>
      rw [enter, enterState_free hr, hr] at hj
      cases hj
    | some q =>
      by_cases hne : q.st = st
      · rw [enter, enterState_same hr hne] at hj ⊢
        exact h.rest j r hj
      · rw [enter, rec?_enterState hr false hne (by rcases hst with rfl | rfl <;> decide)] at hj
        cases hj
        refine ⟨(h.rest j q hr).1, ?_⟩
        rcases hst with rfl | rfl
        · refine .inr (.inr ⟨rfl, ?_, ?_⟩)
          · simp [enteredRec, Countdown.forEntry, h.mode, Countdown.load, Countdown.stop]
          · cases hdd : (enter .silent j s).isDue (.expiry j) with
            | false => rfl
            | true => exact absurd ((isDue_enterState h.engA h.engB false .silent j _ hdd).2 rfl q hr) hne
        · exact .inl rfl
  · rw [enter, rec?_enterState_other hji] at hj
    obtain ⟨hp, hrest⟩ := h.rest j r hj
    refine ⟨hp, hrest.imp_right fun h => h.imp_right fun ⟨h1, h2, h3⟩ => ⟨h1, h2, ?_⟩⟩
    cases hdd : (enter st i s).isDue (.expiry j) with
    | false => rfl
    | true => rw [hdue hdd] at h3; cases h3

theorem enterByMode (h : s.Dormant) : (Machine.enterByMode i s).Dormant := by
  rw [Machine.enterByMode, h.mode]
  exact h.enters (.inl rfl)

/-- Nothing is there to pick. -/
theorem pickBoth (h : s.Dormant) : Machine.pickBoth s = s := by
  have hp : ∀ e, pickFor e s = s := fun e => by
    obtain he | ⟨i, -, hq, -⟩ := pickFor_cases e s
    · exact he
    · have hel := List.find?_some hq
      simp only [State.eligible, Bool.and_eq_true] at hel
      cases hr : s.rec? i with
      | none => rw [hr] at hel; simp at hel
      | some r => rw [hr, Option.bind_some, (h.rest i r hr).1] at hel; simp at hel
  rw [Machine.pickBoth, hp, hp]

theorem finishEvent (h : t.Dormant) (s : State) : (Machine.finishEvent s t).Dormant := by
  have hd : (if t.agenda.decision then decideAdmission t else t : State) = t := by
    rw [decideAdmission_closed t (.inr h.mode), ite_self]
  unfold Machine.finishEvent
  dsimp only
  rw [hd, h.pickBoth, ite_self]
  exact h.congr rfl rfl rfl (fun _ => rfl) fun _ h => h

theorem rested (h : s.supply.mode = .depleted → s.Dormant) : s.rested := fun hm i x hx hs => by
  have := (h hm).stOf hx
  rcases hs with rfl | rfl | rfl <;> simp at this

end State.Dormant

end Sys2Proof.Machine
end

section
/-! What the works of events and requests do to a part in DEPLETED (R43): most of them nothing, and none of them ends its
rest. -/

namespace Sys2Proof.Machine

open Sys2Proof

namespace State.Dormant

variable {s t : State} {i : Idx} {M : Prop}

/-- What adds no expiry to the events due leaves the part dormant. -/
theorem agenda (h : s.Dormant) {a : Agenda} (ha : ∀ ev ∈ a.due, ev ∈ s.agenda.due ∨ ∀ j, ev ≠ .expiry j) :
    ({ s with agenda := a } : State).Dormant :=
  h.congr rfl rfl rfl (fun _ => rfl) fun j hj => by
    rcases ha _ (List.contains_iff_mem.mp hj) with hm | hm
    · exact List.contains_iff_mem.mpr hm
    · exact absurd rfl (hm j)

theorem makeDue (h : s.Dormant) {ev : Event} (hev : ∀ j, ev ≠ .expiry j) : (Machine.makeDue ev s).Dormant :=
  h.agenda fun e he => (List.mem_append.mp he).imp_right fun he => by
    rw [List.mem_singleton.mp he]
    exact hev

/-! ### Events -/

/-- Every cell is OFF. -/
theorem off (h : s.Dormant) (hl : s.service.Law M ∅ ∅) (p : Port) : s.cells[p].drive = .off := by
  by_contra hne
  have hb : ∃ j a, s.service.seats j = some a ∧ a.port = some p := by
    by_contra hn
    exact hne (hl.bare p fun j a ha hp => hn ⟨j, a, ha, hp⟩)
  obtain ⟨j, a, ha, hp⟩ := hb
  have hlev := hl.level j a p ha (Set.notMem_empty j) hp
  have hm : s.service.mode = .depleted := h.mode
  rw [hm] at hlev
  rcases h.stOf (stOf_seat ha) with hst | hst | hst <;> rw [hst] at hlev <;> exact hne hlev

/-- A sample counts nothing. -/
theorem sampleWork (h : s.Dormant) (hl : s.service.Law M ∅ ∅) (m : M) (p : Port) : (Machine.sampleWork p s).Dormant := by
  have hs := sampled_off (h.off hl p)
  have hq : s.callInQ1 p = false := by
    unfold State.callInQ1
    cases s.boundAt p with
    | none => simp
    | some j =>
      cases hr : s.rec? j with
      | none => simp [hr]
      | some r =>
        have ht : r.test = none := by
          have hx := h.stOf (stOf_rec hr)
          have := hl.tested m j _ (seat_of_rec hr)
          cases hc : r.test with
          | none => rfl
          | some c =>
            have hst : r.st = .testing := this.mp (by simp [Record.seat, hc])
            rw [hst] at hx
            simp at hx
        simp [hr, ht]
  have hb : ∀ w, s.brings p w = false := fun w => by
    cases w with
    | settle =>
      show decide (s.cells[p].presRun < 3 ∧ (s.sampled p).presRun = 3) = false
      rw [hs]; exact decide_eq_false (by omega)
    | call =>
      show (!s.cells[p].callHeld && (s.sampled p).callHeld || s.callInQ1 p) = false
      rw [hs, hq]; cases s.cells[p].callHeld <;> rfl
    | overCeiling =>
      show decide (s.cells[p].overRun < 3 ∧ (s.sampled p).overRun = 3) = false
      rw [hs]; exact decide_eq_false (by omega)
    | rampEnd =>
      show decide (s.cells[p].drive = .ramp ∧ (s.sampled p).rampCount = 0) = false
      rw [h.off hl p]; exact decide_eq_false (by simp)
    | feedRun =>
      show decide (s.cells[p].feedRun < 600 ∧ (s.sampled p).feedRun = 600) = false
      rw [hs]; exact decide_eq_false (by omega)
  unfold Machine.sampleWork
  rw [List.filter_eq_nil_iff.mpr fun w _ => by simp [hb w]]
  exact h.withParts rfl rfl rfl rfl

/-- An expiry finds a record that has no countdown to expire. -/
theorem expiryEffect (h : s.Dormant) (hd : s.isDue (.expiry i) = true) (ht : t.stOf i = s.stOf i) :
    Machine.expiryEffect i t = t := by
  unfold Machine.expiryEffect
  rw [ht]
  cases hr : s.rec? i with
  | none => rw [State.stOf, hr]; rfl
  | some r =>
    rw [stOf_rec hr]
    rcases (h.rest i r hr).2 with hst | hst | ⟨-, -, hdd⟩
    · rw [hst]
    · rw [hst]
    · rw [hd] at hdd; cases hdd

/-- An appointment acts on no record (R158). -/
theorem actOn (h : s.Dormant) (a : Appointment) : (Machine.actOn a s).Dormant := by
  have hm : s.supply.mode = .mains ∨ s.supply.mode = .depleted := .inr h.mode
  unfold Machine.actOn
  split
  · split
    · unfold markApportion
      split <;> exact h.withParts rfl rfl rfl rfl
    · exact h
  all_goals rw [if_pos hm]; exact h

theorem expiryWork (h : s.Dormant) : (Machine.expiryWork s).Dormant := by
  unfold Machine.expiryWork
  refine foldl_keeps (Q := State.Dormant) (fun t a ht => ?_) _ h
  unfold expireOne
  dsimp only
  have ha : (Machine.actOn a { t with schedule := t.schedule.erase a }).Dormant :=
    (ht.withParts rfl rfl rfl rfl : ({ t with schedule := t.schedule.erase a } : State).Dormant).actOn a
  split
  · exact ha.withParts rfl rfl rfl rfl
  · exact ha

theorem completeWork (h : s.Dormant) (e : Engine) : Machine.completeWork e s = s := by
  rw [Machine.completeWork, h.engine]

theorem tripWork (h : s.Dormant) (hl : s.service.Law M ∅ ∅) (p : Port) (n : Nat) : Machine.tripWork p n s = s := by
  have hf : s.cells[p].fires n = false := by simp only [Cell.fires, h.off hl p]; rfl
  rw [Machine.tripWork, hf]
  rfl

theorem not_fed (h : s.Dormant) (i : Idx) : s.isIn .fed i = false := by
  refine decide_eq_false fun hx => ?_
  have := h.stOf hx
  simp at this

theorem debitPass (h : s.Dormant) (sc : Scan) : Machine.debitPass sc s = s := by
  refine foldl_keeps (Q := fun t => t = s) (fun t p ht => ?_) allPorts rfl
  rw [ht]
  unfold debitPort
  split
  · rfl
  · next j _ => rw [h.not_fed j]; rfl

theorem apportionWork (h : s.Dormant) : (Machine.apportionWork s).Dormant := by
  have hf : (allIdx.foldl (fun t i => Machine.updRec i (fun r => { r with allowance := s.shareFor i }) t) s).Dormant :=
    foldl_keeps (Q := State.Dormant)
      (fun t j ht => ht.note (f := fun r => { r with allowance := s.shareFor j }) fun _ => ⟨rfl, rfl, rfl⟩) allIdx h
  have hs : (assignShares s).Dormant := by
    unfold assignShares
    dsimp only
    generalize allIdx.foldl _ s = t at hf ⊢
    exact hf.withParts rfl rfl rfl rfl
  unfold Machine.apportionWork
  generalize assignShares s = u at hs
  refine foldl_keeps (Q := State.Dormant) (fun t j ht => ?_) _ hs
  unfold consequence
  cases hr : t.rec? j with
  | none => exact ht
  | some r =>
    rcases (ht.rest j r hr).2 with hst | hst | ⟨hst, -⟩ <;> simp only [hst] <;> exact ht

/-- A countdown of a record at rest runs for none but an IDLE or FAULTED one, whose expiry does nothing. -/
theorem countDown (h : s.Dormant) : (Machine.countDown s).Dormant := by
  refine foldl_keeps (Q := State.Dormant) (fun t i ht => ?_) allIdx h
  unfold countRecord
  cases hr : t.rec? i with
  | none => exact ht
  | some r =>
    obtain ⟨hp, hst⟩ := ht.rest i r hr
    have hset : (Machine.setRec i (some { r with cd := r.cd.counted }) t).Dormant := ht.setRec fun q hq => by
      cases hq
      refine ⟨hp, hst.imp_right fun hst => hst.imp_right fun ⟨h1, h2, h3⟩ => ⟨h1, ?_, h3⟩⟩
      show r.cd.counted.running = false
      rw [Countdown.counted, h2]
      exact h2
    dsimp only
    split
    · next he =>
      refine ⟨hset.mode, hset.engA, hset.engB, fun j q hq => ?_⟩
      obtain ⟨hqp, hqst⟩ := hset.rest j q hq
      by_cases hj : j = i
      · subst hj
        rcases hst with hst | hst | ⟨-, hrun, -⟩
        · change (Machine.setRec j _ t).rec? j = _ at hq; rw [rec?_setRec_self] at hq; cases hq; exact ⟨hqp, .inl hst⟩
        · change (Machine.setRec j _ t).rec? j = _ at hq; rw [rec?_setRec_self] at hq; cases hq; exact ⟨hqp, .inr (.inl hst)⟩
        · simp [Countdown.expires, hrun] at he
      · have hd : ∀ u : State, (Machine.makeDue (.expiry i) u).isDue (.expiry j) = u.isDue (.expiry j) := fun u => by
          simp only [State.isDue, Machine.makeDue]
          rw [Bool.eq_iff_iff]
          simp [hj]
        rw [hd]
        exact hset.rest j q hq
    · exact hset

/-! ### Requests -/

theorem enrolled (h : s.Dormant) (v : Identity) (c : Cls) (p : Option Port) : (createRecord i v c p s).Dormant := by
  have hn : (Machine.setRec i (some (newRecord s v c p)) s).Dormant :=
    h.setRec fun q hq => by cases hq; exact ⟨rfl, .inl rfl⟩
  unfold createRecord
  cases p with
  | none => exact hn
  | some p => exact hn.enterByMode

theorem granted (h : s.Dormant) (n : Nat) : (grantTo i n s).Dormant := by
  unfold grantTo
  cases hr : s.rec? i with
  | none => exact h
  | some r =>
    have hu : ∀ k, (Machine.updRec i (fun r => { r with allowance := r.allowance + k })
        { s with meter := { s.meter with pool := s.meter.pool - k } }).Dormant := fun k =>
      (h.withParts rfl rfl rfl rfl : ({ s with meter := { s.meter with pool := s.meter.pool - k } } : State).Dormant).note
        fun _ => ⟨rfl, rfl, rfl⟩
    dsimp only
    have ht := hu (grantMoves r s.meter.pool n)
    generalize (Machine.updRec i _ _ : State) = t at ht
    unfold leaveLapsed
    cases hq : t.rec? i with
    | none => exact ht
    | some q =>
      dsimp only
      split
      · next hc =>
        have := ht.stOf (stOf_rec hq)
        rw [hc.1] at this
        simp at this
      · exact ht

theorem amendedTerms (h : s.Dormant) (l : List AmendChange) : (amendTerms l i s).Dormant := by
  refine amendTerms_keeps (Q := State.Dormant) (fun v s h => ?_) (fun c s h => ?_) (fun c s h => ?_) l h
  · have hu : (Machine.updRec i (fun r => { r with ceiling := clampTo 50 1000 v }) s).Dormant :=
      h.note fun _ => ⟨rfl, rfl, rfl⟩
    unfold amendCeilingWork
    dsimp only
    split
    · exact hu.withParts rfl rfl rfl rfl
    · exact hu
  · unfold amendCapWork
    cases hr : s.rec? i with
    | none => exact h
    | some r =>
      have hset : ∀ q : Record, q.pend = r.pend → q.st = r.st → q.cd = r.cd → (Machine.setRec i (some q) s).Dormant :=
        fun q h1 h2 h3 => h.setRec fun x hx => by
          cases hx
          have := h.rest i r hr
          unfold Record.AtRest at this ⊢
          rwa [h1, h2, h3]
      have hserve : ¬(r.st = .fed ∨ r.st = .waiting) := fun hc => by
        have := h.stOf (stOf_rec hr)
        rcases hc with hc | hc <;> rw [hc] at this <;> simp at this
      cases c with
      | none => exact hset _ rfl rfl rfl
      | some c =>
        dsimp only
        split
        · rw [if_neg fun hc => hserve hc.2]
          exact (hset { r with cap := some c, allowance := c } rfl rfl rfl).withParts rfl rfl rfl rfl
        · exact hset _ rfl rfl rfl
  · unfold amendClassWork
    cases hr : s.rec? i with
    | none => exact h
    | some r =>
      dsimp only
      split
      · exact h
      · have hset : (Machine.setRec i (some { r with cls := c }) s).Dormant :=
          h.setRec fun x hx => by cases hx; exact h.rest i r hr
        have hw : r.st ≠ .waiting := fun hc => by
          have := h.stOf (stOf_rec hr)
          rw [hc] at this
          simp at this
        rw [if_neg hw, if_neg fun hc => by rw [h.mode] at hc; cases hc.1]
        exact hset

theorem withdrawn (h : s.Dormant) : (withdraw i s).Dormant := by
  rw [withdraw, h.abortInFlight, h.dropPending.leaveService]
  exact h.dropPending

theorem unbound (h : s.Dormant) : (unbindWork i s).Dormant := by
  unfold unbindWork
  split
  · exact h
  · have hu : (Machine.updRec i (fun r => { r with port := none }) (withdraw i s)).Dormant :=
      h.withdrawn.note fun _ => ⟨rfl, rfl, rfl⟩
    have hc := (hu.enters (i := i) (.inr rfl)).stopCountdown (i := i)
    dsimp only
    generalize setCountdown i Countdown.stop _ = t at hc ⊢
    exact hc.withParts rfl rfl rfl rfl

theorem bound (h : s.Dormant) (p : Port) : (bindWork p i s).Dormant := by
  unfold bindWork
  split
  · exact h
  · have hu : (Machine.updRec i (fun r => { r with port := some p }) (unbindWork i s)).Dormant :=
      h.unbound.note fun _ => ⟨rfl, rfl, rfl⟩
    exact hu.enterByMode

theorem amended (h : s.Dormant) (l : List AmendChange) : (amendWork l i s).Dormant := by
  have hb : (amendBinding l i (amendTerms l i s)).Dormant := by
    have ht := h.amendedTerms l (i := i)
    unfold amendBinding
    cases (portIn l).bind portOfByte with
    | none =>
      dsimp only
      split
      · exact ht.unbound
      · exact ht
    | some p =>
      dsimp only
      split
      · exact (ht.bound p).unbound
      · exact ht.bound p
  rw [amendWork_eq]
  split
  · unfold clearFaultWork
    split
    · exact hb
    · next p _ =>
      exact (hb.withParts rfl rfl rfl rfl :
        (updCell p (fun c => { c with faultCount := 0 }) (amendBinding l i (amendTerms l i s))).Dormant).enterByMode
  · exact hb

theorem retired (h : s.Dormant) : (retireWork i s).Dormant := by
  have hw : (dropAppointments i (withdraw i s)).Dormant := h.withdrawn.withParts rfl rfl rfl rfl
  unfold retireWork
  dsimp only
  generalize dropAppointments i (withdraw i s) = t at hw
  cases t.rec? i with
  | none => exact hw
  | some r =>
    have hp : ({ t with meter := { t.meter with pool := t.meter.pool + r.allowance } } : State).Dormant :=
      hw.withParts rfl rfl rfl rfl
    dsimp only
    refine State.Dormant.setRec (State.Dormant.dropDue ?_ _) fun q hq => by cases hq
    cases s.portOf i with
    | none => exact hp
    | some p => exact hp.withParts rfl rfl rfl rfl

theorem cleared (h : s.Dormant) : (clearWork s).Dormant := by
  have hm : (cutLine .b (cutLine .a s)).supply.mode = .depleted := by
    have hf : (cutLine .b (cutLine .a s)).fixed = s.fixed := by simp
    have hs := congrArg Fixed.supply hf
    exact (congrArg Supply.mode hs).trans h.mode
  unfold clearWork
  dsimp only
  refine foldl_keeps (Q := State.Dormant) (fun t p ht => ht.withParts rfl rfl rfl rfl) allPorts ?_
  exact ⟨hm, rfl, rfl, fun i r hr => by simp [State.rec?] at hr⟩

theorem busCapChanged (h : s.Dormant) (hl : s.service.Law M ∅ ∅) (v : Nat) : (changeBusCap v s).Dormant := by
  have hf : s.arbiter.feedList = [] := List.eq_nil_iff_forall_not_mem.mpr fun i hi => by
    obtain ⟨-, a, ha, hst⟩ := (hl.feed i).mp hi
    have := h.stOf (stOf_seat ha)
    rw [hst] at this
    simp at this
  unfold changeBusCap
  simp only [hf]
  exact h.withParts rfl rfl rfl rfl

theorem sendOwner (h : s.Dormant) (k : ExKind) (b x : Byte) : (Machine.sendOwner k b x s).after = s := by
  unfold Machine.sendOwner
  split
  · rfl
  · split
    · rfl
    · rw [if_pos (.inr h.mode)]; rfl

theorem testOwner (h : s.Dormant) (b : Byte) : (Machine.testOwner b s).after = s := by
  unfold Machine.testOwner
  split
  · rfl
  · split
    · rfl
    · split
      · next he => have := (testEligible_cases he).2; rw [h.mode] at this; cases this
      · rfl

end State.Dormant

end Sys2Proof.Machine
end

section
/-! Every step keeps the laws of service and of the modes (R5, R8, R39 to R45, R47, R84, R85). -/

namespace Sys2Proof.Machine

open Sys2Proof

/-! ### The entry into DEPLETED (R43) -/

/-- No engine carries an exchange and none is pending. -/
structure State.Emptied (s : State) : Prop where
  engA : s.link.engA = none
  engB : s.link.engB = none
  pend : ∀ i r, s.rec? i = some r → r.pend = none

namespace State.Emptied

variable {s t : State}

theorem withParts (h : s.Emptied) (hl : t.link.engA = s.link.engA ∧ t.link.engB = s.link.engB)
    (hs : t.slots = s.slots) : t.Emptied :=
  ⟨hl.1.trans h.engA, hl.2.trans h.engB, fun i r hr => h.pend i r ((rec?_congr hs i).symm.trans hr)⟩

theorem updRec (h : s.Emptied) {f : Record → Record} (hf : ∀ r, (f r).pend = r.pend) (i : Idx) :
    (Machine.updRec i f s).Emptied := by
  unfold Machine.updRec
  cases hr : s.rec? i with
  | none => exact h
  | some r =>
    refine ⟨h.engA, h.engB, fun j q hq => ?_⟩
    rw [rec?_setRec] at hq
    split at hq
    · cases hq; exact (hf r).trans (h.pend i r hr)
    · exact h.pend j q hq

theorem enters (h : s.Emptied) {st : RState} (hst : st ≠ .faulted) (i : Idx) : (enter st i s).Emptied := by
  obtain ⟨ha, hb⟩ := engines_enterState h.engA h.engB false st i
  refine ⟨ha, hb, fun j q hq => ?_⟩
  by_cases hj : j = i
  · subst hj
    cases hr : s.rec? j with
    | none => rw [enter, enterState_free hr, hr] at hq; cases hq
    | some r =>
      by_cases hne : r.st = st
      · rw [enter, enterState_same hr hne] at hq; exact h.pend j q hq
      · rw [enter, rec?_enterState hr false hne hst] at hq
        cases hq
        exact h.pend j r hr
  · rw [enter, rec?_enterState_other hj] at hq
    exact h.pend j q hq

end State.Emptied

/-- A cut of an engine's sending leaves the other engine. -/
theorem engine_cutLine_other {e f : Engine} (h : f ≠ e) (s : State) : (cutLine e s).engine f = s.engine f := by
  have hs : (sendPart e s).engine f = s.engine f := by
    obtain he | ⟨g, n, -, -, -, he⟩ := sendPart_cases e s
    · rw [he]
    · rw [he]
      exact setEngine_other h _ s
  unfold cutLine
  dsimp only
  split
  · split
    · rw [setLine_engine]; exact hs
    · exact hs
  · exact hs

theorem engine_noteSent (i : Idx) (x : Exchange) (o : ExOutcome) (e : Engine) (s : State) :
    (noteSent i x o s).engine e = s.engine e := by
  unfold noteSent updRec
  split
  · split <;> rfl
  · rfl

/-- A freed engine is empty; the other keeps its engagement. -/
theorem engine_freeEngine (e f : Engine) (s : State) : (freeEngine e s).engine f = if f = e then none else s.engine f := by
  unfold freeEngine
  split
  · next he =>
    split
    · next hf => rw [hf, he]
    · rfl
  · next g he =>
    have hl : ∀ (p : Option Port) (t : State), (callPick (restartCall p t)).engine f = t.engine f := fun p t => by
      cases p <;> rfl
    rw [hl]
    show (setEngine e none s).engine f = _
    split
    · next hf => rw [hf, setEngine_engine]
    · next hf => exact setEngine_other hf _ s

/-- An abort frees its engine and leaves the other (R125). -/
theorem engine_abortEngine (o : ExOutcome) (e f : Engine) (s : State) :
    (abortEngine o e s).engine f = if f = e then none else s.engine f := by
  unfold abortEngine
  split
  · next he =>
    split
    · next hf => rw [hf, he]
    · rfl
  · rw [engine_noteSent, engine_freeEngine]
    split
    · rfl
    · next hf => exact engine_cutLine_other hf s

theorem emptied_dropAllExchanges (s : State) : (dropAllExchanges s).Emptied := by
  have hEngines : ∀ e, (abortEngine .aborted .b (abortEngine .aborted .a s)).engine e = none := fun e => by
    rw [engine_abortEngine, engine_abortEngine]
    cases e <;> rfl
  have hlink : ∀ (l : List Idx) (t : State),
      (l.foldl (fun s i => updRec i (fun r => { r with pend := none }) s) t).link = t.link := fun l t =>
    foldl_keeps (Q := fun u => u.link = t.link) (fun u i hu => by
      rw [← hu]
      unfold updRec
      split <;> rfl) l rfl
  have hpend : ∀ t : State, ∀ i ∈ allIdx, ∀ r,
      (allIdx.foldl (fun s i => updRec i (fun r => { r with pend := none }) s) t).rec? i = some r → r.pend = none :=
    foldl_each (P := fun i t => ∀ r, t.rec? i = some r → r.pend = none)
      (fun t i r hr => by
        rw [rec?_updRec_self] at hr
        obtain ⟨q, -, rfl⟩ := Option.map_eq_some_iff.mp hr
        rfl)
      (fun t i j hj r hr => by
        rw [rec?_updRec] at hr
        split at hr
        · obtain ⟨q, -, rfl⟩ := Option.map_eq_some_iff.mp hr
          rfl
        · exact hj r hr) allIdx
  unfold dropAllExchanges
  dsimp only
  have h1 := hlink allIdx (abortEngine .aborted .b (abortEngine .aborted .a s))
  have h2 := hpend (abortEngine .aborted .b (abortEngine .aborted .a s))
  have hA := hEngines .a
  have hB := hEngines .b
  generalize abortEngine .aborted .b (abortEngine .aborted .a s) = t at *
  generalize allIdx.foldl _ t = u at h1 h2 ⊢
  exact ⟨(congrArg Link.engA h1).trans hA, (congrArg Link.engB h1).trans hB, fun i r hr =>
    h2 i (List.mem_finRange i) r hr⟩

theorem emptied_stripTable (z : Bool) (s : State) : (stripTable z s).Emptied := by
  have hd := emptied_dropAllExchanges (allCellsOff z s)
  unfold stripTable
  generalize dropAllExchanges (allCellsOff z s) = t at hd ⊢
  have hr : (releaseAll t).Emptied := by
    unfold releaseAll
    have := foldl_keeps (Q := State.Emptied) (f := fun s i => updRec i (fun r => { r with admitted := none }) s)
      (fun u i hu => hu.updRec (f := fun r => { r with admitted := none }) (fun _ => rfl) i) allIdx hd
    generalize allIdx.foldl _ t = u at this ⊢
    exact this.withParts ⟨rfl, rfl⟩ rfl
  generalize releaseAll t = u at hr ⊢
  unfold abandonAllTests
  refine foldl_keeps (Q := State.Emptied) (fun u i hu => ?_) allIdx hr
  unfold abandonTest
  split
  · exact hu.updRec (f := Record.tested .abandoned) (fun r => by unfold Record.tested Record.raise; split <;> rfl) i
  · exact hu

/-! A record's step of DEPLETED entry: SILENT with its countdown stopped. -/

theorem rec?_stopped (t : State) (i : Idx) : (setCountdown i Countdown.stop t).rec? i =
    (t.rec? i).map fun r => { r with cd := r.cd.stop } := rec?_updRec_self i (fun r => { r with cd := r.cd.stop }) t

theorem rec?_stopped_other {i j : Idx} (hj : j ≠ i) (t : State) : (setCountdown i Countdown.stop t).rec? j = t.rec? j :=
  (rec?_updRec i j (fun r => { r with cd := r.cd.stop }) t).trans (if_neg hj)

/-- The SILENT entry of one record in DEPLETED, with its countdown stopped. -/
def silenced (i : Idx) (s : State) : State := setCountdown i Countdown.stop (enter .silent i s)

theorem depletedRecord_cases (s : State) (i : Idx) :
    depletedRecord s i = s ∧ (∀ r, s.rec? i = some r → r.port = none ∨ r.st = .faulted) ∨
      ∃ r, s.rec? i = some r ∧ r.port ≠ none ∧ depletedRecord s i = silenced i s := by
  unfold depletedRecord silenced
  generalize setCountdown i Countdown.stop (enter .silent i s) = t
  cases s.rec? i with
  | none => exact .inl ⟨rfl, fun r h => absurd h.symm (Option.some_ne_none r)⟩
  | some r =>
    dsimp only
    split
    · next hc => exact .inr ⟨r, rfl, Option.isSome_iff_ne_none.mp hc.1, rfl⟩
    · next hc =>
      refine .inl ⟨rfl, fun q hq => ?_⟩
      cases hq
      by_cases hp : r.port = none
      · exact .inl hp
      · exact .inr (by_contra fun hf => hc ⟨Option.isSome_iff_ne_none.mpr hp, hf⟩)

theorem rec?_silenced {s : State} {i : Idx} {r : Record} (hr : s.rec? i = some r) :
    ∃ q, (silenced i s).rec? i = some q ∧ q.st = .silent ∧ q.pend = r.pend ∧ q.port = r.port ∧ q.cd.running = false := by
  unfold silenced
  rw [rec?_stopped]
  by_cases hne : r.st = .silent
  · rw [enter, enterState_same hr hne, hr]
    exact ⟨_, rfl, hne, rfl, rfl, rfl⟩
  · rw [enter, rec?_enterState hr false hne (by decide)]
    exact ⟨_, rfl, rfl, rfl, rfl, rfl⟩

theorem rec?_silenced_other {i j : Idx} (hj : j ≠ i) (s : State) : (silenced i s).rec? j = s.rec? j :=
  (rec?_stopped_other hj _).trans (rec?_enterState_other hj false .silent)

theorem isDue_silenced {s : State} (h : s.Emptied) (i : Idx) (ev : Event) :
    (silenced i s).isDue ev = true → s.isDue ev = true ∧ ev ≠ .expiry i := by
  unfold silenced setCountdown
  rw [isDue_dropDue, Bool.and_eq_true, decide_eq_true_eq]
  intro ⟨hd, hne⟩
  have ha : ∀ (f : Record → Record) (u : State), (updRec i f u).agenda.due = u.agenda.due := fun f u => by
    unfold updRec
    split <;> rfl
  rw [isDue_of_due (ha _ _)] at hd
  exact ⟨(isDue_enterState h.engA h.engB false .silent i ev hd).1, hne⟩

theorem emptied_silenced {s : State} (h : s.Emptied) (i : Idx) : (silenced i s).Emptied := by
  have hen := (h.enters (st := .silent) (by decide) i).updRec (f := fun r => { r with cd := r.cd.stop }) (fun _ => rfl) i
  unfold silenced setCountdown
  generalize updRec i _ (enter .silent i s) = t at hen ⊢
  exact hen.withParts ⟨rfl, rfl⟩ rfl

/-- An emptied part in DEPLETED whose unbound records are IDLE, as the passes before the records leave it. -/
structure State.Stilled (s : State) : Prop extends s.Emptied where
  mode : s.supply.mode = .depleted
  idle : ∀ i r, s.rec? i = some r → r.port = none → r.st = .idle

theorem stilled_depletedRecord {s : State} (h : s.Stilled) (i : Idx) : (depletedRecord s i).Stilled := by
  obtain ⟨he, -⟩ | ⟨r, hr, hp, he⟩ := depletedRecord_cases s i
  · rw [he]; exact h
  · rw [he]
    refine ⟨emptied_silenced h.toEmptied i, ?_, fun j q hq hqp => ?_⟩
    · have hf : (silenced i s).fixed = s.fixed := by simp [silenced]
      exact (congrArg (fun f : Fixed => f.supply.mode) hf).trans h.mode
    · by_cases hj : j = i
      · subst hj
        obtain ⟨q', hq', -, -, hport, -⟩ := rec?_silenced hr
        rw [hq'] at hq
        cases hq
        exact absurd (hport.symm.trans hqp) hp
      · rw [rec?_silenced_other hj] at hq
        exact h.idle j q hq hqp

/-- The slot's record, if any, is at rest. -/
def State.restsAt (i : Idx) (s : State) : Prop := ∀ r, s.rec? i = some r → r.AtRest (s.isDue (.expiry i))

theorem restsAt_silenced {s : State} (h : s.Stilled) {i : Idx} {r : Record} (hr : s.rec? i = some r) :
    (silenced i s).restsAt i := fun q hq => by
  obtain ⟨q', hq', hst, hpd, -, hrun⟩ := rec?_silenced hr
  rw [hq'] at hq
  cases hq
  refine ⟨hpd.trans (h.pend i r hr), .inr (.inr ⟨hst, hrun, ?_⟩)⟩
  cases hd : (silenced i s).isDue (.expiry i) with
  | false => rfl
  | true => exact absurd rfl (isDue_silenced h.toEmptied i _ hd).2

theorem restsAt_depletedRecord {s : State} (h : s.Stilled) (i : Idx) : (depletedRecord s i).restsAt i := by
  obtain ⟨he, hn⟩ | ⟨r, hr, -, he⟩ := depletedRecord_cases s i
  · rw [he]
    refine fun r hr => ⟨h.pend i r hr, ?_⟩
    rcases hn r hr with hn | hn
    · exact .inl (h.idle i r hr hn)
    · exact .inr (.inl hn)
  · rw [he]; exact restsAt_silenced h hr

theorem restsAt_depletedRecord_other {s : State} (h : s.Stilled) {i j : Idx} (hj : s.restsAt j) :
    (depletedRecord s i).restsAt j := by
  obtain ⟨he, -⟩ | ⟨r, hr, -, he⟩ := depletedRecord_cases s i
  · rw [he]; exact hj
  · rw [he]
    by_cases hji : j = i
    · subst hji; exact restsAt_silenced h hr
    · intro q hq
      rw [rec?_silenced_other hji] at hq
      obtain ⟨hp, hst⟩ := hj q hq
      refine ⟨hp, hst.imp_right fun hx => hx.imp_right fun ⟨h1, h2, h3⟩ => ⟨h1, h2, ?_⟩⟩
      cases hd : (silenced i s).isDue (.expiry j) with
      | false => rfl
      | true => rw [(isDue_silenced h.toEmptied i _ hd).1] at h3; cases h3

/-- Once every record has taken its step, the part is dormant. -/
theorem dormant_depletedRecords {s : State} (h : s.Stilled) : (allIdx.foldl depletedRecord s).Dormant := by
  have hall := foldl_each_of (f := depletedRecord) (G := State.Stilled) (P := State.restsAt)
    (fun t i ht => stilled_depletedRecord ht i) (fun t i ht => restsAt_depletedRecord ht i)
    (fun t i j ht hj => restsAt_depletedRecord_other ht hj) allIdx h
  have hfin := foldl_keeps (Q := State.Stilled) (fun t i ht => stilled_depletedRecord ht i) allIdx h
  generalize allIdx.foldl depletedRecord s = t at hall hfin
  exact ⟨hfin.mode, hfin.engA, hfin.engB, fun i => hall i (List.mem_finRange i)⟩

theorem dormant_depletedOrders {M : Prop} {X : Set Idx} {v : Service} {s : State} (h : v.Law M X ∅)
    (hs : s.service.seats = v.seats) (hr : s.service.run = v.run) (hd : s.service.drive = v.drive)
    (hm : s.supply.mode = .depleted) : (depletedOrders s).Dormant := by
  obtain ⟨-, -, hmode, hseats⟩ := law_stripTable h hs hr hd (by rw [hm]; decide) false
  have he : depletedOrders s = allIdx.foldl depletedRecord (stripTable false s) := rfl
  have hE := emptied_stripTable false s
  rw [he]
  generalize stripTable false s = B at *
  refine dormant_depletedRecords ⟨hE, hmode.trans hm, fun i r hr hp => ?_⟩
  have hb := seat_of_rec hr
  rw [hseats] at hb
  obtain ⟨b, hb, he⟩ := Option.map_eq_some_iff.mp hb
  have hidle := h.idle i b hb (Set.notMem_empty i)
  have hbp : b.port = none := (congrArg Seat.port he).trans hp
  have hbst : b.st = r.st := congrArg Seat.st he
  rw [← hbst]
  split at hidle
  · exact hidle
  · exact hidle.mpr hbp

end Sys2Proof.Machine
end

section
/-! The laws of service and of the modes together, kept by every event, request and piece of a tick. -/

namespace Sys2Proof.Machine

open Sys2Proof

/-- The laws of service, and where `M` holds those of the modes, a part in DEPLETED being dormant. -/
structure State.Sound (M : Prop) (s : State) : Prop where
  law : s.service.Law M ∅ ∅
  dormant : M → s.supply.mode = .depleted → s.Dormant

theorem sound_feedLaw (s : State) : s.Sound False ↔ s.FeedLaw := by
  constructor
  · exact fun h => ((law_iff False s).mp h.law).1
  · exact fun h => ⟨(law_iff False s).mpr ⟨h, False.elim⟩, False.elim⟩

theorem sound_modeLaw (s : State) : s.Sound True ↔ s.FeedLaw ∧ s.ModeLaw := by
  constructor
  · intro h
    obtain ⟨hf, hm⟩ := (law_iff True s).mp h.law
    obtain ⟨ht, ho, hc⟩ := hm trivial
    exact ⟨hf, hc, (depletedLaw_iff s).mpr (h.dormant trivial), ho, ht⟩
  · intro ⟨hf, hc, hd, ho, ht⟩
    exact ⟨(law_iff True s).mpr ⟨hf, fun _ => ⟨ht, ho, hc⟩⟩, fun _ => (depletedLaw_iff s).mp hd⟩

namespace State.Sound

variable {M : Prop} {s t : State}

theorem rested (h : s.Sound M) (m : M) : s.rested := Dormant.rested (h.dormant m)

/-- What keeps the laws, the mode and the rest of DEPLETED keeps them together. -/
theorem keeps (h : s.Sound M) (hl : t.service.Law M ∅ ∅) (hm : t.supply.mode = s.supply.mode)
    (hd : M → s.Dormant → t.Dormant) : t.Sound M := ⟨hl, fun m he => hd m (h.dormant m (hm.symm.trans he))⟩

theorem congr (h : s.Sound M) (hs : t.service = s.service) (hd : s.Dormant → t.Dormant) : t.Sound M :=
  h.keeps (hs ▸ h.law) (mode_congr hs) fun _ => hd

theorem withParts (h : s.Sound M) (hs : t.service = s.service) (hl : t.link = s.link) (hr : t.slots = s.slots)
    (hd : t.agenda.due = s.agenda.due) : t.Sound M :=
  h.congr hs fun h => h.withParts hl hr (mode_congr hs) hd

/-- Work of the fixed part that keeps the laws. -/
theorem work (h : s.Sound M) (hf : t.fixed = s.fixed) (hl : t.service.Law M ∅ ∅) (hd : M → s.Dormant → t.Dormant) :
    t.Sound M := h.keeps hl (congrArg (fun f : Fixed => f.supply.mode) hf) hd

theorem agenda (h : s.Sound M) {a : Agenda} (ha : ∀ ev ∈ a.due, ev ∈ s.agenda.due ∨ ∀ j, ev ≠ .expiry j) :
    ({ s with agenda := a } : State).Sound M := h.congr rfl fun h => h.agenda ha

theorem dropDue (h : s.Sound M) (ev : Event) : (Machine.dropDue ev s).Sound M := h.congr rfl fun h => h.dropDue ev

theorem makeDue (h : s.Sound M) {ev : Event} (hev : ∀ j, ev ≠ .expiry j) : (Machine.makeDue ev s).Sound M :=
  h.congr rfl fun h => h.makeDue hev

theorem clearNotes (h : s.Sound M) : (Machine.clearNotes s).Sound M := h.withParts rfl rfl rfl rfl

theorem finishEvent (h : t.Sound M) (s : State) : (Machine.finishEvent s t).Sound M :=
  h.work (fixed_finishEvent s t) (law_finishEvent h.law s) fun _ hd => hd.finishEvent s

theorem event {f : State → State} (hf : ∀ s : State, s.Sound M → (f s).Sound M) (h : s.Sound M) :
    (Machine.event f s).Sound M := (hf _ h.clearNotes).finishEvent s

/-! ### The modes -/

/-- An entry into another mode (R39). -/
theorem enterMode (h : s.Sound M) {m : Mode} (hne : m ≠ s.supply.mode) : (Machine.enterMode m s).Sound M := by
  refine ⟨law_enterMode h.law hne h.rested, fun _ hm => ?_⟩
  have he : (Machine.enterMode m s).supply.mode = m :=
    congrArg (fun f : Fixed => f.supply.mode) (fixed_enterMode m s)
  have hmd : m = .depleted := he.symm.trans hm
  subst hmd
  have horders : ∀ u : State, entryOrders s.supply.mode .depleted u = depletedOrders u := fun u => by
    unfold entryOrders
    cases s.supply.mode <;> rfl
  have hd := dormant_depletedOrders (s := { s with
    supply := { s.supply with mode := .depleted, failCount := 0, returnCount := 0, held := false }
    dev := { s.dev with mode := true } }) h.law rfl rfl rfl rfl
  unfold Machine.enterMode
  dsimp only
  rw [horders, if_neg (by decide)]
  generalize depletedOrders _ = u at hd
  unfold markApportion
  split <;> exact hd.withParts rfl rfl rfl rfl

theorem enterSelected (h : s.Sound M) : (Machine.enterSelected s).Sound M := by
  unfold Machine.enterSelected
  split
  · exact h
  · dsimp only
    split
    · exact h
    · next hne => exact h.enterMode hne

theorem evaluateTick (h : s.Sound M) : (Machine.evaluateTick s).Sound M := by
  unfold Machine.evaluateTick
  split
  · exact h.enterSelected
  · exact h.enterSelected
  · exact h
  · exact h

theorem reserveWork (h : s.Sound M) (q : Nat) : (Machine.reserveWork q s).Sound M := by
  have hq : ({ s with supply := { s.supply with q := some q, latch := false, uvRun := 0 } } : State).Sound M :=
    h.withParts rfl rfl rfl rfl
  unfold Machine.reserveWork evaluateReserve
  split
  · split
    · exact hq.enterSelected
    · exact hq
  · exact hq.enterSelected
  · exact hq.enterSelected
  · exact hq.enterSelected

theorem setLatch (h : s.Sound M) : (Machine.setLatch s).Sound M := by
  unfold Machine.setLatch
  split
  · exact (h.withParts (t := { s with supply := { s.supply with latch := true } }) rfl rfl rfl rfl).dropDue .latch
  · exact h

theorem latchWork (h : s.Sound M) : (Machine.latchWork s).Sound M := by
  have hl : ({ s with supply := { s.supply with latch := true } } : State).Sound M := h.withParts rfl rfl rfl rfl
  unfold Machine.latchWork
  dsimp only
  split
  · exact hl
  · exact hl.evaluateTick

theorem failWork (h : s.Sound M) : (Machine.failWork s).Sound M := by
  have hl := h.setLatch
  unfold Machine.failWork
  dsimp only
  split
  · split
    · exact hl.enterSelected
    · exact hl.withParts rfl rfl rfl rfl
  · exact hl

theorem returnWork (h : s.Sound M) : (Machine.returnWork s).Sound M := by
  have hl := h.setLatch
  unfold Machine.returnWork
  dsimp only
  split
  · exact hl
  · next hm => exact hl.enterMode fun he => hm he.symm

theorem supplyTick (h : s.Sound M) (sc : Scan) : (Machine.supplyTick sc s).Sound M := by
  have hq : (debitQ sc.bus.toNat s).Sound M := by
    unfold debitQ
    split
    · exact h
    · exact h.withParts rfl rfl rfl rfl
  have hu : (uvTick sc.volt.toNat (debitQ sc.bus.toNat s)).Sound M := by
    have hr := hq.withParts (t := { debitQ sc.bus.toNat s with
      supply := { (debitQ sc.bus.toNat s).supply with
        uvRun := nextUvRun (debitQ sc.bus.toNat s).cfg.uvFloor (debitQ sc.bus.toNat s).supply.uvRun sc.volt.toNat } })
      rfl rfl rfl rfl
    unfold uvTick
    dsimp only
    split
    · exact hr.makeDue nofun
    · exact hr
  have hm : (mainsTick sc.mains (uvTick sc.volt.toNat (debitQ sc.bus.toNat s))).Sound M := by
    generalize uvTick sc.volt.toNat (debitQ sc.bus.toNat s) = u at hu
    have part : ∀ c : Supply, c.mode = u.supply.mode → ({ u with supply := c } : State).Sound M := fun c hc =>
      hu.withParts (by unfold State.service; dsimp only; rw [hc]; rfl) rfl rfl rfl
    unfold mainsTick
    dsimp only
    split
    · split
      · exact part _ rfl
      · split
        · refine State.Sound.makeDue ?_ nofun
          exact part _ rfl
        · exact part _ rfl
    · split
      · split
        · refine State.Sound.makeDue ?_ nofun
          exact part _ rfl
        · exact part _ rfl
      · exact part _ rfl
  unfold Machine.supplyTick
  dsimp only
  split
  · exact hm
  · exact hm.evaluateTick

/-! ### The events -/

theorem closeSupply (h : s.Sound M) : (Machine.closeSupply s).Sound M := by
  have one : ∀ (ev : Event) {f : State → State}, (∀ s : State, s.Sound M → (f s).Sound M) → ∀ {s : State}, s.Sound M →
      (if s.isDue ev then Machine.event f (Machine.dropDue ev s) else s : State).Sound M := fun ev f hf s h => by
    split
    · exact event hf (h.dropDue ev)
    · exact h
  unfold Machine.closeSupply
  exact one _ (fun _ h => h.returnWork) (one _ (fun _ h => h.failWork) (one _ (fun _ h => h.latchWork) h))

theorem apportionTick (h : s.Sound M) : (Machine.apportionTick s).Sound M := by
  have ha : (Machine.event apportionWork s).Sound M :=
    event (fun s h => h.work (fixed_apportionWork s) (law_apportionWork h.law) fun _ hd => hd.apportionWork) h
  unfold Machine.apportionTick
  dsimp only
  split
  · exact ha.withParts rfl rfl rfl rfl
  · exact ha.withParts rfl rfl rfl rfl

/-- The work of an event that changes nothing of the fixed part. -/
theorem fixedEvent {f : State → State} (hf : ∀ s, (f s).fixed = s.fixed)
    (hl : ∀ {s : State}, s.service.Law M ∅ ∅ → (f s).service.Law M ∅ ∅)
    (hd : M → ∀ {s : State}, s.service.Law M ∅ ∅ → s.Dormant → (f s).Dormant) (h : s.Sound M) (ev : Event) :
    (Machine.event (fun t => f (Machine.dropDue ev t)) s).Sound M :=
  event (fun _ h => (h.dropDue ev).work (hf _) (hl (h.dropDue ev).law) fun m hq => hd m (h.dropDue ev).law hq) h

/-- Every event that is due keeps the laws. -/
theorem eventWork (h : s.Sound M) {ev : Event} (hdue : s.isDue ev = true) : (Machine.eventWork ev s).Sound M := by
  cases ev with
  | expiry i =>
    have hc := h.clearNotes.dropDue (.expiry i)
    refine State.Sound.finishEvent (t := expiryEffect i (Machine.dropDue (.expiry i) (Machine.clearNotes s))) ?_ s
    refine ⟨law_expiryEffect hc.law (Set.notMem_empty i), fun m hm => ?_⟩
    have hms : s.supply.mode = .depleted :=
      (congrArg (fun f : Fixed => f.supply.mode)
        (fixed_expiryEffect i (Machine.dropDue (.expiry i) (Machine.clearNotes s)))).symm.trans hm
    rw [(h.dormant m hms).expiryEffect (t := Machine.dropDue (.expiry i) (Machine.clearNotes s)) hdue rfl]
    exact hc.dormant m hms
  | appointments =>
    exact fixedEvent fixed_expiryWork (fun h => law_expiryWork h) (fun _ _ _ hq => hq.expiryWork) h .appointments
  | sample p =>
    exact fixedEvent (fixed_sampleWork p) (fun h => law_sampleWork h p) (fun m _ hl hq => hq.sampleWork hl m p) h (.sample p)
  | latch => exact event (f := fun t => Machine.latchWork (Machine.dropDue .latch t)) (fun _ h => (h.dropDue _).latchWork) h
  | failDebounce =>
    exact event (f := fun t => Machine.failWork (Machine.dropDue .failDebounce t)) (fun _ h => (h.dropDue _).failWork) h
  | returnDebounce =>
    exact event (f := fun t => Machine.returnWork (Machine.dropDue .returnDebounce t)) (fun _ h => (h.dropDue _).returnWork) h
  | apportion =>
    have ha := (h.dropDue .apportion).closeSupply.apportionTick
    exact ha
  | complete e =>
    exact fixedEvent (fixed_completeWork e) (fun h => law_completeWork h e)
      (fun _ _ _ hq => by rw [hq.completeWork]; exact hq) h (.complete e)

theorem trip (h : s.Sound M) (p : Port) (n : Nat) : (Machine.event (tripWork p n) s).Sound M :=
  event (fun s h => h.work (fixed_tripWork p n s) (law_tripWork h.law p n) fun _ hq => by
    rw [hq.tripWork h.law]; exact hq) h

/-! ### The requests -/

/-- Every owner leaves the rest of DEPLETED; RESERVE's and the bus cap's in the laws' terms. -/
theorem dormant_owner {c : Instr} {fr : Framing} {n : Nat} {o : State → Answer} (hr : requestOf c = some (fr, n, o))
    (hl : s.service.Law M ∅ ∅) (h : s.Dormant) (hc : ∀ fr q, c ≠ .reserve fr q) : (o s).after.Dormant := by
  have same : (o s).after = s → (o s).after.Dormant := fun he => by rw [he]; exact h
  have amend : ∀ b l, (amendOwner b l s).after.Dormant := fun b l => by
    obtain he | ⟨i, he⟩ := after_amendOwner b l s
    · rw [he]; exact h
    · rw [he]; exact h.amended l
  cases c <;> cases hr
  case enroll v k p =>
    obtain he | ⟨i, d, q, he⟩ := after_enrollOwner v k p s
    · rw [he]; exact h
    · rw [he]; exact h.enrolled ..
  case find => exact same (after_findOwner ..)
  case amendCeiling => exact amend ..
  case amendCap => exact amend ..
  case amendClass => exact amend ..
  case amendPort => exact amend ..
  case unbind => exact amend ..
  case clearFault => exact amend ..
  case retire b =>
    obtain he | ⟨i, he⟩ := after_retireOwner b s
    · rw [he]; exact h
    · rw [he]; exact h.retired
  case grant =>
    obtain he | ⟨i, he⟩ := after_grantOwner _ _ s
    · rw [he]; exact h
    · rw [he]; exact h.granted _
  case apportion =>
    unfold apportionOwner
    split
    · exact h
    · exact h.withParts rfl rfl rfl rfl
  case book =>
    unfold bookOwner
    split
    · exact h
    · split
      · exact h
      · split
        · exact h
        · exact h.withParts rfl rfl rfl rfl
  case cancel =>
    unfold cancelOwner
    split
    · exact h
    · split
      · exact h
      · exact h.withParts rfl rfl rfl rfl
  case schedule => exact same (after_scheduleOwner ..)
  case sendWake => exact same (h.sendOwner ..)
  case sendQuery => exact same (h.sendOwner ..)
  case sendRest => exact same (h.sendOwner ..)
  case sendShed => exact same (h.sendOwner ..)
  case test => exact same (h.testOwner _)
  case setBusCap v =>
    show (if _ then s else changeBusCap _ s : State).Dormant
    split
    · exact h
    · exact h.busCapChanged hl _
  case setClassPolicy =>
    unfold policyOwner
    dsimp only
    split
    · exact h.withParts rfl rfl rfl rfl
    · exact h
  case get => exact same (after_getOwner ..)
  case reserve q => exact absurd rfl (hc fr q)
  case state => exact same (after_stateOwner ..)
  case port => exact same (after_portOwner ..)
  case next =>
    unfold nextOwner
    split
    · exact h.withParts rfl rfl rfl rfl
    · split
      · exact h
      · split
        · exact h
        · exact h.note (f := fun r => { r with flags := 0, rep := false }) fun _ => ⟨rfl, rfl, rfl⟩
  case clear => exact h.cleared
  case setMainsFailDebounce => exact h.withParts rfl rfl (by rfl) rfl
  all_goals exact h.withParts rfl rfl rfl rfl

end State.Sound

end Sys2Proof.Machine
end

section
/-! The laws of service and of the modes are kept by every step. -/

namespace Sys2Proof.Machine

open Sys2Proof

namespace State.Sound

variable {M : Prop} {s : State}

theorem owner (h : s.Sound M) {c : Instr} {fr : Framing} {n : Nat} {o : State → Answer}
    (hr : requestOf c = some (fr, n, o)) : (o s).after.Sound M := by
  by_cases hc : ∃ fr q, c = .reserve fr q
  · obtain ⟨fr', q, rfl⟩ := hc
    cases hr
    exact h.reserveWork q.toNat
  · have hc' : ∀ fr q, c ≠ .reserve fr q := fun fr q he => hc ⟨fr, q, he⟩
    have hm : (o s).after.supply.mode = s.supply.mode := congrArg Prod.fst (mode_owner hr hc' s)
    exact h.keeps (law_owner hr h.law fun q => (h.reserveWork q).law) hm fun _ hd => dormant_owner hr h.law hd hc'

theorem reset : State.reset.Sound M :=
  ⟨(law_iff M _).mpr ⟨feedLaw_reset, fun _ =>
    ⟨modeLaw_reset.2.2.2, modeLaw_reset.2.2.1, modeLaw_reset.1⟩⟩, fun _ h => by cases h⟩

/-- Equal views of the laws and of DEPLETED's rest. -/
theorem counted (h : s.Sound M) : (Machine.countDown s).Sound M := by
  refine h.congr (service_foldl _ (fun t i => ?_) allIdx s) fun h => h.countDown
  unfold countRecord
  cases hr : t.rec? i with
  | none => rfl
  | some r =>
    have hs : (setRec i (some { r with cd := r.cd.counted }) t).service = t.service := service_setRec hr rfl
    dsimp only
    split
    · rw [service_makeDue, hs]
    · exact hs

theorem scanned (h : s.Sound M) (sc : Scan) : (storeScan sc s).Sound M := by
  unfold storeScan
  dsimp only
  refine foldl_keeps (Q := State.Sound M) (fun t p ht => ?_) allPorts (h.withParts rfl rfl rfl rfl)
  exact ht.withParts (service_updCell ⟨rfl, rfl⟩) rfl rfl rfl

theorem engineSet (h : s.Sound M) {e : Engine} {g : Engagement} (g' : Engagement) (hg : s.engine e = some g) :
    (setEngine e (some g') s).Sound M :=
  h.congr (service_setEngine ..) fun hd => by rw [hd.engine] at hg; cases hg

theorem lineSet (h : s.Sound M) (e : Engine) (l : List LineLevel) : (setLine e l s).Sound M :=
  h.congr (service_setLine ..) fun hd => by
    cases e
    · exact hd.congr rfl rfl rfl (fun _ => rfl) fun _ h => h
    · exact hd.congr rfl rfl rfl (fun _ => rfl) fun _ h => h

theorem marked (h : s.Sound M) : (takeUpMark s).Sound M := by
  unfold takeUpMark
  split
  · exact h
  · exact h.withParts rfl rfl rfl rfl
  · exact h.withParts rfl rfl rfl rfl

theorem ordered (h : s.Sound M) : (orderAgenda s).Sound M := by
  refine h.agenda fun ev hev => ?_
  have hord : ∀ ev ∈ s.agenda.due.filter (fun ev => !ev.ofSupply) ++ s.agenda.due.filter Event.ofSupply,
      ev ∈ s.agenda.due := fun ev he => by
    rcases List.mem_append.mp he with he | he <;> exact (List.mem_filter.mp he).1
  split at hev
  · exact .inl (hord ev hev)
  · rcases List.mem_append.mp hev with hev | hev
    · exact .inl (hord ev hev)
    · rw [List.mem_singleton.mp hev]
      exact .inr nofun

/-- What the events and the pieces of a tick keep. -/
theorem tickClosed (M : Prop) : TickClosed (State.Sound M) where
  agenda _ _ ha h := h.agenda fun ev he => (ha ev he).imp_right fun ⟨_, he⟩ => he ▸ nofun
  event _ _ hd h := h.eventWork hd
  trip p n _ h := h.trip p n
  advance _ h := h.withParts rfl rfl rfl rfl
  mark _ h := h.marked
  scan sc _ h := h.scanned sc
  count _ h := h.counted
  facts _ _ h := h.withParts rfl rfl rfl rfl
  due ev _ hev h := h.makeDue (by
    rcases hev with rfl | ⟨p, rfl⟩
    · exact nofun
    · exact nofun)
  debit sc _ h := event (fun s h => h.work (fixed_debitPass sc s) (law_debitPass h.law sc) fun _ hd => by
    rw [hd.debitPass]; exact hd) h
  supply sc _ h := event (fun _ h => h.supplyTick sc) h
  last _ h := h.ordered

theorem stepClosed (M : Prop) : StepClosed (fun _ => True) (State.Sound M) :=
  { tickClosed M with
    host := fun _ _ h => h.withParts rfl rfl rfl rfl
    queue := fun _ _ h => h.withParts rfl rfl rfl rfl
    owner := fun _ _ _ _ s _ hr h => (h.clearNotes.owner hr).finishEvent s
    engine := fun _ _ g' _ hg _ _ _ h => h.engineSet g' hg
    line := fun e l _ h => h.lineSet e l
    reset := fun _ _ _ _ => reset.congr rfl fun hd => nomatch hd.mode
    tick := fun sc o _ _ h => (tickClosed M).tickWork sc o h }

end State.Sound

/-- Settles O13: every operation on a record moves it between the states as the laws of service ask, and the admission
decision and the releases of a bus cap keep the budget. -/
theorem feedLawKept : Obligations.FeedLawKept := by
  unfold Obligations.FeedLawKept
  exact fun s t h he => (sound_feedLaw t).mp ((State.Sound.stepClosed False).step ((sound_feedLaw s).mpr h) he)

/-- Settles O15: only the supply controller's work enters a mode, each entry makes the table what its mode asks, and in
DEPLETED no other work finds a record to move. -/
theorem modeChangesOnlyHere : Obligations.ModeChangesOnlyHere := by
  unfold Obligations.ModeChangesOnlyHere
  refine ⟨fun c s t hl hf hr he hm => mode_changes_at hl hf hr he hm, fun s t hf hm he => ?_⟩
  exact ((sound_modeLaw t).mp ((State.Sound.stepClosed True).step ((sound_modeLaw s).mpr ⟨hf, hm⟩) he)).2

end Sys2Proof.Machine
end

section
/-! The plain SETs, the refusals of ENROLL, and the requests that only read. -/

namespace Sys2Proof.Machine

open Sys2Proof

/-- The state in which an owner judges a request, between events. -/
def State.taken (s : State) : State := { s with host := ⟨s.host.request, none, true, false, s.statusBits⟩ }

/-! ### SET of the clamped settings -/

theorem clampTo_eq_iff {lo hi : Nat} (h : lo ≤ hi) (v : Nat) : clampTo lo hi v = v ↔ lo ≤ v ∧ v ≤ hi := by
  unfold clampTo
  omega

/-- The reply to a SET of a clamped setting (R178). -/
theorem setReply_clamped {lo hi : Nat} (h : lo ≤ hi) (v : Nat) : setReply v (clampTo lo hi v) =
    ⟨if lo ≤ v ∧ v ≤ hi then .done else .clamped, beBytes 4 (clampTo lo hi v)⟩ := by
  have he := clampTo_eq_iff h v
  unfold setReply doneOr
  by_cases hv : lo ≤ v ∧ v ≤ hi
  · simp [hv, he.mpr hv]
  · simp [hv, mt he.mp hv]

/-- A SET that is only clamped and stored, between events. -/
theorem request_setClamped {s : State} {fr : Framing} (h : s.Quiet) (hf : fr.fits 5 = true) {lo hi : Nat} (hlh : lo ≤ hi)
    (v : Nat) (store : Nat → Settings → Settings) :
    request fr 5 (setClamped lo hi v store) s = s.replied { s with cfg := store (clampTo lo hi v) s.cfg }
      ⟨if lo ≤ v ∧ v ≤ hi then .done else .clamped, beBytes 4 (clampTo lo hi v)⟩ := by
  rw [← setReply_clamped hlh v]
  exact request_plain (t := { s.taken with cfg := store (clampTo lo hi v) s.cfg }) h hf rfl h.2.1

/-- Settles O33: each of these SETs stores the clamped value, and the mains-fail debounce with it ends a hold whose
count lies below the new limit. -/
theorem setPlainSettings : Obligations.SetPlainSettings := by
  unfold Obligations.SetPlainSettings
  intro fr v s h hf
  have set : ∀ {lo hi : Nat}, lo ≤ hi → ∀ store : Nat → Settings → Settings,
      (.next (request fr 5 (setClamped lo hi v.toNat store) s) : Host.Outcome State Fault Refusal) = .next _ :=
    fun hlh store => congrArg Host.Outcome.next (request_setClamped h hf hlh v.toNat store)
  refine ⟨set (by decide) _, set (by decide) _, set (by decide) _, set (by decide) _, set (by decide) _, set (by decide) _,
    set (by decide) _, set (by decide) _, ?_, ?_⟩
  · have hp := request_plain (owner := failDebounceOwner v.toNat) (r := setReply v.toNat (clampTo 1 60 v.toNat)) h hf rfl h.2.1
    exact congrArg Host.Outcome.next
      (hp.trans (congrArg (fun r => completeRequest r _) (setReply_clamped (by decide) v.toNat)))
  · have hp := request_plain (owner := maskOwner v) (r := ⟨.done, beBytes 4 (v.setWidth 8).toNat⟩) h hf rfl h.2.1
    exact congrArg Host.Outcome.next
      (hp.trans (congrArg (fun n => completeRequest ⟨.done, beBytes 4 n⟩ _) (BitVec.toNat_setWidth 8 v)))

end Sys2Proof.Machine
end

section
/-! The requests of the table that are refused or only read: ENROLL's checks, FIND, PORT and STATE. -/

namespace Sys2Proof.Machine

open Sys2Proof

/-! ### The operand forms -/

theorem idxOf_none {b : Byte} : idxOf b = none ↔ 63 < b.toNat := by
  unfold idxOf
  split <;> simp <;> omega

theorem idxOf_some {b : Byte} {i : Idx} (h : b.toNat = i.val) : idxOf b = some i := by
  unfold idxOf
  rw [dif_pos (by omega)]
  exact congrArg some (Fin.ext h)

theorem portOfByte_none {b : Byte} : portOfByte b = none ↔ b.toNat = 0 ∨ 48 < b.toNat := by
  unfold portOfByte
  split <;> simp <;> omega

theorem portOfByte_some {b : Byte} {p : Port} : portOfByte b = some p ↔ b.toNat = p.val + 1 := by
  unfold portOfByte
  split
  · rw [Option.some.injEq, Fin.ext_iff]
    dsimp only
    omega
  · have := p.isLt
    simp
    omega

theorem clsOf_none {c : Byte} : clsOf c = none ↔ 2 < c.toNat := by
  unfold clsOf
  match c.toNat with
  | 0 => simp
  | 1 => simp
  | 2 => simp
  | n + 3 => simp

/-- A record of the identity is there exactly when the search finds one. -/
theorem withIdentity_isSome {s : State} {v : Identity} :
    (s.withIdentity v).isSome = true ↔ ∃ i r, s.rec? i = some r ∧ r.identity = v := by
  constructor
  · intro h
    obtain ⟨i, hi⟩ := Option.isSome_iff_exists.mp h
    have hh := List.find?_some hi
    simp only [State.holdsIdentity, decide_eq_true_eq, Option.map_eq_some_iff] at hh
    exact ⟨i, hh⟩
  · intro ⟨i, r, hr, hv⟩
    by_contra hn
    exact withIdentity_none (by simpa using hn) i r hr hv

/-- With unique identities the record of an identity is the one found. -/
theorem withIdentity_eq {s : State} (hu : s.UniqueIdentities) {v : Identity} {i : Idx} {r : Record}
    (hr : s.rec? i = some r) (hv : r.identity = v) : s.withIdentity v = some i := by
  have hs := withIdentity_isSome.mpr ⟨i, r, hr, hv⟩
  obtain ⟨j, hj⟩ := Option.isSome_iff_exists.mp hs
  have hh := List.find?_some hj
  simp only [State.holdsIdentity, decide_eq_true_eq, Option.map_eq_some_iff] at hh
  obtain ⟨q, hq, hqv⟩ := hh
  rw [hj, hu j i q r hq hr (hqv.trans hv.symm)]

theorem freeSlot_none {s : State} : s.freeSlot = none ↔ ∀ i : Idx, s.rec? i ≠ none := by
  unfold State.freeSlot
  rw [find?_allIdx_none]
  simp [Option.isSome_iff_ne_none]

theorem portHeld_iff {s : State} {port : Option Byte} {pt : Option Port} (h : portGiven port = some pt) :
    s.portHeld pt = true ↔ ∃ b i p, port = some b ∧ s.portOf i = some p ∧ b.toNat = p.val + 1 := by
  cases port with
  | none =>
    cases h
    simp [State.portHeld]
  | some b =>
    obtain ⟨p, hp, rfl⟩ := Option.map_eq_some_iff.mp h
    have hb := portOfByte_some.mp hp
    simp only [State.portHeld]
    constructor
    · intro hs
      obtain ⟨i, hi⟩ := Option.isSome_iff_exists.mp hs
      exact ⟨b, i, p, rfl, portOf_of_boundAt hi, hb⟩
    · intro ⟨c, i, q, hc, hq, hv⟩
      cases hc
      have hpq : p = q := Option.some.inj (hp.symm.trans (portOfByte_some.mpr hv))
      by_contra hn
      exact boundAt_none.mp (by simpa using hn) i (hpq ▸ hq)

/-! ### ENROLL's checks (R12) -/

/-- Settles O16: the owner's checks one behind the other, each with what the byte or the search it reads stands for. -/
theorem enrollRefused : Obligations.EnrollRefused := by
  unfold Obligations.EnrollRefused
  intro fr identity cls port s h hf
  have refused : ∀ st, enrollOwner identity cls port s.taken = refuse st s.taken →
      exec (.enroll fr identity cls port) s = .next (s.replied s ⟨st, []⟩) := fun st ho =>
    congrArg Host.Outcome.next (request_answer (owner := enrollOwner identity cls port) h hf ho)
  have hgiven : ∀ b, port = some b → portGiven port = (portOfByte b).map some := fun b hb => by rw [hb]; rfl
  refine ⟨fun hbad => refused _ ?_, fun hc hid => ?_⟩
  · unfold enrollOwner
    cases hcls : clsOf cls with
    | none => rfl
    | some c =>
      have hid : identity = 0 := hbad.resolve_left fun hlt => by rw [clsOf_none.mpr hlt] at hcls; cases hcls
      dsimp only
      rw [if_pos hid]
  · obtain ⟨c, hcls⟩ : ∃ c, clsOf cls = some c := Option.ne_none_iff_exists'.mp fun hn => by
      have := clsOf_none.mp hn; omega
    have owner : ∀ a, (match portGiven port with
        | none => refuse .badPort s.taken
        | some pt =>
          if (s.withIdentity identity).isSome then refuse .dupIdentity s.taken
          else if s.portHeld pt then refuse .portTaken s.taken
          else
            match s.freeSlot with
            | none => refuse .tableFull s.taken
            | some i => ⟨createRecord i identity c pt s.taken, some fun _ => ⟨.done, [idxByte i]⟩⟩ : Answer) = a →
        enrollOwner identity cls port s.taken = a := fun a ha => by
      rw [← ha]
      unfold enrollOwner
      rw [hcls]
      dsimp only
      rw [if_neg hid]
      rfl
    have given : (¬∃ b, port = some b ∧ (b.toNat = 0 ∨ 48 < b.toNat)) → ∃ pt, portGiven port = some pt := fun hb => by
      cases hp : port with
      | none => exact ⟨none, rfl⟩
      | some b =>
        obtain ⟨p, hpb⟩ := Option.ne_none_iff_exists'.mp fun hn => hb ⟨b, hp, portOfByte_none.mp hn⟩
        exact ⟨some p, by rw [portGiven, hpb]; rfl⟩
    have found : ∀ {P : Prop} {b : Bool}, (b = true ↔ P) → ¬P → b = false := fun hb hp =>
      Bool.eq_false_iff.mpr fun ht => hp (hb.mp ht)
    refine ⟨fun ⟨b, hb, hbad⟩ => ?_, fun hb hdup => ?_, fun hb hdup ht => ?_, fun hb hdup ht hfull => ?_⟩
    · refine refused _ (owner _ ?_)
      rw [hgiven b hb, portOfByte_none.mpr hbad]
      rfl
    · obtain ⟨pt, hpt⟩ := given hb
      refine refused _ (owner _ ?_)
      rw [hpt]
      dsimp only
      rw [if_pos (withIdentity_isSome.mpr hdup)]
    · obtain ⟨pt, hpt⟩ := given hb
      refine refused _ (owner _ ?_)
      rw [hpt]
      dsimp only
      rw [found withIdentity_isSome hdup, if_neg Bool.false_ne_true, if_pos ((portHeld_iff hpt).mpr ht)]
    · obtain ⟨pt, hpt⟩ := given hb
      refine refused _ (owner _ ?_)
      rw [hpt]
      dsimp only
      rw [found withIdentity_isSome hdup, if_neg Bool.false_ne_true, found (portHeld_iff hpt) ht,
        if_neg Bool.false_ne_true, freeSlot_none.mpr hfull]

end Sys2Proof.Machine
end

section
/-! The replies of FIND, PORT and STATE, byte by byte. -/

namespace Sys2Proof.Machine

open Sys2Proof

/-! ### Bytes of a reply -/

theorem extract_byte {w : Nat} (v : BitVec w) (k : Nat) :
    v.extractLsb' (8 * k) 8 = BitVec.ofNat 8 (v.toNat / 256 ^ k) := by
  show BitVec.ofNat 8 (v.toNat >>> (8 * k)) = _
  rw [Nat.shiftRight_eq_div_pow, Nat.pow_mul]

theorem bytes32_eq (v : BitVec 32) : bytes32 v = beBytes 4 v.toNat := by
  simp only [bytes32, beBytes, ← extract_byte]

theorem bytes64_eq (v : BitVec 64) : bytes64 v = beBytes 8 v.toNat := by
  simp only [bytes64, beBytes, ← extract_byte]

theorem beBytes_one : beBytes 1 = fun v => [byteOf v] := by
  funext v
  simp [beBytes, byteOf]

theorem stampBytes_eq : stampBytes = fun v => beBytes 4 v.toNat := funext bytes32_eq

theorem optBytes_map {α β : Type} (f : β → List Byte) (g : α → β) (o : Option α) :
    optBytes f (o.map g) = optBytes (fun a => f (g a)) o := by cases o <;> rfl

theorem modeByte_eq (c : Countdown) : c.modeByte = boolByte c.repeats + 2 * boolByte c.running := by
  unfold Countdown.modeByte
  cases c.repeats <;> cases c.running <;> rfl

theorem devByte_eq (d : DevFlags) : d.byte =
    boolByte d.mode + 2 * boolByte d.poolEmpty + 4 * boolByte d.capshed + 8 * boolByte d.outagePending := by
  unfold DevFlags.byte
  cases d.mode <;> cases d.poolEmpty <;> cases d.capshed <;> cases d.outagePending <;> rfl

/-- What FIND shows of an exchange in flight, from the engine that carries it. -/
theorem inFlightBytes_eq (s : State) (i : Idx) : s.inFlightBytes i =
    optBytes (fun y : Engine × Engagement => [y.2.ex.kind.byte, engineByte y.1, byteOf y.2.attempts])
      ((s.inFlight i).bind fun e => (s.engine e).map fun g => (e, g)) := by
  unfold State.inFlightBytes
  cases s.inFlight i with
  | none => rfl
  | some e =>
    dsimp only [Option.bind_some]
    cases s.engine e <;> rfl

theorem boundBytes_eq {s : State} {i : Idx} {r : Record} (hr : s.rec? i = some r) : s.boundBytes i =
    ((r.port.map fun p => [s.cells[p].presence.byte, boolByte (s.cooling i)]).getD []) := by
  have hp : s.portOf i = r.port := by simp [State.portOf, hr]
  unfold State.boundBytes
  rw [hp]
  cases r.port <;> rfl

theorem portCooling_eq (s : State) (p : Port) : s.portCooling p = (s.boundAt p).any s.cooling := by
  unfold State.portCooling
  cases s.boundAt p <;> rfl

theorem memberBytes_eq (s : State) (i : Idx) : s.memberBytes i = ((s.rec? i).map fun r =>
    [byteOf i.val, r.cls.byte] ++ beBytes 2 r.ceiling ++ [boolByte (s.cooling i)]).getD [] := by
  unfold State.memberBytes
  cases s.rec? i <;> rfl

theorem entryBytes_eq (s : State) (i : Idx) : s.entryBytes i = (((s.rec? i).bind (·.pend)).map fun x =>
    [byteOf i.val, x.kind.byte, byteOf x.arg, x.origin.byte]).getD [] := by
  unfold State.entryBytes
  cases (s.rec? i).bind (·.pend) <;> rfl

/-! ### The requests -/

/-- A request that reads, between events. -/
theorem exec_reads {c : Instr} {s : State} {fr : Framing} {n : Nat} {owner : State → Answer} {r : Reply}
    (hc : requestOf c = some (fr, n, owner)) (h : s.Quiet) (hf : fr.fits n = true)
    (ho : owner s.taken = answer r s.taken) : exec c s = .next (s.replied s r) := by
  rw [exec_request hc, request_answer h hf ho]

theorem findAt_some {s : State} {i : Idx} {r : Record} (hr : s.rec? i = some r) :
    findAt (some i) s.taken = answer ⟨.done, s.findView i⟩ s.taken := by
  have hr' : s.taken.rec? i = some r := hr
  simp only [findAt, hr']
  rfl

theorem findAt_free {s : State} {i : Idx} (hr : s.rec? i = none) : findAt (some i) s.taken = refuse .noRecord s.taken := by
  have hr' : s.taken.rec? i = none := hr
  simp only [findAt, hr']

/-- STATE reads the view that its first byte names (R179). -/
theorem stateOwner_eq (x y : Byte) (s : State) : stateOwner x y s =
    if 3 < x.toNat ∨ 63 < y.toNat then refuse .badRequest s
    else answer ⟨.done, if x = 0 then s.supplyView else if x = 1 then s.feedView y.toNat
      else if x = 2 then s.queueView y.toNat else s.linkView y.toNat⟩ s := by
  have h0 : x = 0 ↔ x.toNat = 0 := BitVec.toNat_inj.symm
  have h1 : x = 1 ↔ x.toNat = 1 := BitVec.toNat_inj.symm
  have h2 : x = 2 ↔ x.toNat = 2 := BitVec.toNat_inj.symm
  have hview : s.stateView x.toNat y.toNat = if 3 < x.toNat ∨ 63 < y.toNat then none
      else some (if x = 0 then s.supplyView else if x = 1 then s.feedView y.toNat
        else if x = 2 then s.queueView y.toNat else s.linkView y.toNat) := by
    simp only [h0, h1, h2]
    generalize x.toNat = n
    unfold State.stateView
    by_cases hy : 63 < y.toNat
    · rw [if_pos hy, if_pos (.inr hy)]
    · rw [if_neg hy]
      match n with
      | 0 => rw [if_neg fun h => h.elim (by decide) hy]; rfl
      | 1 => rw [if_neg fun h => h.elim (by decide) hy]; rfl
      | 2 => rw [if_neg fun h => h.elim (by decide) hy]; rfl
      | 3 => rw [if_neg fun h => h.elim (by decide) hy]; rfl
      | n + 4 => rw [if_pos (.inl (by omega))]; rfl
  unfold stateOwner
  rw [hview]
  by_cases hbad : 3 < x.toNat ∨ 63 < y.toNat
  · rw [if_pos hbad, if_pos hbad]
  · rw [if_neg hbad, if_neg hbad]

/-- Settles O18: each view is written from its fields in the manual's order; what FIND and PORT search for is found by the
searches of the table. -/
theorem viewsRead : Obligations.ViewsRead := by
  unfold Obligations.ViewsRead
  refine ⟨by decide, ?_⟩
  intro fr s h opt yes pending inFlight found ported supplied shown fed waiting queued carried
  have hfound : ∀ i r, s.rec? i = some r → s.findView i = found i r := fun i r hr => by
    simp only [State.findView, hr, found, opt, pending, inFlight, yes, bytes64_eq, stampBytes_eq, optBytes_map,
      beBytes_one, modeByte_eq, inFlightBytes_eq, boundBytes_eq hr, List.cons_append, List.nil_append, List.append_assoc]
    rfl
  have hported : ∀ p, s.portView p = ported p := fun p => by
    have hr : byteOf (if s.cells[p].drive = .ramp then s.cells[p].rampCount else 0) =
        if s.cells[p].drive = .ramp then byteOf s.cells[p].rampCount else 0 := by split <;> rfl
    simp only [State.portView, ported, opt, yes, optBytes_map, beBytes_one, stampBytes_eq, portCooling_eq, hr,
      List.cons_append, List.nil_append, List.append_assoc]
    rfl
  have hsupplied : s.supplyView = supplied := by
    simp only [State.supplyView, supplied, opt, yes, stampBytes_eq, devByte_eq, Nat.mul_comm s.meter.lastVolt]
    rfl
  have hindex : ∀ i r, s.rec? i = some r → findAt (some i) s.taken = answer ⟨.done, found i r⟩ s.taken := fun i r hr => by
    rw [findAt_some hr, hfound i r hr]
  refine ⟨fun b hf => ⟨fun hb => ?_, fun i hb => ⟨fun hr => ?_, fun r hr => ?_⟩⟩, fun v hf => ⟨fun hv => ?_, fun hv hn => ?_,
    fun i r hv hu hr hi => ?_⟩, fun b hf => ⟨fun hb => ?_, fun p hb => ⟨fun hn => ?_, fun i r hu hr hp => ?_⟩⟩,
    fun b hf => ⟨?_, fun hb => ?_, fun p hb => ?_⟩, fun x y hf => ?_⟩
  · refine exec_reads (c := .find fr (.index b)) rfl h hf ?_
    simp only [findOwner, idxOf_none.mpr hb]
    rfl
  · refine exec_reads (c := .find fr (.index b)) rfl h hf ?_
    simp only [findOwner, idxOf_some hb]
    exact findAt_free hr
  · refine exec_reads (c := .find fr (.index b)) rfl h hf ?_
    simp only [findOwner, idxOf_some hb]
    exact hindex i r hr
  · refine exec_reads (c := .find fr (.identity v)) rfl h hf ?_
    simp only [findOwner, hv, if_true]
    rfl
  · refine exec_reads (c := .find fr (.identity v)) rfl h hf ?_
    have hw : s.taken.withIdentity v = none := by
      by_contra hc
      obtain ⟨i, r, hr, he⟩ := withIdentity_isSome.mp (Option.isSome_iff_ne_none.mpr hc)
      exact hn i r hr he
    simp only [findOwner, hv, if_false, hw]
    rfl
  · refine exec_reads (c := .find fr (.identity v)) rfl h hf ?_
    have hw : s.taken.withIdentity v = some i := withIdentity_eq hu hr hi
    simp only [findOwner, hv, if_false, hw]
    exact hindex i r hr
  · refine exec_reads (c := .find fr (.port b)) rfl h hf ?_
    simp only [findOwner, portOfByte_none.mpr hb]
    rfl
  · refine exec_reads (c := .find fr (.port b)) rfl h hf ?_
    have hw : s.taken.boundAt p = none := boundAt_none.mpr hn
    simp only [findOwner, portOfByte_some.mpr hb, hw]
    rfl
  · refine exec_reads (c := .find fr (.port b)) rfl h hf ?_
    have hw : s.taken.boundAt p = some i := boundAt_eq hu (by simp [State.portOf, hr, hp])
    simp only [findOwner, portOfByte_some.mpr hb, hw]
    exact hindex i r hr
  · exact exec_reads (c := .find fr (.other b)) rfl h hf rfl
  · refine exec_reads (c := .port fr b) rfl h hf ?_
    simp only [portOwner, portOfByte_none.mpr hb]
    rfl
  · refine exec_reads (c := .port fr b) rfl h hf ?_
    simp only [portOwner, portOfByte_some.mpr hb]
    rw [← hported p]
    rfl
  · refine exec_reads (c := .state fr x y) rfl h hf ?_
    have hfeed : s.feedView y.toNat = shown y.toNat s.arbiter.feedList fed := rfl
    have hqueue : s.queueView y.toNat = shown y.toNat s.arbiter.queue waiting := by
      have hm : s.memberBytes = waiting := funext (memberBytes_eq s)
      rw [State.queueView, hm]
      rfl
    have hlink : s.linkView y.toNat = optBytes carried s.link.engA ++ optBytes carried s.link.engB ++
        shown y.toNat s.link.queue queued := by
      have hm : s.entryBytes = queued := funext (entryBytes_eq s)
      rw [State.linkView, hm]
      rfl
    rw [stateOwner_eq, ← hsupplied, ← hfeed, ← hqueue, ← hlink]
    by_cases hbad : 3 < x.toNat ∨ 63 < y.toNat
    · rw [if_pos hbad, if_pos hbad]; rfl
    · rw [if_neg hbad, if_neg hbad]; rfl

end Sys2Proof.Machine
end

section
/-! What a command on one record leaves of its exchanges: the cargo of the engines, the queues and the decision called for,
as one value `State.ties`, under each operation. -/

namespace Sys2Proof.Machine

open Sys2Proof

/-! ### The ties of a state -/

/-- What an engine carries: record, port and exchange. -/
def Engagement.cargo (g : Engagement) : Idx × Option Port × Exchange := (g.idx, g.port, g.ex)

/-- The exchanges that the engines carry, the exchange queue, the arbiter's collections, and the decision called for. -/
structure Ties where
  cargo : Engine → Option (Idx × Option Port × Exchange)
  queue : List Idx
  arbiter : Arbiter
  decision : Bool

def State.ties (s : State) : Ties :=
  ⟨fun e => (s.engine e).map Engagement.cargo, s.link.queue, s.arbiter, s.agenda.decision⟩

theorem carries_eq (s : State) (i : Idx) (e : Engine) :
    s.carries i e = decide ((s.ties.cargo e).map Prod.fst = some i) := by
  rcases h : s.engine e with _ | g <;> simp [State.carries, State.ties, Engagement.cargo, h]

theorem inFlight_none_iff (s : State) (i : Idx) : s.inFlight i = none ↔ ∀ e, s.carries i e = false := by
  constructor
  · intro h e
    have := List.find?_eq_none.mp h e (by cases e <;> simp)
    simpa using this
  · intro h
    exact List.find?_eq_none.mpr fun e _ => by simp [h e]

/-- A record holds an exchange pending, or an engine carries it. -/
theorem holds_iff (s : State) (i : Idx) (k : ExKind) (n : Nat) : s.Holds i k n ↔
    (∃ x, (s.rec? i).bind (·.pend) = some x ∧ x.kind = k ∧ x.arg = n) ∨
      ∃ e p x, s.ties.cargo e = some (i, p, x) ∧ x.kind = k ∧ x.arg = n := by
  refine or_congr_right ⟨fun ⟨e, g, hg, hi, hk⟩ => ⟨e, g.port, g.ex, ?_, hk⟩, fun ⟨e, p, x, hc, hk⟩ => ?_⟩
  · simp [State.ties, hg, Engagement.cargo, hi]
  · obtain ⟨g, hg, he⟩ := Option.map_eq_some_iff.mp hc
    simp only [Engagement.cargo, Prod.mk.injEq] at he
    obtain ⟨hi, -, rfl⟩ := he
    exact ⟨e, g, hg, hi, hk⟩

/-! ### What leaves the ties alone -/

section Ties

variable {s : State} {i : Idx}

theorem ties_setEngine {e : Engine} {g g' : Engagement} (hg : s.engine e = some g) (hc : g'.cargo = g.cargo) :
    (setEngine e (some g') s).ties = s.ties := by
  have h : ∀ f, ((setEngine e (some g') s).engine f).map Engagement.cargo = (s.engine f).map Engagement.cargo := fun f => by
    by_cases hf : f = e
    · subst hf; rw [setEngine_engine, hg, Option.map_some, Option.map_some, hc]
    · rw [setEngine_other hf]
  unfold State.ties
  rw [funext h]
  cases e <;> rfl

@[simp] theorem ties_makeDue (ev : Event) (s : State) : (makeDue ev s).ties = s.ties := rfl
@[simp] theorem ties_dropDue (ev : Event) (s : State) : (dropDue ev s).ties = s.ties := rfl
@[simp] theorem ties_callPick (s : State) : (callPick s).ties = s.ties := rfl
@[simp] theorem ties_setRec (r : Option Record) (s : State) : (setRec i r s).ties = s.ties := rfl
@[simp] theorem ties_updCell (p : Port) (f : Cell → Cell) (s : State) : (updCell p f s).ties = s.ties := rfl

@[simp] theorem ties_updRec (i : Idx) (f : Record → Record) (s : State) : (updRec i f s).ties = s.ties := by
  unfold updRec
  split <;> rfl

@[simp] theorem ties_setCountdown (i : Idx) (f : Countdown → Countdown) (s : State) :
    (setCountdown i f s).ties = s.ties := ties_updRec ..

@[simp] theorem ties_raiseFlag (i : Idx) (f : RecFlag) (s : State) : (raiseFlag i f s).ties = s.ties := ties_updRec ..
@[simp] theorem ties_setTested (i : Idx) (o : TestOutcome) (s : State) : (setTested i o s).ties = s.ties := ties_updRec ..

@[simp] theorem ties_noteSent (i : Idx) (x : Exchange) (o : ExOutcome) (s : State) : (noteSent i x o s).ties = s.ties := by
  unfold noteSent
  split
  · exact ties_updRec ..
  · rfl

@[simp] theorem ties_restartCall (p : Option Port) (s : State) : (restartCall p s).ties = s.ties := by cases p <;> rfl

@[simp] theorem ties_setLine (e : Engine) (l : List LineLevel) (s : State) : (setLine e l s).ties = s.ties := by
  unfold State.ties
  simp only [setLine_engine]
  cases e <;> rfl

theorem ties_readings (s : State) (n : Nat) : ({ s with link := { s.link with readings := n } } : State).ties = s.ties := by
  have h : ∀ e, ({ s with link := { s.link with readings := n } } : State).engine e = s.engine e := fun e => by
    cases e <;> rfl
  unfold State.ties
  simp only [h]

@[simp] theorem ties_sendPart (e : Engine) (s : State) : (sendPart e s).ties = s.ties := by
  obtain h | ⟨g, n, hg, -, -, h⟩ := sendPart_cases e s
  · rw [h]
  · rw [h]
    exact (ties_readings _ _).trans (ties_setEngine hg rfl)

@[simp] theorem ties_sendPartOn (p : Port) (s : State) : (sendPartOn p s).ties = s.ties := by
  unfold sendPartOn
  split
  · exact ties_sendPart ..
  · rfl

@[simp] theorem ties_cutLine (e : Engine) (s : State) : (cutLine e s).ties = s.ties := by
  unfold cutLine
  dsimp only
  split
  · split
    · rw [ties_setLine, ties_sendPart]
    · exact ties_sendPart ..
  · exact ties_sendPart ..

@[simp] theorem ties_takeBaseline (e : Engine) (s : State) : (takeBaseline e s).ties = s.ties := by
  unfold takeBaseline
  split
  · next g hg =>
    exact (ties_readings _ _).trans (ties_setEngine hg rfl)
  · rfl

@[simp] theorem ties_failAttempt (e : Engine) (o : ExOutcome) (s : State) : (failAttempt e o s).ties = s.ties := by
  cases hg : s.engine e with
  | none => simp [failAttempt, hg]
  | some g =>
    obtain ⟨-, h⟩ | ⟨-, h⟩ := failAttempt_cases e o s g hg
    · rw [h]; exact ties_setEngine hg rfl
    · rw [h, ties_makeDue]; exact ties_setEngine hg rfl

@[simp] theorem ties_linkAtLevelChange (p : Port) (l : Drive) (s : State) : (linkAtLevelChange p l s).ties = s.ties := by
  unfold linkAtLevelChange
  split
  · rfl
  · split
    · rfl
    · dsimp only
      split <;> simp

@[simp] theorem ties_orderLevel (p : Port) (n : Nat) (l : Drive) (s : State) : (orderLevel p n l s).ties = s.ties := by
  unfold orderLevel
  split
  · rfl
  · simp

@[simp] theorem ties_orderAt (p : Option Port) (n : Nat) (l : Drive) (s : State) : (orderAt p n l s).ties = s.ties := by
  cases p with
  | none => rfl
  | some p => exact ties_orderLevel ..

/-- A state entry other than FAULTED leaves the exchanges and the collections. -/
theorem ties_enterState (b : Bool) {st : RState} (hst : st ≠ .faulted) (i : Idx) (s : State) :
    (enterState b st i s).ties = s.ties := by
  obtain h | ⟨r, -, -, h⟩ := enterState_steps b st i s
  · rw [h]
  · rw [h, ties_orderAt, enterSlot, if_neg hst]
    rfl

theorem ties_enter {st : RState} (hst : st ≠ .faulted) (i : Idx) (s : State) : (enter st i s).ties = s.ties :=
  ties_enterState false hst i s

/-! ### What changes them -/

theorem ties_dropPending (i : Idx) (s : State) :
    (dropPending i s).ties = { s.ties with queue := s.link.queue.filter (· ≠ i) } := by
  unfold dropPending updRec
  dsimp only
  split <;> rfl

theorem ties_releaseFeed (i : Idx) (s : State) : (releaseFeed i s).ties =
    { s.ties with arbiter := { s.arbiter with feedList := s.arbiter.feedList.filter (· ≠ i) }, decision := true } := by
  unfold releaseFeed updRec
  dsimp only
  split <;> rfl

/-- An exchange asked for adds its record to the exchange queue at most. -/
theorem ties_ask (i : Idx) (x : Exchange) (s : State) :
    (ask i x s).ties = s.ties ∨ (ask i x s).ties = { s.ties with queue := s.link.queue ++ [i] } := by
  obtain ⟨-, h⟩ | ⟨r, -, ⟨-, h⟩ | ⟨-, -, h⟩ | ⟨-, h⟩⟩ := ask_cases i x s
  · exact .inl (by rw [h])
  · exact .inl (by rw [h])
  · exact .inl (by rw [h]; rfl)
  · exact .inr (by rw [h]; rfl)

theorem cargo_ask (i : Idx) (x : Exchange) (s : State) : (ask i x s).ties.cargo = s.ties.cargo := by
  obtain h | h := ties_ask i x s <;> rw [h]

theorem arbiter_ask (i : Idx) (x : Exchange) (s : State) : (ask i x s).arbiter = s.arbiter := by
  obtain h | h := ties_ask i x s
  · exact congrArg Ties.arbiter h
  · exact congrArg Ties.arbiter h

theorem decision_ask (i : Idx) (x : Exchange) (s : State) : (ask i x s).agenda.decision = s.agenda.decision := by
  obtain h | h := ties_ask i x s
  · exact congrArg Ties.decision h
  · exact congrArg Ties.decision h

theorem rec?_ask_other {j : Idx} (hj : j ≠ i) (x : Exchange) (s : State) : (ask i x s).rec? j = s.rec? j := by
  have hset : ∀ q, (setRec i q s).rec? j = s.rec? j := fun q => (rec?_setRec i j q s).trans (if_neg hj)
  obtain ⟨-, h⟩ | ⟨r, -, ⟨-, h⟩ | ⟨-, -, h⟩ | ⟨-, h⟩⟩ := ask_cases i x s
  · rw [h]
  · rw [h]
  · rw [h]; exact hset _
  · rw [h]; exact hset _

/-- An exchange asked for changes its record's pending one at most. -/
theorem rec?_ask {r : Record} (hr : s.rec? i = some r) (x : Exchange) :
    ∃ y, (ask i x s).rec? i = some { r with pend := y } := by
  obtain ⟨hn, -⟩ | ⟨q, hq, hc⟩ := ask_cases i x s
  · rw [hn] at hr; cases hr
  · have hqr : q = r := Option.some.inj (hq.symm.trans hr)
    subst hqr
    obtain ⟨-, h⟩ | ⟨-, -, h⟩ | ⟨-, h⟩ := hc
    · exact ⟨q.pend, by rw [h]; exact hr⟩
    · exact ⟨some x, by rw [h]; exact rec?_setRec_self i _ s⟩
    · exact ⟨some x, by rw [h]; exact rec?_setRec_self i _ s⟩

/-- An exchange asked for is held, or its merge left one of its kind and argument pending (R119). -/
theorem holds_ask {r : Record} (hr : s.rec? i = some r) {x : Exchange} (hx : x.kind ≠ .query) :
    (ask i x s).Holds i x.kind x.arg := by
  obtain ⟨hn, -⟩ | ⟨q, hq, ⟨hm, h⟩ | ⟨-, -, h⟩ | ⟨-, h⟩⟩ := ask_cases i x s
  · rw [hn] at hr; cases hr
  · rw [h]
    cases hp : q.pend with
    | none => rw [hp] at hm; cases hm
    | some y =>
      have hy : y.kind = x.kind ∧ y.arg = x.arg := by
        simp only [hp, mergeDrops, Bool.or_eq_true, Bool.and_eq_true, decide_eq_true_eq] at hm
        rcases hm with ⟨⟨-, hk⟩, -⟩ | ⟨⟨hk, ha⟩, -⟩
        · exact absurd hk hx
        · exact ⟨hk, ha⟩
      exact .inl ⟨y, by rw [hq]; exact hp, hy⟩
  · rw [h]; exact .inl ⟨x, congrArg (·.bind Record.pend) (rec?_setRec_self i _ s), rfl, rfl⟩
  · rw [h]; exact .inl ⟨x, congrArg (·.bind Record.pend) (rec?_setRec_self i _ s), rfl, rfl⟩

end Ties

end Sys2Proof.Machine
end

section
/-! The end of an event, seen from one slot and from one cell: what an admission decision that does not admit the record,
and a pick, leave of it. -/

namespace Sys2Proof.Machine

open Sys2Proof

/-! ### An admission of another record -/

section Decision

variable {s t : State} {i j : Idx} {p : Port}

theorem rec?_admitSlot_other (hj : j ≠ i) (s : State) : (admitSlot i s).rec? j = s.rec? j :=
  (rec?_updRec i j (fun r => { r with admitted := some r.ceiling })
    { s with arbiter := ⟨s.arbiter.feedList ++ [i], s.arbiter.queue.filter (· ≠ i)⟩ }).trans (if_neg hj)

theorem ties_admitSlot (i : Idx) (s : State) : (admitSlot i s).ties =
    { s.ties with arbiter := ⟨s.arbiter.feedList ++ [i], s.arbiter.queue.filter (· ≠ i)⟩ } := ties_updRec ..

theorem cells_admitSlot (i : Idx) (s : State) : (admitSlot i s).cells = s.cells := by
  unfold admitSlot updRec
  split <;> rfl

theorem rec?_admitMember_other (hj : j ≠ i) (s : State) : (admitMember i s).rec? j = s.rec? j := by
  obtain ⟨-, h⟩ | ⟨r, -, h | ⟨x, -, h⟩⟩ := admitMember_cases i s
  · rw [h]
  · rw [h, enter, rec?_enterState_other hj, rec?_admitSlot_other hj]
  · rw [h, rec?_ask_other hj, enter, rec?_enterState_other hj, rec?_admitSlot_other hj]

/-- An admission's part of the ties: the collections, and its SHED in the exchange queue at most. -/
theorem ties_admitMember (i : Idx) (s : State) : (s.rec? i = none ∧ admitMember i s = s) ∨
    ∃ q, (q = s.link.queue ∨ q = s.link.queue ++ [i]) ∧ (admitMember i s).ties =
      { s.ties with queue := q, arbiter := ⟨s.arbiter.feedList ++ [i], s.arbiter.queue.filter (· ≠ i)⟩ } := by
  have he : (enter .fed i (admitSlot i s)).ties = (admitSlot i s).ties := ties_enter (by decide) ..
  obtain h | ⟨r, -, h | ⟨x, -, h⟩⟩ := admitMember_cases i s
  · exact .inl h
  · exact .inr ⟨_, .inl rfl, by rw [h, he, ties_admitSlot]; rfl⟩
  · right
    have hq : (enter .fed i (admitSlot i s)).link.queue = s.link.queue :=
      (congrArg Ties.queue he).trans (congrArg Ties.queue (ties_admitSlot i s))
    obtain ha | ha := ties_ask i x (enter .fed i (admitSlot i s))
    · exact ⟨_, .inl rfl, by rw [h, ha, he, ties_admitSlot]; rfl⟩
    · exact ⟨_, .inr rfl, by rw [h, ha, hq, he, ties_admitSlot]⟩

/-- A drive order on another port leaves the cell. -/
theorem cells_orderAt_other {q : Option Port} (hq : q ≠ some p) (n : Nat) (l : Drive) (s : State) :
    (orderAt q n l s).cells[p] = s.cells[p] := by
  have hlink : ∀ (q : Port) (l : Drive) (t : State), (linkAtLevelChange q l t).cells = t.cells := fun q l t => by
    have hb : ∀ e u, (takeBaseline e u).cells = u.cells := fun e u => by
      unfold takeBaseline
      split
      · exact setEngine_cells ..
      · rfl
    have hf : ∀ e o u, (failAttempt e o u).cells = u.cells := fun e o u => by
      unfold failAttempt
      split
      · split
        · exact setEngine_cells ..
        · exact setEngine_cells ..
      · rfl
    unfold linkAtLevelChange
    split
    · rfl
    · split
      · rfl
      · dsimp only
        split
        · rw [hf, hb]
        · exact hb ..
  have hsend : ∀ (q : Port) (t : State), (sendPartOn q t).cells = t.cells := fun q t => by
    unfold sendPartOn
    split
    · next e _ =>
      obtain h | ⟨g, n, -, -, -, h⟩ := sendPart_cases e t
      · rw [h]
      · rw [h]; exact setEngine_cells ..
    · rfl
  cases q with
  | none => rfl
  | some q =>
    have hpq : p ≠ q := fun he => hq (he ▸ rfl)
    show (orderLevel q n l s).cells[p] = _
    unfold orderLevel
    split
    · rfl
    · simp only [hlink, cells_updCell, if_neg hpq, hsend]

theorem cells_enterState_other (h : s.portOf i ≠ some p) (b : Bool) (st : RState) :
    (enterState b st i s).cells[p] = s.cells[p] := by
  obtain he | ⟨r, hr, -, he⟩ := enterState_steps b st i s
  · rw [he]
  · have hp : r.port ≠ some p := fun hp => h (by simp [State.portOf, hr, hp])
    rw [he, cells_orderAt_other hp]
    unfold enterSlot dropPending updRec
    dsimp only
    split
    · split <;> rfl
    · rfl

theorem cells_ask (i : Idx) (x : Exchange) (s : State) : (ask i x s).cells = s.cells := by
  obtain ⟨-, h⟩ | ⟨r, -, ⟨-, h⟩ | ⟨-, -, h⟩ | ⟨-, h⟩⟩ := ask_cases i x s <;> rw [h] <;> rfl

theorem cells_admitMember (h : s.portOf i ≠ some p) : (admitMember i s).cells[p] = s.cells[p] := by
  have hp : (admitSlot i s).portOf i ≠ some p := fun hc => h (by
    rw [← hc, portOf_eq, portOf_eq, roster_of_fixed (fixed_of_frame (frame_admitSlot i s))])
  have he : (enter .fed i (admitSlot i s)).cells[p] = s.cells[p] := by
    rw [enter, cells_enterState_other hp]
    simp only [cells_admitSlot]
  obtain ⟨-, hc⟩ | ⟨r, -, hc | ⟨x, -, hc⟩⟩ := admitMember_cases i s
  · rw [hc]
  · rw [hc, he]
  · rw [hc]
    simp only [cells_ask]
    exact he

theorem decideLoop_keeps {Q : State → Prop} (hQ : ∀ s j, j ∈ s.arbiter.queue → Q s → Q (admitMember j s)) (n : Nat)
    (h : Q s) : Q (decideLoop n s) := by
  induction n generalizing s with
  | zero => exact h
  | succ n ih =>
    unfold decideLoop
    split
    · exact h
    · next j hj =>
      split
      · exact ih (hQ s j (List.mem_of_find?_eq_some hj) h)
      · exact h

/-- A decision admits from the queue, one candidate behind the other. -/
theorem decide_keeps {Q : State → Prop} (hQ : ∀ s j, j ∈ s.arbiter.queue → Q s → Q (admitMember j s)) (h : Q s) :
    Q (decideAdmission s) := by
  unfold decideAdmission
  split
  · exact h
  · exact decideLoop_keeps hQ _ h

/-! ### The slot of a record that is not admitted -/

/-- No admission reaches the slot: it is not in the admission queue, or free. -/
def State.Aside (i : Idx) (s : State) : Prop := i ∉ s.arbiter.queue ∨ s.rec? i = none

/-- What a decision leaves of a slot that it does not admit, of the engines, and of the queues as far as it stands in
none. -/
structure State.Past (i : Idx) (s t : State) : Prop where
  slot : t.rec? i = s.rec? i
  cargo : t.ties.cargo = s.ties.cargo
  queue : i ∉ s.link.queue → i ∉ t.link.queue
  waits : i ∉ s.arbiter.queue → i ∉ t.arbiter.queue
  fed : i ∉ s.arbiter.queue → i ∉ s.arbiter.feedList → i ∉ t.arbiter.feedList

theorem State.Past.refl (i : Idx) (s : State) : s.Past i s := ⟨rfl, rfl, id, id, fun _ h => h⟩

theorem State.Past.trans {u : State} (h : s.Past i t) (k : t.Past i u) : s.Past i u :=
  ⟨k.slot.trans h.slot, k.cargo.trans h.cargo, fun hq => k.queue (h.queue hq), fun hw => k.waits (h.waits hw),
    fun hw hf => k.fed (h.waits hw) (h.fed hw hf)⟩

theorem past_admitMember (h : s.Aside i) (hj : j ∈ s.arbiter.queue) :
    s.Past i (admitMember j s) ∧ (admitMember j s).Aside i := by
  by_cases hji : j = i
  · subst hji
    have hr : s.rec? j = none := h.resolve_left fun hn => hn hj
    obtain ⟨-, he⟩ | ⟨r, hr', -⟩ := admitMember_cases j s
    · rw [he]; exact ⟨.refl j s, h⟩
    · rw [hr] at hr'; cases hr'
  · have hij : i ≠ j := fun he => hji he.symm
    have hrec := rec?_admitMember_other hij s
    obtain ⟨-, he⟩ | ⟨q, hq, ht⟩ := ties_admitMember j s
    · rw [he]; exact ⟨.refl i s, h⟩
    · have hw : (admitMember j s).arbiter = _ := congrArg Ties.arbiter ht
      have hl : (admitMember j s).link.queue = q := congrArg Ties.queue ht
      refine ⟨⟨hrec, (congrArg Ties.cargo ht :), fun hn => ?_, fun hn => ?_, fun _ hf => ?_⟩, ?_⟩
      · rw [hl]
        rcases hq with rfl | rfl
        · exact hn
        · simp [hn, hij]
      · rw [hw]
        exact fun hm => hn (List.mem_filter.mp hm).1
      · rw [hw]
        simp [hf, hij]
      · refine h.imp (fun hn => ?_) fun hn => hrec.trans hn
        rw [hw]
        exact fun hm => hn (List.mem_filter.mp hm).1

theorem past_decideAdmission (h : s.Aside i) : s.Past i (decideAdmission s) :=
  (decide_keeps (Q := fun t => s.Past i t ∧ t.Aside i) (fun _ _ hj ⟨h1, h2⟩ =>
    ⟨h1.trans (past_admitMember h2 hj).1, (past_admitMember h2 hj).2⟩) ⟨.refl i s, h⟩).1

/-- A cell that no waiting record is bound to stays as it is. -/
theorem cells_decideAdmission (h : ∀ j ∈ s.arbiter.queue, s.portOf j ≠ some p) :
    (decideAdmission s).cells[p] = s.cells[p] := by
  refine (decide_keeps (Q := fun t => t.cells[p] = s.cells[p] ∧ ∀ j ∈ t.arbiter.queue, t.portOf j ≠ some p)
    (fun t j hj ⟨h1, h2⟩ => ⟨(cells_admitMember (h2 j hj)).trans h1, fun k hk => ?_⟩) ⟨rfl, h⟩).1
  have hport : (admitMember j t).portOf k = t.portOf k := by
    rw [portOf_eq, portOf_eq, roster_of_fixed (fixed_of_frame (frame_admitMember j t))]
  rw [hport]
  refine h2 k ?_
  obtain ⟨-, he⟩ | ⟨q, -, ht⟩ := ties_admitMember j t
  · rw [← he]; exact hk
  · have hw : (admitMember j t).arbiter = _ := congrArg Ties.arbiter ht
    rw [hw] at hk
    exact (List.mem_filter.mp hk).1

end Decision

/-! ### The pick -/

section Pick

variable {s t : State} {i j : Idx}

/-- A record but for its pending exchange. -/
def Record.unpended (r : Record) : Record := { r with pend := none }

/-- What an engine holds of a record's pending exchange as it takes it (R122). -/
def engagementOf (s : State) (i : Idx) (r : Record) (x : Exchange) : Engagement where
  idx := i
  port := r.port
  ex := x
  attempts := 1
  phase := .sending
  reloadN := s.cfg.reloadN
  windowMs := windowFor s.cfg x.kind
  retryLimit := s.cfg.retryLimit
  tag := r.identity.setWidth 8
  baseline := 0
  threshold := 0
  sent := []
  rx := []
  midChar := false
  ranOut := false
  outcome := none

theorem engage_cases (e : Engine) (i : Idx) (s : State) : engage e i s = s ∨
    ∃ r x, s.rec? i = some r ∧ r.pend = some x ∧ engage e i s =
      takeBaseline e (setEngine e (some (engagementOf s i r x)) (restartCall r.port (dropPending i s))) := by
  unfold engage
  cases hr : s.rec? i with
  | none => exact .inl rfl
  | some r =>
    dsimp only
    cases hx : r.pend with
    | none => exact .inl rfl
    | some x =>
      refine .inr ⟨r, x, rfl, hx, ?_⟩
      have hcfg : (restartCall r.port (dropPending i s)).cfg = s.cfg :=
        congrArg Fixed.cfg (fixed_of_frame ((frame_restartCall ..).trans (frame_dropPending i s)))
      unfold engagementOf
      rw [hcfg]

theorem ties_engaged (e : Engine) (g : Engagement) (s : State) : (setEngine e (some g) s).ties =
    { s.ties with cargo := fun f => if f = e then some g.cargo else s.ties.cargo f } := by
  have h : (fun f => ((setEngine e (some g) s).engine f).map Engagement.cargo) =
      fun f => if f = e then some g.cargo else (s.engine f).map Engagement.cargo := funext fun f => by
    by_cases hf : f = e
    · subst hf; rw [setEngine_engine, if_pos rfl]; rfl
    · rw [setEngine_other hf, if_neg hf]
  unfold State.ties
  rw [h]
  cases e <;> rfl

/-- The pick takes a pending exchange into a free engine, and touches no other slot, engine or level. -/
theorem pickFor_parts (e : Engine) (s : State) : pickFor e s = s ∨
    ∃ i r x, s.ties.cargo e = none ∧ s.rec? i = some r ∧ r.pend = some x ∧
      (∀ j, (pickFor e s).rec? j = if j = i then some r.unpended else s.rec? j) ∧
      (∀ p : Port, ((pickFor e s).cells[p]).clearCall = (s.cells[p]).clearCall) ∧
      (pickFor e s).ties = { s.ties with
        cargo := fun f => if f = e then some (i, r.port, x) else s.ties.cargo f
        queue := s.link.queue.filter (· ≠ i) } := by
  obtain h | ⟨i, he, -, h⟩ := pickFor_cases e s
  · exact .inl h
  · obtain hs | ⟨r, x, hr, hx, hs⟩ := engage_cases e i s
    · exact .inl (h.trans hs)
    · refine .inr ⟨i, r, x, by simp [State.ties, he], hr, hx, fun j => ?_, fun p => ?_, ?_⟩
      · have hslots : (pickFor e s).slots = (dropPending i s).slots := by
          rw [h, hs, slots_takeBaseline, setEngine_slots]
          cases r.port <;> rfl
        rw [rec?_congr hslots]
        refine (rec?_updRec i j (fun r => { r with pend := none }) s).trans ?_
        rw [hr]
        rfl
      · have hcells : (pickFor e s).cells = (restartCall r.port (dropPending i s)).cells := by
          rw [h, hs]
          unfold takeBaseline
          split
          · exact (setEngine_cells ..).trans (setEngine_cells ..)
          · exact setEngine_cells ..
        have hdrop : (dropPending i s).cells = s.cells := by
          unfold dropPending updRec
          dsimp only
          split <;> rfl
        have hget : (pickFor e s).cells[p] = (restartCall r.port (dropPending i s)).cells[p] := by simp only [hcells]
        have hbase : (dropPending i s).cells[p] = s.cells[p] := by simp only [hdrop]
        rw [hget, ← hbase]
        cases r.port with
        | none => rfl
        | some q =>
          show Cell.clearCall (updCell q Cell.clearCall (dropPending i s)).cells[p] = _
          rw [cells_updCell]
          split
          · next hq => subst hq; rfl
          · rfl
      · rw [h, hs, ties_takeBaseline, ties_engaged, ties_restartCall, ties_dropPending]
        rfl

/-- The record keeps all but its pending exchange, and what it holds it keeps holding. -/
structure State.Steady (i : Idx) (s t : State) : Prop where
  slot : (t.rec? i).map Record.unpended = (s.rec? i).map Record.unpended
  holds : ∀ k n, s.Holds i k n → t.Holds i k n

theorem State.Steady.trans {u : State} (h : s.Steady i t) (k : t.Steady i u) : s.Steady i u :=
  ⟨k.slot.trans h.slot, fun a n ha => k.holds a n (h.holds a n ha)⟩

theorem State.Past.steady (h : s.Past i t) : s.Steady i t :=
  ⟨by rw [h.slot], fun k n hk => by
    rw [holds_iff] at hk ⊢
    rwa [h.slot, h.cargo]⟩

theorem steady_pickFor (e : Engine) (i : Idx) (s : State) : s.Steady i (pickFor e s) := by
  obtain h | ⟨j, r, x, he, hr, hx, hrec, -, ht⟩ := pickFor_parts e s
  · rw [h]; exact (State.Past.refl i s).steady
  · have hc : (pickFor e s).ties.cargo = _ := congrArg Ties.cargo ht
    refine ⟨?_, fun k n hk => ?_⟩
    · rw [hrec]
      split
      · next hi => subst hi; rw [hr]; rfl
      · rfl
    · rw [holds_iff] at hk ⊢
      rw [hc, hrec]
      rcases hk with ⟨y, hy, hyk⟩ | ⟨f, p, y, hf, hyk⟩
      · by_cases hi : i = j
        · subst hi
          rw [hr, Option.bind_some, hx] at hy
          cases hy
          exact .inr ⟨e, r.port, x, if_pos rfl, hyk⟩
        · rw [if_neg hi]
          exact .inl ⟨y, hy, hyk⟩
      · have hfe : f ≠ e := fun hfe => by rw [hfe, he] at hf; cases hf
        exact .inr ⟨f, p, y, (if_neg hfe).trans hf, hyk⟩

theorem steady_pickBoth (i : Idx) (s : State) : s.Steady i (pickBoth s) :=
  (steady_pickFor .a i s).trans (steady_pickFor .b i _)

/-- A slot with nothing pending, across a decision and a pick that do not reach it. -/
structure State.Untouched (i : Idx) (s t : State) : Prop where
  slot : t.rec? i = s.rec? i
  carries : ∀ e, s.carries i e = false → t.carries i e = false
  queue : i ∉ s.link.queue → i ∉ t.link.queue
  waits : i ∉ s.arbiter.queue → i ∉ t.arbiter.queue
  fed : i ∉ s.arbiter.queue → i ∉ s.arbiter.feedList → i ∉ t.arbiter.feedList

theorem State.Untouched.trans {u : State} (h : s.Untouched i t) (k : t.Untouched i u) : s.Untouched i u :=
  ⟨k.slot.trans h.slot, fun e he => k.carries e (h.carries e he), fun hq => k.queue (h.queue hq),
    fun hw => k.waits (h.waits hw), fun hw hf => k.fed (h.waits hw) (h.fed hw hf)⟩

theorem State.Past.untouched (h : s.Past i t) : s.Untouched i t :=
  ⟨h.slot, fun e he => by rw [carries_eq] at he ⊢; rwa [h.cargo], h.queue, h.waits, h.fed⟩

theorem untouched_pickFor (h : (s.rec? i).bind (·.pend) = none) (e : Engine) : s.Untouched i (pickFor e s) := by
  obtain he | ⟨j, r, x, he, hr, hx, hrec, -, ht⟩ := pickFor_parts e s
  · rw [he]; exact (State.Past.refl i s).untouched
  · have hij : i ≠ j := fun hij => by rw [hij, hr, Option.bind_some, hx] at h; cases h
    have hc : (pickFor e s).ties.cargo = _ := congrArg Ties.cargo ht
    have hq : (pickFor e s).link.queue = _ := congrArg Ties.queue ht
    have hw : (pickFor e s).arbiter = _ := congrArg Ties.arbiter ht
    refine ⟨by rw [hrec, if_neg hij], fun f hf => ?_, fun hn hm => ?_, fun hn => ?_, fun _ hn => ?_⟩
    · rw [carries_eq] at hf ⊢
      rw [hc]
      dsimp only
      split
      · simp [hij.symm]
      · exact hf
    · rw [hq] at hm
      exact hn (List.mem_filter.mp hm).1
    · rw [hw]; exact hn
    · rw [hw]; exact hn

theorem untouched_pickBoth (h : (s.rec? i).bind (·.pend) = none) : s.Untouched i (pickBoth s) := by
  have ha := untouched_pickFor h .a
  exact ha.trans (untouched_pickFor (by rw [ha.slot]; exact h) .b)

theorem cells_pickBoth (p : Port) (s : State) : ((pickBoth s).cells[p]).clearCall = (s.cells[p]).clearCall := by
  have hp : ∀ (e : Engine) (s : State), ((pickFor e s).cells[p]).clearCall = (s.cells[p]).clearCall := fun e s => by
    obtain h | ⟨j, r, x, -, -, -, -, hc, -⟩ := pickFor_parts e s
    · rw [h]
    · exact hc p
  exact (hp .b _).trans (hp .a s)

end Pick

/-! ### The end of an event -/

section Finish

variable {t : State} {i : Idx} {p : Port}

/-- The decision that an event called for, if any. -/
def decided (t : State) : State := if t.agenda.decision then decideAdmission t else t

/-- An event's end is its decision where one is called for, then its pick where one is. -/
theorem finishEvent_cases (b t : State) :
    finishEvent b t = clearNotes (decided t) ∨ finishEvent b t = clearNotes (pickBoth (decided t)) := by
  have he : finishEvent b t = clearNotes
      (if (decided t).agenda.pick || releasesPick b (decided t) then pickBoth (decided t) else decided t) := rfl
  rw [he]
  split
  · exact .inr rfl
  · exact .inl rfl

theorem past_decided (h : t.agenda.decision = true → t.Aside i) : t.Past i (decided t) := by
  unfold decided
  split
  · next hd => exact past_decideAdmission (h hd)
  · exact .refl i t

/-- A record that no decision admits keeps its state and its exchanges across the end of an event. -/
theorem steady_finishEvent (h : t.agenda.decision = true → t.Aside i) (b : State) : t.Steady i (finishEvent b t) := by
  have hd := (past_decided h).steady
  obtain he | he := finishEvent_cases b t
  · rw [he]; exact ⟨hd.slot, hd.holds⟩
  · have hp := hd.trans (steady_pickBoth i (decided t))
    rw [he]; exact ⟨hp.slot, hp.holds⟩

theorem untouched_finishEvent (h : t.agenda.decision = true → t.Aside i) (hp : (t.rec? i).bind (·.pend) = none)
    (b : State) : t.Untouched i (finishEvent b t) := by
  have hd := (past_decided h).untouched
  obtain he | he := finishEvent_cases b t
  · rw [he]; exact ⟨hd.slot, hd.carries, hd.queue, hd.waits, hd.fed⟩
  · have hk := hd.trans (untouched_pickBoth (by rw [hd.slot]; exact hp))
    rw [he]; exact ⟨hk.slot, hk.carries, hk.queue, hk.waits, hk.fed⟩

/-- A cell that no waiting record is bound to keeps its level and its counts but for the call detector. -/
theorem cells_finishEvent (h : t.agenda.decision = true → ∀ j ∈ t.arbiter.queue, t.portOf j ≠ some p) (b : State) :
    ((finishEvent b t).cells[p]).clearCall = (t.cells[p]).clearCall := by
  have hd : (decided t).cells[p] = t.cells[p] := by
    unfold decided
    split
    · next hd => exact cells_decideAdmission (h hd)
    · rfl
  obtain he | he := finishEvent_cases b t
  · rw [he]; exact congrArg Cell.clearCall hd
  · rw [he]; exact (cells_pickBoth p (decided t)).trans (congrArg Cell.clearCall hd)

end Finish

end Sys2Proof.Machine
end

section
/-! Work within one record: what it leaves of the rest of the part, and how an accepted request ends. -/

namespace Sys2Proof.Machine

open Sys2Proof

/-- Work within the slot of one record and on the ports of `P`. -/
structure State.Within (i : Idx) (P : Set Port) (s t : State) : Prop where
  terms : ∀ j, j ≠ i → t.terms j = s.terms j
  marks : ∀ p, p ∉ P → t.portMarks p = s.portMarks p
  outer : t.outer = s.outer
  codes : t.meter.lastBus = s.meter.lastBus ∧ t.meter.lastVolt = s.meter.lastVolt
  lines : ∀ e, s.carries i e = false → t.lineOf e = s.lineOf e
  carries : ∀ e, s.carries i e = false → t.carries i e = false

namespace State.Within

variable {i : Idx} {P : Set Port} {s t u : State}

theorem refl (i : Idx) (P : Set Port) (s : State) : s.Within i P s :=
  ⟨fun _ _ => rfl, fun _ _ => rfl, rfl, ⟨rfl, rfl⟩, fun _ _ => rfl, fun _ h => h⟩

theorem trans (h : s.Within i P t) (k : t.Within i P u) : s.Within i P u :=
  ⟨fun j hj => (k.terms j hj).trans (h.terms j hj), fun p hp => (k.marks p hp).trans (h.marks p hp),
    k.outer.trans h.outer, ⟨k.codes.1.trans h.codes.1, k.codes.2.trans h.codes.2⟩,
    fun e he => (k.lines e (h.carries e he)).trans (h.lines e he), fun e he => k.carries e (h.carries e he)⟩

theorem of_frame (hf : t.frame = s.frame) (hc : t.ties.cargo = s.ties.cargo) : s.Within i P t :=
  ⟨fun j _ => congrFun (congrArg Frame.terms hf) j, fun p _ => congrFun (congrArg Frame.marks hf) p,
    congrArg Frame.outer hf, ⟨congrArg (fun f => f.meter.lastBus) hf, congrArg (fun f => f.meter.lastVolt) hf⟩,
    fun e _ => congrFun (congrArg Frame.lines hf) e, fun e he => by rw [carries_eq] at he ⊢; rwa [hc]⟩

theorem setRec (r : Option Record) (s : State) : s.Within i P (Machine.setRec i r s) :=
  ⟨fun j hj => by unfold State.terms; rw [rec?_setRec, if_neg hj], fun _ _ => rfl, rfl, ⟨rfl, rfl⟩, fun _ _ => rfl,
    fun _ h => h⟩

theorem updRec (f : Record → Record) (s : State) : s.Within i P (Machine.updRec i f s) := by
  unfold Machine.updRec
  split
  · exact setRec _ s
  · exact refl i P s

theorem updCell {p : Port} (hp : p ∈ P) (f : Cell → Cell) (s : State) : s.Within i P (Machine.updCell p f s) :=
  ⟨fun _ _ => rfl, fun q hq => by
    have hqp : q ≠ p := fun he => hq (he ▸ hp)
    unfold State.portMarks
    rw [cells_updCell, if_neg hqp], rfl, ⟨rfl, rfl⟩, fun _ _ => rfl, fun _ h => h⟩

theorem withPool (n : Nat) (s : State) : s.Within i P { s with meter := { s.meter with pool := n } } :=
  ⟨fun _ _ => rfl, fun _ _ => rfl, rfl, ⟨rfl, rfl⟩, fun _ _ => rfl, fun _ h => h⟩

theorem withDev (d : DevFlags) (s : State) : s.Within i P { s with dev := d } :=
  ⟨fun _ _ => rfl, fun _ _ => rfl, rfl, ⟨rfl, rfl⟩, fun _ _ => rfl, fun _ h => h⟩

theorem restKept (h : s.Within i P t) (hP : ∀ p ∈ P, s.portOf i = some p ∨ t.portOf i = some p) : s.RestKept i t := by
  have ho := h.outer
  simp only [State.outer, Prod.mk.injEq] at ho
  obtain ⟨h1, h2, h3, h4, -, h6, h7⟩ := ho
  refine ⟨(othersKept_iff i s t).mpr h.terms, fun p hs ht => ?_, h1, h2, h4, h3, h.codes.1, h.codes.2, h.lines, h6, h7⟩
  have hm := h.marks p fun hp => (hP p hp).elim hs ht
  simpa [State.portMarks] using hm

theorem host (h : s.Within i P t) : t.host = s.host := by
  have ho := h.outer
  simp only [State.outer, Prod.mk.injEq] at ho
  exact ho.2.2.2.2.1

/-! ### The operations on one record -/

theorem callDecision (s : State) : s.Within i P (Machine.callDecision s) := of_frame rfl rfl

theorem ask (x : Exchange) (s : State) : s.Within i P (Machine.ask i x s) := of_frame (frame_ask ..) (cargo_ask ..)

theorem enter {st : RState} (hst : st ≠ .faulted) (s : State) : s.Within i P (Machine.enter st i s) :=
  of_frame (frame_enter ..) (congrArg Ties.cargo (ties_enter hst i s))

theorem setCountdown (f : Countdown → Countdown) (s : State) : s.Within i P (Machine.setCountdown i f s) :=
  of_frame (frame_setCountdown ..) (congrArg Ties.cargo (ties_setCountdown i f s))

theorem leaveService (s : State) : s.Within i P (Machine.leaveService i s) := by
  refine of_frame (frame_leaveService ..) ?_
  unfold Machine.leaveService
  split
  · rw [ties_releaseFeed]
  · rfl
  · rfl

theorem dropPending (s : State) : s.Within i P (Machine.dropPending i s) :=
  of_frame (frame_dropPending ..) (by rw [ties_dropPending])

theorem joinTail (s : State) : s.Within i P (Machine.joinTail i s) := of_frame rfl rfl

theorem enterByMode (s : State) : s.Within i P (Machine.enterByMode i s) := by
  unfold Machine.enterByMode
  split
  · exact refl i P s
  · exact (enter (by decide) s).trans (ask ..)
  · exact (enter (by decide) s).trans (ask ..)
  · exact enter (by decide) s

theorem leaveLapsed (s : State) : s.Within i P (Machine.leaveLapsed i s) := by
  unfold Machine.leaveLapsed
  split
  · exact refl i P s
  · split
    · split
      · exact (enter (by decide) s).trans (joinTail _)
      · split
        · exact (enter (by decide) s).trans (joinTail _)
        · exact enter (by decide) s
      · exact refl i P s
      · exact refl i P s
    · exact refl i P s

theorem grantTo (n : Nat) (s : State) : s.Within i P (Machine.grantTo i n s) := by
  unfold Machine.grantTo
  split
  · exact refl i P s
  · exact ((withPool _ s).trans (updRec _ _)).trans (leaveLapsed _)

theorem topUp (s : State) : s.Within i P (Machine.topUp i s) := by
  unfold Machine.topUp
  split
  · exact refl i P s
  · dsimp only
    split
    · exact refl i P s
    · split
      · exact withDev _ s
      · exact grantTo _ s

theorem lapse (s : State) : s.Within i P (Machine.lapse i s) :=
  (((leaveService s).trans (enter (by decide) _)).trans (updRec (Record.raise .lapsed) _)).trans (topUp _)

/-- An abort leaves the other engine's line, and carries nothing new (R115, R125). -/
theorem abortInFlight (o : ExOutcome) (s : State) : s.Within i P (Machine.abortInFlight o i s) := by
  unfold Machine.abortInFlight
  split
  · exact refl i P s
  · next e he =>
    have hc : s.carries i e = true := List.find?_some he
    unfold abortEngine
    split
    · exact refl i P s
    · next g hg =>
      have hi : g.idx = i := by simpa [State.carries, hg] using hc
      have hcut : s.Within i P (cutLine e s) := by
        have hsend : s.Within i P (sendPart e s) :=
          of_frame (frame_sendPart e s) (congrArg Ties.cargo (ties_sendPart e s))
        have hcs : (sendPart e s).carries i e = true := by
          rw [carries_eq] at hc ⊢
          rwa [ties_sendPart]
        have hline : ∀ l, (sendPart e s).Within i P (setLine e l (sendPart e s)) := fun l =>
          ⟨fun j _ => by cases e <;> rfl, fun p _ => by cases e <;> rfl, by cases e <;> rfl,
            by cases e <;> exact ⟨rfl, rfl⟩, fun f hf => setLine_other (fun hfe => by rw [hfe, hcs] at hf; cases hf) l _,
            fun f hf => by rw [carries_eq] at hf ⊢; rwa [ties_setLine]⟩
        unfold cutLine
        dsimp only
        split
        · split
          · exact hsend.trans (hline _)
          · exact hsend
        · exact hsend
      have hfree : (cutLine e s).Within i P (freeEngine e (cutLine e s)) := by
        have hf := frame_freeEngine e (cutLine e s)
        refine ⟨fun j _ => congrFun (congrArg Frame.terms hf) j, fun p _ => congrFun (congrArg Frame.marks hf) p,
          congrArg Frame.outer hf, ⟨congrArg (fun f => f.meter.lastBus) hf, congrArg (fun f => f.meter.lastVolt) hf⟩,
          fun f _ => congrFun (congrArg Frame.lines hf) f, fun f hff => ?_⟩
        by_cases hfe : f = e
        · subst hfe; simp [State.carries, engine_freeEngine]
        · unfold State.carries at hff ⊢
          rwa [engine_freeEngine, if_neg hfe]
      refine (hcut.trans hfree).trans ?_
      rw [hi]
      unfold noteSent
      split
      · exact updRec _ _
      · exact refl i P _

theorem withdraw (s : State) : s.Within i P (Machine.withdraw i s) :=
  ((abortInFlight .aborted s).trans (dropPending _)).trans (leaveService _)

theorem amendCeilingWork (v : Nat) (s : State) : s.Within i P (Machine.amendCeilingWork v i s) := by
  unfold Machine.amendCeilingWork
  dsimp only
  split
  · exact (updRec _ s).trans (callDecision _)
  · exact updRec _ s

theorem amendCapWork (c : Option Nat) (s : State) : s.Within i P (Machine.amendCapWork c i s) := by
  unfold Machine.amendCapWork
  split
  · exact refl i P s
  · split
    · exact setRec _ s
    · split
      · dsimp only
        split
        · exact ((setRec _ s).trans (withPool _ _)).trans (lapse _)
        · exact (setRec _ s).trans (withPool _ _)
      · exact setRec _ s

theorem releaseFeed (s : State) : s.Within i P (Machine.releaseFeed i s) :=
  of_frame (frame_releaseFeed ..) (by rw [ties_releaseFeed])

theorem leaveQueue (s : State) : s.Within i P (Machine.leaveQueue i s) := of_frame rfl rfl

theorem criticalClassChange (s : State) : s.Within i P (Machine.criticalClassChange i s) := by
  unfold Machine.criticalClassChange
  split
  · exact ((releaseFeed s).trans (enter (by decide) _)).trans (ask ..)
  · exact ((leaveQueue s).trans (enter (by decide) _)).trans (ask ..)
  · exact ((updRec (Record.tested .abandoned) s).trans (enter (st := .carrying) (by decide) _)).trans (ask ..)
  · exact ask ..
  · exact ask ..
  · exact refl i P s

theorem amendClassWork (c : Cls) (s : State) : s.Within i P (Machine.amendClassWork c i s) := by
  unfold Machine.amendClassWork
  split
  · exact refl i P s
  · next r _ =>
    dsimp only
    split
    · exact refl i P s
    · have ht : s.Within i P (if r.st = .waiting then
          Machine.joinTail i (Machine.leaveQueue i (Machine.setRec i (some { r with cls := c }) s))
          else Machine.setRec i (some { r with cls := c }) s) := by
        split
        · exact ((setRec _ s).trans (leaveQueue _)).trans (joinTail _)
        · exact setRec _ s
      split
      · exact ht.trans (criticalClassChange _)
      · exact ht

theorem unbindWork (hP : ∀ p, s.portOf i = some p → p ∈ P) : s.Within i P (Machine.unbindWork i s) := by
  unfold Machine.unbindWork
  split
  · exact refl i P s
  · next p hp =>
    have h := (((withdraw (P := P) (i := i) s).trans (updRec (fun r => { r with port := none }) _)).trans
      (enter (st := .idle) (by decide) _)).trans (setCountdown Countdown.stop _)
    exact h.trans (updCell (hP p hp) Cell.abandon _)

theorem bindWork (hP : ∀ p, s.portOf i = some p → p ∈ P) (p : Port) : s.Within i P (Machine.bindWork p i s) := by
  unfold Machine.bindWork
  split
  · exact refl i P s
  · exact ((unbindWork hP).trans (updRec (fun r => { r with port := some p }) _)).trans (enterByMode _)

theorem clearFaultWork (hP : ∀ p, s.portOf i = some p → p ∈ P) : s.Within i P (Machine.clearFaultWork i s) := by
  unfold Machine.clearFaultWork
  split
  · exact refl i P s
  · next p hp => exact (updCell (hP p hp) _ s).trans (enterByMode _)

end State.Within

/-! ### An accepted request -/

/-- The part behind an accepted request whose owner left it as `t`: the event ended, and the reply stored. -/
def State.served (s b t : State) (r : Reply) : State :=
  { finishEvent b t with host := ⟨[], some r, false, false, s.statusBits⟩ }

theorem exec_accepted {c : Instr} {s t : State} {fr : Framing} {n : Nat} {owner : State → Answer} {r : Reply}
    (hc : requestOf c = some (fr, n, owner)) (h : s.Quiet) (hf : fr.fits n = true)
    (ho : owner s.taken = ⟨t, some fun _ => r⟩) (hh : t.host = s.taken.host) :
    ∃ b, exec c s = .next (s.served b t r) := by
  refine ⟨takeRequest (shiftOut s.statusBits s), ?_⟩
  have hq : owner (clearNotes (takeRequest (shiftOut s.statusBits s))) = ⟨t, some fun _ => r⟩ := by
    rw [quiet_taken h]; exact ho
  have hho : (finishEvent (takeRequest (shiftOut s.statusBits s)) t).host = s.taken.host :=
    (congrArg Fixed.host (fixed_finishEvent _ t)).trans hh
  rw [exec_request hc, request_fits h hf]
  unfold runOwner State.served
  rw [hq]
  refine congrArg Host.Outcome.next ?_
  dsimp only
  generalize finishEvent (takeRequest (shiftOut s.statusBits s)) t = u at hho
  unfold completeRequest
  rw [hho]
  rfl

end Sys2Proof.Machine
end

section
/-! The move of a record by the mode (R13, R22, R23), and the requests that end in it: clear-fault and ENROLL. -/

namespace Sys2Proof.Machine

open Sys2Proof

section Entry

variable {s t : State} {i : Idx} {r : Record} {p : Port}

/-- A state entry drives the record's cell to the level of the state (R6). -/
theorem drive_enterState (hr : s.rec? i = some r) (hp : r.port = some p) (b : Bool) {st : RState} (hne : r.st ≠ st) :
    (enterState b st i s).cells[p].drive = driveFor s.supply.mode st := by
  rw [enterState_new hr hne, hp]
  exact (cells_orderLevel p p _ _ _).1.trans (if_pos rfl)

theorem ties_enterByMode (i : Idx) (s : State) : (enterByMode i s).ties.cargo = s.ties.cargo ∧
    (enterByMode i s).arbiter = s.arbiter ∧ (enterByMode i s).agenda.decision = s.agenda.decision := by
  have hw := ties_enter (st := .waking) (by decide) i s
  have hs := ties_enter (st := .silent) (by decide) i s
  have hask : ∀ x, (ask i x (enter .waking i s)).ties.cargo = s.ties.cargo ∧
      (ask i x (enter .waking i s)).arbiter = s.arbiter ∧
      (ask i x (enter .waking i s)).agenda.decision = s.agenda.decision := fun x =>
    ⟨(cargo_ask i x _).trans (congrArg Ties.cargo hw), (arbiter_ask i x _).trans (congrArg Ties.arbiter hw),
      (decision_ask i x _).trans (congrArg Ties.decision hw)⟩
  unfold enterByMode
  split
  · exact ⟨rfl, rfl, rfl⟩
  · exact hask _
  · exact hask _
  · exact ⟨congrArg Ties.cargo hs, congrArg Ties.arbiter hs, congrArg Ties.decision hs⟩

/-- In OUTAGE and CRITICAL the record becomes WAKING with a WAKE, its cell in SENSE (R13). -/
theorem enterByMode_woken (hr : s.rec? i = some r) (hne : r.st ≠ .waking)
    (hm : s.supply.mode = .outage ∨ s.supply.mode = .critical) :
    (∃ y, (enterByMode i s).rec? i = some { enteredRec false .waking s r with pend := y }) ∧
      (enterByMode i s).Holds i .wake 0 ∧
      ∀ p, r.port = some p → (enterByMode i s).cells[p].drive = .sense := by
  have he : enterByMode i s = ask i ⟨.wake, 0, .policy⟩ (enter .waking i s) := by
    rcases hm with hm | hm <;> rw [enterByMode, hm]
  have hrec := rec?_enterState hr false hne (by decide)
  rw [he]
  refine ⟨rec?_ask hrec _, holds_ask (x := ⟨.wake, 0, .policy⟩) hrec (by decide), fun p hp => ?_⟩
  simp only [cells_ask]
  exact drive_enterState hr hp false hne

/-- In DEPLETED the record becomes SILENT with its countdown stopped, its cell OFF (R13). -/
theorem enterByMode_silent (hr : s.rec? i = some r) (hne : r.st ≠ .silent) (hm : s.supply.mode = .depleted) :
    (enterByMode i s).rec? i = some (enteredRec false .silent s r) ∧
      (enteredRec false .silent s r).cd.running = false ∧
      ∀ p, r.port = some p → (enterByMode i s).cells[p].drive = .off := by
  have he : enterByMode i s = enter .silent i s := by rw [enterByMode, hm]
  rw [he]
  refine ⟨rec?_enterState hr false hne (by decide), ?_, fun p hp => ?_⟩
  · simp [enteredRec, Countdown.forEntry, hm, Countdown.load, Countdown.stop]
  · rw [enter, drive_enterState hr hp false hne, hm]
    rfl

theorem State.Steady.record (h : s.Steady i t) (hr : s.rec? i = some r) :
    ∃ q, t.rec? i = some q ∧ q.unpended = r.unpended := by
  have hs := h.slot
  rw [hr] at hs
  exact Option.map_eq_some_iff.mp hs

/-- A record's terms across the end of an event. -/
theorem terms_finishEvent (hr : t.rec? i = some r) (b : State) :
    ∃ q, (finishEvent b t).rec? i = some q ∧ q.terms = r.terms :=
  rec?_of_terms (congrFun (congrArg Frame.terms (frame_finishEvent b t)) i) hr

/-- What an accepted request keeps, from what its work keeps. -/
theorem restKept_served {P : Set Port} (h : s.taken.Within i P t)
    (hP : ∀ p ∈ P, s.portOf i = some p ∨ t.portOf i = some p) (b : State) (x : Reply) : s.RestKept i (s.served b t x) := by
  have hk : s.RestKept i (finishEvent b t) := restKept_of_frame (frame_finishEvent b t) (h.restKept hP)
  exact hk

theorem meter_finishEvent (b t : State) : (finishEvent b t).meter = t.meter :=
  congrArg Frame.meter (frame_finishEvent b t)

theorem dev_finishEvent (b t : State) : (finishEvent b t).dev = t.dev := congrArg Frame.dev (frame_finishEvent b t)

end Entry

/-! ### AMEND at its owner -/

/-- An AMEND that passes its checks does its work, and is answered DONE or CLAMPED. -/
theorem amendOwner_accepts {s : State} {index : Byte} {i : Idx} {l : List AmendChange} (hi : index.toNat = i.val)
    (hfit : changesFit l = true) {r : Record} (hr : s.rec? i = some r) (href : amendRefusal l i s = none) :
    amendOwner index l s.taken = ⟨amendWork l i s.taken, some fun _ => ⟨doneOr (ceilingClamped l), []⟩⟩ := by
  have hr' : s.taken.rec? i = some r := hr
  have href' : amendRefusal l i s.taken = none := href
  simp only [amendOwner, idxOf_some hi, hfit, if_true, hr', href']

/-- Settles O25: the fault count goes to 0 and the record makes the entry of the mode; nothing calls for a decision. -/
theorem clearFault : Obligations.ClearFault := by
  unfold Obligations.ClearFault
  intro fr index i r p s h hi hr hf hst hp
  have hst' : s.isIn .faulted i = true := by simp [State.isIn, State.stOf, hr, hst]
  have href : amendRefusal [.clearFault] i s = none := by
    simp [amendRefusal, portIn, faultIn, hst']
  have hport : s.taken.portOf i = some p := by
    show s.portOf i = some p
    simp [State.portOf, hr, hp]
  have hw := State.Within.clearFaultWork (P := {p}) (s := s.taken) (i := i) fun q hq =>
    Option.some.inj (hq.symm.trans hport)
  obtain ⟨b, hb⟩ := exec_accepted (c := .clearFault fr index []) (t := clearFaultWork i s.taken) rfl h hf
    (amendOwner_accepts hi rfl hr href) hw.host
  have hwork : clearFaultWork i s.taken = enterByMode i (updCell p (fun c => { c with faultCount := 0 }) s.taken) := by
    rw [clearFaultWork, hport]
  have hframe : (clearFaultWork i s.taken).frame =
      (updCell p (fun c => { c with faultCount := 0 }) s.taken).frame := by rw [hwork, frame_enterByMode]
  have hdec : (clearFaultWork i s.taken).agenda.decision = false := by
    rw [hwork, (ties_enterByMode i _).2.2]
    show s.agenda.decision = false
    rw [h.2.1]
  have hterms : (clearFaultWork i s.taken).terms i = s.terms i := congrFun (congrArg Frame.terms hframe) i
  obtain ⟨r', hr', hrt⟩ := rec?_of_terms hterms hr
  obtain ⟨q, hq, hqt⟩ := terms_finishEvent hr' b
  have hqr : q.terms = r.terms := hqt.trans hrt
  have hsteady := steady_finishEvent (i := i) (t := clearFaultWork i s.taken) (fun hd => by rw [hdec] at hd; cases hd) b
  have hcell := cells_finishEvent (p := p) (t := clearFaultWork i s.taken) (fun hd => by rw [hdec] at hd; cases hd) b
  have hmarks : (finishEvent b (clearFaultWork i s.taken)).portMarks p =
      (updCell p (fun c => { c with faultCount := 0 }) s.taken).portMarks p :=
    congrFun (congrArg Frame.marks ((frame_finishEvent b _).trans hframe)) p
  have hrec : (updCell p (fun c => { c with faultCount := 0 }) s.taken).rec? i = some r := hr
  refine ⟨_, q, hb, hq, ?_, (congrArg Record.flags hqr :), (congrArg Record.allowance hqr :), rfl,
    restKept_served hw (fun p hp => by cases hp; exact .inl hport) b _, ?_, fun hm => ?_, fun hm => ?_⟩
  · have hz : (updCell p (fun c => { c with faultCount := 0 }) s.taken).cells[p].faultCount = 0 := by
      rw [cells_updCell, if_pos rfl]
    exact (congrArg Prod.fst hmarks :).trans hz
  · exact (meter_finishEvent b _).trans (congrArg Frame.meter hframe)
  · obtain ⟨⟨y, hy⟩, hh, hd⟩ := enterByMode_woken hrec (by rw [hst]; decide) hm
    rw [← hwork] at hy hh hd
    obtain ⟨q', hq', hu⟩ := hsteady.record hy
    have hqq : q' = q := Option.some.inj (hq'.symm.trans hq)
    subst hqq
    exact ⟨congrArg Record.st hu, hsteady.holds _ _ hh, (congrArg Cell.drive hcell).trans (hd p hp)⟩
  · obtain ⟨hy, hrun, hd⟩ := enterByMode_silent hrec (by rw [hst]; decide) hm
    rw [← hwork] at hy hd
    obtain ⟨q', hq', hu⟩ := hsteady.record hy
    have hqq : q' = q := Option.some.inj (hq'.symm.trans hq)
    subst hqq
    exact ⟨congrArg Record.st hu, (congrArg (fun r => r.cd.running) hu).trans hrun,
      (congrArg Cell.drive hcell).trans (hd p hp)⟩

end Sys2Proof.Machine
end

section
/-! ENROLL creates a record (R12, R13). -/

namespace Sys2Proof.Machine

open Sys2Proof

theorem arbiter_pickBoth (s : State) : (pickBoth s).arbiter = s.arbiter := by
  have hp : ∀ e s, (pickFor e s).arbiter = s.arbiter := fun e s => by
    obtain h | ⟨i, r, x, -, -, -, -, -, ht⟩ := pickFor_parts e s
    · rw [h]
    · exact (congrArg Ties.arbiter ht :)
  exact (hp .b _).trans (hp .a s)

/-- With no decision called for, an event's end leaves the collections. -/
theorem arbiter_finishEvent {t : State} (hd : t.agenda.decision = false) (b : State) :
    (finishEvent b t).arbiter = t.arbiter := by
  have h : decided t = t := by unfold decided; rw [hd]; rfl
  obtain he | he := finishEvent_cases b t
  · rw [he, h]; rfl
  · rw [he, h]; exact arbiter_pickBoth t

/-! ### The operands of an accepted ENROLL -/

theorem clsOf_byte (c : Cls) : clsOf c.byte = some c := by cases c <;> rfl

theorem portOfByte_portByte (p : Port) : portOfByte (portByte p) = some p := by
  rw [portOfByte_some]
  have := p.isLt
  simp [portByte, byteOf]
  omega

theorem portGiven_map (pt : Option Port) : portGiven (pt.map portByte) = some pt := by
  cases pt with
  | none => rfl
  | some p => simp [portGiven, portOfByte_portByte]

/-- The slot that ENROLL takes is the lowest free one (R1). -/
theorem freeSlot_eq {s : State} {i : Idx} (hi : s.rec? i = none) (hl : ∀ j, j < i → s.rec? j ≠ none) :
    s.freeSlot = some i := by
  cases hf : s.freeSlot with
  | none => exact absurd hi (freeSlot_none.mp hf i)
  | some j =>
    obtain ⟨hj, as, bs, hab, has⟩ := List.find?_eq_some_iff_append.mp hf
    have hjn : s.rec? j = none := by simpa using hj
    have hji : ¬j < i := fun hlt => hl j hlt hjn
    have hsort : (as ++ j :: bs).Pairwise (· < ·) := hab ▸ List.pairwise_lt_finRange 64
    have hmem : i ∈ as ++ j :: bs := hab ▸ List.mem_finRange i
    rcases List.mem_append.mp hmem with hm | hm
    · have := has i hm
      simp [hi] at this
    · rcases List.mem_cons.mp hm with rfl | hm
      · rfl
      · have hlt : j < i := by
          have hb := (List.pairwise_append.mp hsort).2.1
          exact (List.pairwise_cons.mp hb).1 i hm
        exact absurd hlt hji

/-- What a new record is created with holds of it behind the entry of the mode: its fields but for its state, its reload
value and mode, and its pending exchange. -/
structure Record.Fresh (r : Record) (now : Stamp) : Prop where
  entered : r.entered = now
  admitted : r.admitted = none
  remaining : r.cd.remaining = 0
  running : r.cd.running = false
  test : r.test = none

theorem fresh_of_unpended {q r : Record} {now : Stamp} (h : q.unpended = r.unpended) (hr : r.Fresh now) : q.Fresh now :=
  ⟨(congrArg Record.entered h :).trans hr.entered, (congrArg Record.admitted h :).trans hr.admitted,
    (congrArg (fun r => r.cd.remaining) h :).trans hr.remaining, (congrArg (fun r => r.cd.running) h :).trans hr.running,
    (congrArg Record.test h :).trans hr.test⟩

theorem Record.Fresh.withPend {r : Record} {now : Stamp} (h : r.Fresh now) (y : Option Exchange) :
    Record.Fresh { r with pend := y } now :=
  fresh_of_unpended (r := r) rfl h

/-- The created record, behind the entry of the mode (R13). -/
theorem createRecord_record (i : Idx) (v : Identity) (c : Cls) (pt : Option Port) (s : State) :
    ∃ q, (createRecord i v c pt s).rec? i = some q ∧ q.terms = (newRecord s v c pt).terms ∧ q.Fresh s.clock ∧
      (pt = none ∨ s.supply.mode = .mains → q.st = .idle) ∧
      (pt ≠ none → s.supply.mode = .depleted → q.st = .silent) ∧
      ∀ p, pt = some p → s.supply.mode = .outage ∨ s.supply.mode = .critical →
        q.st = .waking ∧ (createRecord i v c pt s).Holds i .wake 0 ∧ (createRecord i v c pt s).cells[p].drive = .sense := by
  have hnew : (setRec i (some (newRecord s v c pt)) s).rec? i = some (newRecord s v c pt) := rec?_setRec_self ..
  have hfresh : (newRecord s v c pt).Fresh s.clock := ⟨rfl, rfl, rfl, rfl, rfl⟩
  have hstop : ∀ (b : Bool) (st : RState), st = .waking ∨ st = .silent ∧ s.supply.mode = .depleted →
      (enteredRec b st (setRec i (some (newRecord s v c pt)) s) (newRecord s v c pt)).Fresh s.clock := fun b st hst => by
    rcases hst with rfl | ⟨rfl, hm⟩
    · exact ⟨rfl, rfl, rfl, rfl, rfl⟩
    · have hcd : (enteredRec b .silent (setRec i (some (newRecord s v c pt)) s) (newRecord s v c pt)).cd =
          { (newRecord s v c pt).cd.stop with repeats := false } := by
        simp [enteredRec, Countdown.forEntry, hm, Countdown.load]
      exact ⟨rfl, rfl, by rw [hcd]; rfl, by rw [hcd]; rfl, rfl⟩
  cases pt with
  | none => exact ⟨_, hnew, rfl, hfresh, fun _ => rfl, fun hn => absurd rfl hn, nofun⟩
  | some p =>
    show ∃ q, (enterByMode i (setRec i (some (newRecord s v c (some p))) s)).rec? i = some q ∧ _
    cases hm : s.supply.mode with
    | mains =>
      have he : enterByMode i (setRec i (some (newRecord s v c (some p))) s) =
          setRec i (some (newRecord s v c (some p))) s := by rw [enterByMode, setRec_supply, hm]
      rw [he]
      exact ⟨_, hnew, rfl, hfresh, fun _ => rfl, (fun _ h => by cases h), (fun _ _ h => by rcases h with h | h <;> cases h)⟩
    | depleted =>
      obtain ⟨hr, -, -⟩ := enterByMode_silent hnew (show RState.idle ≠ .silent by decide) hm
      exact ⟨_, hr, rfl, hstop _ _ (.inr ⟨rfl, hm⟩), (fun h => by rcases h with h | h <;> cases h), fun _ _ => rfl,
        (fun _ _ h => by rcases h with h | h <;> cases h)⟩
    | outage =>
      obtain ⟨⟨y, hr⟩, hh, hd⟩ := enterByMode_woken hnew (show RState.idle ≠ .waking by decide) (.inl hm)
      exact ⟨_, hr, rfl, (hstop false _ (.inl rfl)).withPend y, (fun h => by rcases h with h | h <;> cases h),
        (fun _ h => by cases h), fun q hq _ => ⟨rfl, hh, hd q hq⟩⟩
    | critical =>
      obtain ⟨⟨y, hr⟩, hh, hd⟩ := enterByMode_woken hnew (show RState.idle ≠ .waking by decide) (.inr hm)
      exact ⟨_, hr, rfl, (hstop false _ (.inl rfl)).withPend y, (fun h => by rcases h with h | h <;> cases h),
        (fun _ h => by cases h), fun q hq _ => ⟨rfl, hh, hd q hq⟩⟩

theorem within_createRecord (i : Idx) (v : Identity) (c : Cls) (pt : Option Port) (s : State) :
    s.Within i ∅ (createRecord i v c pt s) ∧ (createRecord i v c pt s).meter = s.meter ∧
      (createRecord i v c pt s).dev = s.dev ∧ (createRecord i v c pt s).arbiter = s.arbiter ∧
      (createRecord i v c pt s).agenda.decision = s.agenda.decision := by
  have hset : s.Within i ∅ (setRec i (some (newRecord s v c pt)) s) := .setRec _ s
  cases pt with
  | none => exact ⟨hset, rfl, rfl, rfl, rfl⟩
  | some p =>
    have hf := frame_enterByMode i (setRec i (some (newRecord s v c (some p))) s)
    obtain ⟨-, ha, hd⟩ := ties_enterByMode i (setRec i (some (newRecord s v c (some p))) s)
    exact ⟨hset.trans (.enterByMode _), congrArg Frame.meter hf, congrArg Frame.dev hf, ha, hd⟩

/-- Settles O17: the accepted ENROLL is the new record put in the lowest free slot and the entry of the mode; no decision
is called for, and the pick can only take the WAKE that was asked for. -/
theorem enrollCreates : Obligations.EnrollCreates := by
  unfold Obligations.EnrollCreates
  intro fr identity cls c port pt i s h hf hcls hid hport hdup htaken hfree hlow
  have howner : enrollOwner identity cls port s.taken =
      ⟨createRecord i identity c pt s.taken, some fun _ => ⟨.done, [idxByte i]⟩⟩ := by
    have hw : (s.taken.withIdentity identity).isSome = false := by
      refine Bool.eq_false_iff.mpr fun hs => ?_
      obtain ⟨j, r, hr, hv⟩ := withIdentity_isSome.mp hs
      exact hdup j r hr hv
    have hp : s.taken.portHeld pt = false := by
      cases pt with
      | none => rfl
      | some p =>
        have hb : s.taken.boundAt p = none := boundAt_none.mpr fun j hj => htaken j p hj rfl
        simp [State.portHeld, hb]
    have hs : s.taken.freeSlot = some i := freeSlot_eq hfree hlow
    unfold enrollOwner
    rw [hcls, clsOf_byte, hport, portGiven_map]
    simp only [if_neg hid, hw, hp, hs, Bool.false_eq_true, if_false]
  obtain ⟨hw, hmeter, hdev, harb, hdec⟩ := within_createRecord i identity c pt s.taken
  obtain ⟨b, hb⟩ := exec_accepted (c := .enroll fr identity cls port) rfl h hf howner hw.host
  obtain ⟨r, hr, hterms, hfresh, hidle, hsilent, hwoken⟩ := createRecord_record i identity c pt s.taken
  have hd : (createRecord i identity c pt s.taken).agenda.decision = false := by
    rw [hdec]
    show s.agenda.decision = false
    rw [h.2.1]
  have hsteady := steady_finishEvent (i := i) (t := createRecord i identity c pt s.taken)
    (fun he => by rw [hd] at he; cases he) b
  obtain ⟨q, hq, hqt⟩ := terms_finishEvent hr b
  have hqn := hqt.trans hterms
  obtain ⟨q', hq', hu⟩ := hsteady.record hr
  have hqq : q' = q := Option.some.inj (hq'.symm.trans hq)
  subst hqq
  have hfq := fresh_of_unpended hu hfresh
  have hst : q'.st = r.st := (congrArg Record.st hu :)
  refine ⟨_, q', hb, hq, rfl, ⟨(congrArg Record.identity hqn :), (congrArg Record.port hqn :), (congrArg Record.cls hqn :),
    hfq.entered, (congrArg Record.ceiling hqn :), hfq.admitted, (congrArg Record.allowance hqn :), (congrArg Record.cap hqn :),
    (congrArg Record.soc hqn :), (congrArg Record.load hqn :), (congrArg Record.call hqn :),
    (congrArg Record.batteryFault hqn :), (congrArg Record.selfMinutes hqn :), (congrArg Record.lastSeen hqn :),
    hfq.remaining, hfq.running, hfq.test, (congrArg Record.lastOutcome hqn :), (congrArg Record.flags hqn :),
    (congrArg Record.rep hqn :), (congrArg Record.testOutcome hqn :)⟩,
    fun hm => hst.trans (hidle hm), fun hn hm => hst.trans (hsilent hn hm), fun p hp hm => ?_,
    restKept_served hw nofun b _, (meter_finishEvent b _).trans hmeter, (dev_finishEvent b _).trans hdev,
    (arbiter_finishEvent hd b).trans harb⟩
  obtain ⟨h1, h2, h3⟩ := hwoken p hp hm
  have hcell := cells_finishEvent (p := p) (t := createRecord i identity c pt s.taken)
    (fun he => by rw [hd] at he; cases he) b
  exact ⟨hst.trans h1, hsteady.holds _ _ h2, (congrArg Cell.drive hcell).trans h3⟩

end Sys2Proof.Machine
end

section
/-! AMEND as a whole: what its changes are, its checks (R16), and what an accepted one keeps. -/

namespace Sys2Proof.Machine

open Sys2Proof

/-! ### The changes of an AMEND -/

/-- Where each of the five changes comes once, what is read of a kind of change is what the list holds of it. -/
theorem findSome?_change {α : Type} {l : List AmendChange} (h : (l.map AmendChange.slot).Nodup)
    {f : AmendChange → Option α} {n : Nat} (hf : ∀ x a, f x = some a → AmendChange.slot x = n) {a : α} :
    l.findSome? f = some a ↔ ∃ x ∈ l, f x = some a := by
  refine ⟨List.exists_of_findSome?_eq_some, fun ⟨x, hx, hxa⟩ => ?_⟩
  cases hl : l.findSome? f with
  | none =>
    rw [List.findSome?_eq_none_iff.mp hl x hx] at hxa
    cases hxa
  | some b =>
    obtain ⟨y, hy, hyb⟩ := List.exists_of_findSome?_eq_some hl
    have hxy : x = y := List.inj_on_of_nodup_map h hx hy ((hf x a hxa).trans (hf y b hyb).symm)
    subst hxy
    exact hyb.symm.trans hxa

theorem slots_nodup {l : List AmendChange} (h : changesFit l = true) : (l.map AmendChange.slot).Nodup := by
  simp only [changesFit, Bool.and_eq_true, decide_eq_true_eq] at h
  exact h.1.1

theorem classIn_iff {l : List AmendChange} (h : (l.map AmendChange.slot).Nodup) {b : Byte} :
    classIn l = some b ↔ .cls b ∈ l := by
  refine (findSome?_change h (n := 0) fun x _ hx => ?_).trans ⟨fun ⟨x, hx, hb⟩ => ?_, fun hb => ⟨_, hb, rfl⟩⟩
  · cases x <;> cases hx
    rfl
  · cases x <;> cases hb
    exact hx

theorem portIn_iff {l : List AmendChange} (h : (l.map AmendChange.slot).Nodup) {b : Byte} :
    portIn l = some b ↔ .port b ∈ l := by
  refine (findSome?_change h (n := 3) fun x _ hx => ?_).trans ⟨fun ⟨x, hx, hb⟩ => ?_, fun hb => ⟨_, hb, rfl⟩⟩
  · cases x <;> cases hx
    rfl
  · cases x <;> cases hb
    exact hx

theorem ceilingIn_iff {l : List AmendChange} (h : (l.map AmendChange.slot).Nodup) {n : Nat} :
    ceilingIn l = some n ↔ ∃ v, .ceiling v ∈ l ∧ v.toNat = n := by
  refine (findSome?_change h (n := 1) fun x _ hx => ?_).trans ⟨fun ⟨x, hx, hb⟩ => ?_, fun ⟨v, hv, hn⟩ => ⟨_, hv, ?_⟩⟩
  · cases x <;> cases hx
    rfl
  · cases x <;> cases hb
    exact ⟨_, hx, rfl⟩
  · exact congrArg some hn

theorem unbindIn_iff {l : List AmendChange} : unbindIn l = true ↔ .unbind ∈ l := List.contains_iff_mem

theorem faultIn_iff {l : List AmendChange} : faultIn l = true ↔ .clearFault ∈ l := List.contains_iff_mem

/-- A port number and an unbind are one change in two forms. -/
theorem unbindIn_of_portIn {l : List AmendChange} (h : changesFit l = true) {b : Byte} (hp : portIn l = some b) :
    unbindIn l = false := by
  refine Bool.eq_false_iff.mpr fun hu => ?_
  have hs := slots_nodup h
  have he := List.inj_on_of_nodup_map hs ((portIn_iff hs).mp hp) (unbindIn_iff.mp hu) rfl
  cases he

/-- A clear-fault comes with no change of the port. -/
theorem clearFault_alone {l : List AmendChange} (h : changesFit l = true) (hf : faultIn l = true) :
    unbindIn l = false ∧ portIn l = none := by
  simp only [changesFit, hf, Bool.and_eq_true, Bool.true_and, Bool.not_eq_true', Bool.or_eq_false_iff] at h
  exact ⟨h.2.1, by simpa using h.2.2⟩

/-- Check 1 of R16, change by change. -/
theorem changesFit_iff (l : List AmendChange) : changesFit l = true ↔ (∀ n, (l.map AmendChange.slot).count n ≤ 1) ∧
    (∀ c : Byte, .cls c ∈ l → c.toNat ≤ 2) ∧ (.clearFault ∈ l → .unbind ∉ l ∧ ∀ b : Byte, .port b ∉ l) := by
  simp only [changesFit, Bool.and_eq_true, decide_eq_true_eq, and_assoc, ← List.nodup_iff_count_le_one]
  refine and_congr_right fun hs => and_congr ?_ ?_
  · have hcls : (classIn l).all (fun b => (clsOf b).isSome) = true ↔ ∀ b, classIn l = some b → (clsOf b).isSome = true := by
      cases classIn l <;> simp
    rw [hcls]
    refine forall_congr' fun b => ?_
    rw [classIn_iff hs, Option.isSome_iff_ne_none, ne_eq, clsOf_none, Nat.not_lt]
  · have hport : portIn l = none ↔ ∀ b, .port b ∉ l := by
      rw [Option.eq_none_iff_forall_ne_some]
      exact forall_congr' fun b => not_congr (portIn_iff hs)
    rw [← faultIn_iff, ← unbindIn_iff, ← hport]
    cases faultIn l <;> cases unbindIn l <;> cases portIn l <;> simp

/-! ### The work of an accepted AMEND -/

section Work

variable {s : State} {i : Idx} {l : List AmendChange}

/-- An AMEND is its terms and at most one of a binding, an unbind and a clear-fault. -/
theorem amendWork_cases (h : changesFit l = true) (i : Idx) (s : State) :
    (∃ p, amendWork l i s = bindWork p i (amendTerms l i s)) ∨ amendWork l i s = unbindWork i (amendTerms l i s) ∨
      amendWork l i s = clearFaultWork i (amendTerms l i s) ∨ amendWork l i s = amendTerms l i s := by
  rw [amendWork_eq]
  cases hf : faultIn l with
  | true =>
    obtain ⟨hu, hp⟩ := clearFault_alone h hf
    exact .inr (.inr (.inl (by simp [amendBinding, hu, hp])))
  | false =>
    cases hp : (portIn l).bind portOfByte with
    | some p =>
      obtain ⟨b, hb, -⟩ := Option.bind_eq_some_iff.mp hp
      exact .inl ⟨p, by simp [amendBinding, hp, unbindIn_of_portIn h hb]⟩
    | none =>
      cases hu : unbindIn l with
      | true => exact .inr (.inl (by simp [amendBinding, hp, hu]))
      | false => exact .inr (.inr (.inr (by simp [amendBinding, hp, hu])))

theorem State.Within.amendTerms {P : Set Port} (l : List AmendChange) (s : State) :
    s.Within i P (Machine.amendTerms l i s) :=
  amendTerms_keeps (Q := fun t => s.Within i P t) (fun v _ h => h.trans (.amendCeilingWork v _))
    (fun c _ h => h.trans (.amendCapWork c _)) (fun c _ h => h.trans (.amendClassWork c _)) l (.refl i P s)

theorem portOf_amendTerms (l : List AmendChange) (s : State) (j : Idx) : (amendTerms l i s).portOf j = s.portOf j := by
  rw [portOf_eq, roster_of_fixed (fixed_amendTerms l i s), ← portOf_eq]

theorem portOf_bindWork {p : Port} (h : s.rec? i ≠ none) : (bindWork p i s).portOf i = some p := by
  rw [portOf_eq, roster_bindWork]
  obtain ⟨r, hr⟩ := Option.ne_none_iff_exists'.mp h
  simp [State.roster, hr]

theorem isSome_of_roster {s t : State} (h : (t.roster i).isSome = (s.roster i).isSome) (hs : s.rec? i ≠ none) :
    t.rec? i ≠ none := by
  rw [← Option.isSome_iff_ne_none] at hs ⊢
  simpa [State.roster, hs] using h

/-- An accepted AMEND keeps its record, and works within its slot and the ports that it holds before or after. -/
theorem amendWork_within (h : changesFit l = true) (hr : s.rec? i ≠ none) :
    (amendWork l i s).rec? i ≠ none ∧ ∃ P, s.Within i P (amendWork l i s) ∧
      ∀ p ∈ P, s.portOf i = some p ∨ (amendWork l i s).portOf i = some p := by
  have hw : ∀ P, s.Within i P (amendTerms l i s) := fun P => .amendTerms l s
  have hport := portOf_amendTerms (i := i) l s i
  have ht : (amendTerms l i s).rec? i ≠ none :=
    isSome_of_roster (by rw [roster_of_fixed (fixed_amendTerms l i s)]) hr
  obtain ⟨p, he⟩ | he | he | he := amendWork_cases h i s
  · rw [he]
    refine ⟨isSome_of_roster (by rw [roster_bindWork]; simp) ht, {q | s.portOf i = some q ∨ q = p},
      (hw _).trans (.bindWork (fun q hq => .inl (hport.symm.trans hq)) p), fun q hq => hq.imp_right fun hqp => ?_⟩
    rw [hqp]
    exact portOf_bindWork ht
  · rw [he]
    exact ⟨isSome_of_roster (by rw [roster_unbindWork]; simp) ht, {q | s.portOf i = some q},
      (hw _).trans (.unbindWork fun q hq => hport.symm.trans hq), fun q hq => .inl hq⟩
  · rw [he]
    exact ⟨isSome_of_roster (by rw [roster_of_fixed (fixed_clearFaultWork i _)]) ht, {q | s.portOf i = some q},
      (hw _).trans (.clearFaultWork fun q hq => hport.symm.trans hq), fun q hq => .inl hq⟩
  · rw [he]
    exact ⟨ht, ∅, hw ∅, fun _ hp => hp.elim⟩

/-- An AMEND that passes its checks, as the part behind it. -/
theorem amend_accepted {c : Instr} {fr : Framing} {index : Byte} {r : Record}
    (hc : requestOf c = some (fr, (amendParams index l).length, amendOwner index l)) (h : s.Quiet)
    (hf : fr.fits (amendParams index l).length = true) (hi : index.toNat = i.val) (hfit : changesFit l = true)
    (hr : s.rec? i = some r) (href : amendRefusal l i s = none) :
    ∃ b, exec c s = .next (s.served b (amendWork l i s.taken) ⟨doneOr (ceilingClamped l), []⟩) ∧
      s.RestKept i (s.served b (amendWork l i s.taken) ⟨doneOr (ceilingClamped l), []⟩) := by
  obtain ⟨-, P, hw, hP⟩ := amendWork_within (s := s.taken) hfit (by rw [show s.taken.rec? i = s.rec? i from rfl, hr]; simp)
  obtain ⟨b, hb⟩ := exec_accepted hc h hf (amendOwner_accepts hi hfit hr href) hw.host
  exact ⟨b, hb, restKept_served hw hP b _⟩

end Work

/-! ### The checks -/

theorem ceilingClamped_iff {l : List AmendChange} (h : (l.map AmendChange.slot).Nodup) :
    ceilingClamped l = true ↔ ∃ v : BitVec 16, .ceiling v ∈ l ∧ (v.toNat < 50 ∨ 1000 < v.toNat) := by
  have hc : ∀ v, clampTo 50 1000 v ≠ v ↔ v < 50 ∨ 1000 < v := fun v => by
    rw [ne_eq, clampTo_eq_iff (by decide)]
    omega
  simp only [ceilingClamped, Option.any_eq_true, decide_eq_true_eq, hc, ceilingIn_iff h]
  constructor
  · rintro ⟨n, ⟨v, hv, rfl⟩, hn⟩
    exact ⟨v, hv, hn⟩
  · rintro ⟨v, hv, hn⟩
    exact ⟨_, ⟨v, hv, rfl⟩, hn⟩

/-- Settles O19: check 1 is read off the list change by change; checks 2 to 5 are `amendRefusal` in its order, and what
passes them works within the record's slot and ports. -/
theorem amendJudged : Obligations.AmendJudged := by
  unfold Obligations.AmendJudged
  refine ⟨fun l => ?_, fun c fr index l s h hfr hf hc => ?_⟩
  · have hcount : ∀ (f : AmendChange → Bool) (n : Nat), (∀ x, f x = (AmendChange.slot x == n)) →
        l.countP f = (l.map AmendChange.slot).count n := fun f n hfn => by
      rw [List.count_eq_countP, List.countP_map]
      exact congrArg (List.countP · l) (funext hfn)
    rw [changesFit_iff, hcount _ 0 fun x => by cases x <;> rfl, hcount _ 1 fun x => by cases x <;> rfl,
      hcount _ 2 fun x => by cases x <;> rfl, hcount _ 3 fun x => by cases x <;> rfl,
      hcount _ 4 fun x => by cases x <;> rfl]
    refine ⟨fun ⟨h1, h2, h3⟩ => ⟨h1 0, h1 1, h1 2, h1 3, h1 4, h2, h3⟩,
      fun ⟨h0, h1, h2, h3, h4, h5, h6⟩ => ⟨fun n => ?_, h5, h6⟩⟩
    match n with
    | 0 => exact h0
    | 1 => exact h1
    | 2 => exact h2
    | 3 => exact h3
    | 4 => exact h4
    | n + 5 =>
      rw [List.count_eq_zero.mpr fun hm => ?_]
      · exact Nat.zero_le 1
      · obtain ⟨x, -, hx⟩ := List.mem_map.mp hm
        cases x <;> simp [AmendChange.slot] at hx
  · have hreq : requestOf c = some (fr, (amendParams index l).length, amendOwner index l) := by
      cases c <;> cases hc <;> cases hfr <;> rfl
    have hlen : c.params.length = (amendParams index l).length := by
      cases c <;> cases hc <;> rfl
    rw [hlen] at hf
    have refused : ∀ st, amendOwner index l s.taken = refuse st s.taken → exec c s = .next (s.replied s ⟨st, []⟩) :=
      fun st ho => by
        rw [exec_request hreq]
        exact congrArg Host.Outcome.next (request_answer (owner := amendOwner index l) h hf ho)
    refine ⟨fun hbad => refused _ ?_, fun i hi hfit => ?_⟩
    · unfold amendOwner
      cases hx : idxOf index with
      | none => rfl
      | some i =>
        have hn : ¬63 < index.toNat := fun hlt => by rw [idxOf_none.mpr hlt] at hx; cases hx
        rw [hbad.resolve_left hn]
        rfl
    have hs := slots_nodup hfit
    dsimp only
    refine ⟨fun hr => refused _ ?_, fun hr => ?_⟩
    · have hr' : s.taken.rec? i = none := hr
      simp only [amendOwner, idxOf_some hi, hfit, if_true, hr']
    obtain ⟨r, hr⟩ := Option.ne_none_iff_exists'.mp hr
    have judged : ∀ st, amendRefusal l i s = some st → exec c s = .next (s.replied s ⟨st, []⟩) := fun st hst => by
      have hr' : s.taken.rec? i = some r := hr
      have hst' : amendRefusal l i s.taken = some st := hst
      exact refused st (by simp only [amendOwner, idxOf_some hi, hfit, if_true, hr', hst'])
    have hbadPort : ((portIn l).any fun b => (portOfByte b).isNone) = true ↔
        ∃ b : Byte, .port b ∈ l ∧ (b.toNat = 0 ∨ 48 < b.toNat) := by
      simp only [Option.any_eq_true, portIn_iff hs, Option.isNone_iff_eq_none, portOfByte_none]
    have hport : ∀ p, (portIn l).bind portOfByte = some p ↔ ∃ b : Byte, .port b ∈ l ∧ b.toNat = p.val + 1 := fun p => by
      simp only [Option.bind_eq_some_iff, portIn_iff hs, portOfByte_some]
    have hfault : (faultIn l && !s.isIn .faulted i) = true ↔ .clearFault ∈ l ∧ s.stOf i ≠ some .faulted := by
      rw [Bool.and_eq_true, faultIn_iff]
      simp [State.isIn]
    refine ⟨fun hb => judged _ ?_, fun hb ht => judged _ ?_, fun hu hb ht => ?_⟩
    · rw [amendRefusal, if_pos (hbadPort.mpr hb)]
    · obtain ⟨b, p, j, hbl, hbp, hji, hj, hip⟩ := ht
      have htaken : s.takenByOther i p = true := by
        cases hx : s.boundAt p with
        | none => exact absurd hj (boundAt_none.mp hx j)
        | some k =>
          have hki : k ≠ i := fun hki => hip (hki ▸ portOf_of_boundAt hx)
          simp [State.takenByOther, hx, hki]
      rw [amendRefusal, if_neg (mt hbadPort.mp hb), (hport p).mpr ⟨b, hbl, hbp⟩]
      exact if_pos htaken
    · have hfree : ((portIn l).bind portOfByte).any (s.takenByOther i) ≠ true := fun hany => by
        simp only [Option.any_eq_true] at hany
        obtain ⟨p, hp, htk⟩ := hany
        obtain ⟨b, hbl, hbp⟩ := (hport p).mp hp
        simp only [State.takenByOther, Option.any_eq_true] at htk
        obtain ⟨j, hj, hji⟩ := htk
        have hjp := portOf_of_boundAt hj
        have hne : j ≠ i := of_decide_eq_true hji
        exact ht ⟨b, p, j, hbl, hbp, hne, hjp, fun hip => hne (hu j i p hjp hip)⟩
      refine ⟨fun hn => judged _ ?_, fun hn => ?_⟩
      · rw [amendRefusal, if_neg (mt hbadPort.mp hb), if_neg hfree, if_pos (hfault.mpr hn)]
      · have href : amendRefusal l i s = none := by
          rw [amendRefusal, if_neg (mt hbadPort.mp hb), if_neg hfree, if_neg (mt hfault.mp hn)]
        obtain ⟨b, hx, hk⟩ := amend_accepted hreq h hf hi hfit hr href
        have hsome := (amendWork_within (s := s.taken) (i := i) hfit
          (fun hn => by rw [show s.taken.rec? i = s.rec? i from rfl, hr] at hn; cases hn)).1
        obtain ⟨q, hq⟩ := Option.ne_none_iff_exists'.mp hsome
        obtain ⟨q', hq', -⟩ := terms_finishEvent hq b
        refine ⟨_, _, hx, fun hn => ?_, hk, rfl, fun hcl => ?_, fun hcl => ?_⟩
        · have hfin : (finishEvent b (amendWork l i s.taken)).rec? i = none := hn
          rw [hq'] at hfin
          cases hfin
        · rw [(ceilingClamped_iff hs).mpr hcl]; rfl
        · rw [Bool.eq_false_iff.mpr (mt (ceilingClamped_iff hs).mp hcl)]; rfl

end Sys2Proof.Machine
end

section
/-! What an AMEND leaves of a record's ceiling, cap and allowance and of the pool; the changes of the ceiling (R17) and of
the cap (R18). -/

namespace Sys2Proof.Machine

open Sys2Proof

/-! ### The record of a withdrawal -/

section Slot

variable {s : State} {i : Idx} {r : Record}

theorem slots_cutLine (e : Engine) (s : State) : (cutLine e s).slots = s.slots := by
  have hs : (sendPart e s).slots = s.slots := by
    obtain h | ⟨g, n, -, -, -, h⟩ := sendPart_cases e s
    · rw [h]
    · rw [h]; exact setEngine_slots ..
  unfold cutLine
  dsimp only
  split
  · split
    · rw [setLine_slots, hs]
    · exact hs
  · exact hs

theorem slots_freeEngine (e : Engine) (s : State) : (freeEngine e s).slots = s.slots := by
  unfold freeEngine
  split
  · rfl
  · next g _ =>
    have h : ∀ (p : Option Port) (t : State), (restartCall p t).slots = t.slots := fun p t => by cases p <;> rfl
    rw [callPick_slots, h, dropDue_slots, setEngine_slots]

/-- An abort notes SENT and the last outcome at most (R125, R131). -/
theorem rec?_abortInFlight (hr : s.rec? i = some r) (o : ExOutcome) :
    ∃ f b y, (abortInFlight o i s).rec? i = some { r with flags := f, rep := b, lastOutcome := y } := by
  unfold abortInFlight
  split
  · exact ⟨r.flags, r.rep, r.lastOutcome, hr⟩
  · next e _ =>
    unfold abortEngine
    split
    · exact ⟨r.flags, r.rep, r.lastOutcome, hr⟩
    · next g _ =>
      have hu : (freeEngine e (cutLine e s)).rec? i = some r := by
        rw [rec?_congr ((slots_freeEngine ..).trans (slots_cutLine e s)), hr]
      unfold noteSent
      split
      · have hn : ∀ q : Record, ∃ f b y, q.sentWith g.ex.kind o = { q with flags := f, rep := b, lastOutcome := y } :=
          fun q => by
            unfold Record.sentWith Record.raise
            split
            · exact ⟨_, _, _, rfl⟩
            · exact ⟨_, _, _, rfl⟩
        obtain ⟨f, b, y, hq⟩ := hn r
        by_cases hgi : i = g.idx
        · exact ⟨f, b, y, by rw [rec?_updRec, if_pos hgi, ← hgi, hu, ← hq]; rfl⟩
        · exact ⟨r.flags, r.rep, r.lastOutcome, by rw [rec?_updRec, if_neg hgi, hu]⟩
      · exact ⟨r.flags, r.rep, r.lastOutcome, hu⟩

/-- A record that leaves service gives up its admitted current if it is FED. -/
theorem rec?_leaveService (hr : s.rec? i = some r) :
    (leaveService i s).rec? i = some { r with admitted := if r.st = .fed then none else r.admitted } := by
  have hst : s.stOf i = some r.st := by simp [State.stOf, hr]
  by_cases hf : r.st = .fed
  · have he : leaveService i s = releaseFeed i s := by rw [leaveService, hst, hf]
    rw [he, if_pos hf]
    show (updRec i (fun r => { r with admitted := none }) s).rec? i = _
    rw [rec?_updRec_self, hr]
    rfl
  · have hs : (leaveService i s).slots = s.slots := by
      unfold leaveService
      split
      · next h => exact absurd (Option.some.inj (hst.symm.trans h)) hf
      · rfl
      · rfl
    rw [rec?_congr hs, hr, if_neg hf]

theorem rec?_dropPending (hr : s.rec? i = some r) : (dropPending i s).rec? i = some { r with pend := none } := by
  show (updRec i (fun r => { r with pend := none }) s).rec? i = _
  rw [rec?_updRec_self, hr]
  rfl

/-- The record that has left its port's service (R21, R24). -/
theorem rec?_withdraw (hr : s.rec? i = some r) : ∃ f b y, (withdraw i s).rec? i = some
    { r with flags := f, rep := b, lastOutcome := y, pend := none,
             admitted := if r.st = .fed then none else r.admitted } := by
  obtain ⟨f, b, y, h⟩ := rec?_abortInFlight hr .aborted
  exact ⟨f, b, y, rec?_leaveService (rec?_dropPending h)⟩

/-- A record is `q` behind an unbind of `r` (R21). -/
structure Record.Unbinds (r q : Record) : Prop where
  port : q.port = none
  st : q.st = .idle
  running : q.cd.running = false
  remaining : q.cd.remaining = 0
  pend : q.pend = none
  admitted : q.admitted = if r.st = .fed then none else r.admitted
  allowance : q.allowance = r.allowance
  cap : q.cap = r.cap
  ceiling : q.ceiling = r.ceiling
  soc : q.soc = r.soc
  testOutcome : q.testOutcome = r.testOutcome

theorem rec?_unbindRecord (hr : s.rec? i = some r) :
    ∃ q, (unbindRecord i s).rec? i = some q ∧ r.Unbinds q := by
  obtain ⟨f, b, y, hw⟩ := rec?_withdraw hr
  have hu := (rec?_updRec_self i (fun r => { r with port := none }) (withdraw i s)).trans (congrArg _ hw)
  have hstop : ∀ t : State, (setCountdown i Countdown.stop t).rec? i =
      (t.rec? i).map fun r => { r with cd := r.cd.stop } := fun t => rec?_updRec_self ..
  unfold unbindRecord
  by_cases hst : r.st = .idle
  · rw [hstop, enter, enterState_same hu (by exact hst), hu]
    exact ⟨_, rfl, rfl, hst, rfl, rfl, rfl, rfl, rfl, rfl, rfl, rfl, rfl⟩
  · rw [hstop, enter, rec?_enterState hu false (by exact hst) (by decide)]
    exact ⟨_, rfl, rfl, rfl, rfl, rfl, rfl, rfl, rfl, rfl, rfl, rfl, rfl⟩

end Slot

/-! ### The purse of a record -/

/-- A record's ceiling, cap and allowance. -/
def Record.worth (r : Record) : Nat × Option Nat × Nat := (r.ceiling, r.cap, r.allowance)

/-- What a slot's record may draw and what it has left, and the meter. -/
def State.purse (i : Idx) (s : State) : Option (Nat × Option Nat × Nat) × Meter := ((s.rec? i).map Record.worth, s.meter)

section Purse

variable {s t : State} {i : Idx} {r q : Record}

theorem purse_of_frame (h : t.frame = s.frame) : t.purse i = s.purse i := by
  have hm : ∀ u : State, (u.rec? i).map Record.worth = (u.terms i).map Record.worth := fun u => by
    unfold State.terms
    cases u.rec? i <;> rfl
  unfold State.purse
  rw [hm, hm, show t.terms i = s.terms i from congrFun (congrArg Frame.terms h) i, show t.meter = s.meter from congrArg Frame.meter h]

theorem purse_congr (hs : t.slots = s.slots) (hm : t.meter = s.meter) : t.purse i = s.purse i := by
  rw [State.purse, State.purse, rec?_congr hs, hm]

theorem purse_setRec (hr : s.rec? i = some r) (hq : q.worth = r.worth) : (setRec i (some q) s).purse i = s.purse i := by
  simp [State.purse, hr, hq]

theorem purse_updRec {f : Record → Record} (hf : ∀ r, (f r).worth = r.worth) (i j : Idx) (s : State) :
    (updRec j f s).purse i = s.purse i := by
  have hm : (updRec j f s).meter = s.meter := by unfold updRec; split <;> rfl
  unfold State.purse
  rw [hm, rec?_updRec]
  split
  · next h =>
    subst h
    rw [Option.map_map]
    exact congrArg (·, s.meter) (congrArg (Option.map · _) (funext hf))
  · rfl

theorem purse_updCell (p : Port) (f : Cell → Cell) (s : State) : (updCell p f s).purse i = s.purse i := rfl

theorem has_raise (f : RecFlag) (r : Record) : (r.raise f).has f = true := by
  unfold Record.raise
  split
  · next h => exact h
  · cases f <;> simp [Record.has, RecFlag.bit]

theorem raise_worth (f : RecFlag) (r : Record) : (r.raise f).worth = r.worth := by unfold Record.raise; split <;> rfl

theorem purse_abortInFlight (o : ExOutcome) (s : State) : (abortInFlight o i s).purse i = s.purse i := by
  have hm : ∀ e, (cutLine e s).meter = s.meter := fun e => by
    have hs : (sendPart e s).meter = s.meter := congrArg Frame.meter (frame_sendPart e s)
    have hl : ∀ l, (setLine e l (sendPart e s)).meter = (sendPart e s).meter := fun l => by cases e <;> rfl
    unfold cutLine
    dsimp only
    split
    · split
      · exact (hl _).trans hs
      · exact hs
    · exact hs
  unfold abortInFlight
  split
  · rfl
  · next e _ =>
    unfold abortEngine
    split
    · rfl
    · next g _ =>
      have hf : (freeEngine e (cutLine e s)).purse i = s.purse i :=
        (purse_of_frame (frame_freeEngine ..)).trans (purse_congr (slots_cutLine e s) (hm e))
      unfold noteSent
      split
      · exact (purse_updRec (f := Record.sentWith g.ex.kind o) (fun r => raise_worth .sent r) ..).trans hf
      · exact hf

theorem purse_withdraw (s : State) : (withdraw i s).purse i = s.purse i := by
  unfold withdraw
  rw [purse_of_frame (frame_leaveService ..), purse_of_frame (frame_dropPending ..), purse_abortInFlight]

theorem purse_unbindWork (s : State) : (unbindWork i s).purse i = s.purse i := by
  cases hp : s.portOf i with
  | none => rw [unbindWork, hp]
  | some p =>
    rw [unbindWork_of_port hp]
    rw [purse_updCell, unbindRecord, purse_of_frame (frame_setCountdown ..), purse_of_frame (frame_enter ..),
      purse_updRec (f := fun r => { r with port := none }) fun _ => rfl, purse_withdraw]

theorem purse_bindWork (p : Port) (s : State) : (bindWork p i s).purse i = s.purse i := by
  unfold bindWork
  split
  · rfl
  · rw [purse_of_frame (frame_enterByMode ..), purse_updRec (f := fun r => { r with port := some p }) fun _ => rfl,
      purse_unbindWork]

theorem purse_clearFaultWork (s : State) : (clearFaultWork i s).purse i = s.purse i := by
  unfold clearFaultWork
  split
  · rfl
  · rw [purse_of_frame (frame_enterByMode ..), purse_updCell]

theorem purse_criticalClassChange (s : State) : (criticalClassChange i s).purse i = s.purse i := by
  have hf : ∀ t : State, (order .rest i t).purse i = t.purse i := fun t => purse_of_frame (frame_ask ..)
  have he : ∀ t : State, (enter .carrying i t).purse i = t.purse i := fun t => purse_of_frame (frame_enter ..)
  unfold criticalClassChange
  split
  · rw [hf, he, purse_of_frame (frame_releaseFeed ..)]
  · rw [hf, he, purse_of_frame (frame_leaveQueue ..)]
  · rw [hf, he]
    exact purse_updRec (f := Record.tested .abandoned) (fun r => raise_worth .tested r) ..
  · exact hf _
  · exact hf _
  · rfl

theorem purse_amendClassWork (c : Cls) (s : State) : (amendClassWork c i s).purse i = s.purse i := by
  unfold amendClassWork
  cases hr : s.rec? i with
  | none => rfl
  | some r =>
    dsimp only
    split
    · rfl
    · have hs : (setRec i (some { r with cls := c }) s).purse i = s.purse i := purse_setRec hr rfl
      have hj : (if r.st = .waiting then joinTail i (leaveQueue i (setRec i (some { r with cls := c }) s))
          else setRec i (some { r with cls := c }) s).purse i = s.purse i := by
        split
        · exact hs
        · exact hs
      split
      · rw [purse_criticalClassChange, hj]
      · exact hj

/-- The ceiling and the cap of an AMEND. -/
def amendLimits (l : List AmendChange) (i : Idx) (s : State) : State :=
  let s := match ceilingIn l with
    | some v => amendCeilingWork v i s
    | none => s
  match capIn l with
  | some c => amendCapWork c i s
  | none => s

/-- Behind the ceiling and the cap, an AMEND leaves the purse (R19 to R23). -/
theorem purse_amendWork {l : List AmendChange} (h : changesFit l = true) (s : State) :
    (amendWork l i s).purse i = (amendLimits l i s).purse i := by
  have ht : (amendTerms l i s).purse i = (amendLimits l i s).purse i := by
    unfold amendTerms
    dsimp only
    cases (classIn l).bind clsOf with
    | none => rfl
    | some c => exact purse_amendClassWork c _
  obtain ⟨p, he⟩ | he | he | he := amendWork_cases h i s
  · rw [he, purse_bindWork, ht]
  · rw [he, purse_unbindWork, ht]
  · rw [he, purse_clearFaultWork, ht]
  · rw [he, ht]

theorem purse_finishEvent (b t : State) : (finishEvent b t).purse i = t.purse i := purse_of_frame (frame_finishEvent b t)

end Purse

/-! ### The ceiling (R17) -/

section Ceiling

variable {s : State} {i : Idx} {r : Record}

theorem rec?_amendCeilingWork (hr : s.rec? i = some r) (v : Nat) :
    (amendCeilingWork v i s).rec? i = some { r with ceiling := clampTo 50 1000 v } ∧
      (amendCeilingWork v i s).meter = s.meter := by
  have hu : (updRec i (fun r => { r with ceiling := clampTo 50 1000 v }) s).rec? i =
      some { r with ceiling := clampTo 50 1000 v } := by
    rw [rec?_updRec_self, hr]
    rfl
  have hm : (updRec i (fun r => { r with ceiling := clampTo 50 1000 v }) s).meter = s.meter := by
    unfold updRec
    split <;> rfl
  unfold amendCeilingWork
  dsimp only
  split
  · exact ⟨hu, hm⟩
  · exact ⟨hu, hm⟩

theorem leaveLapsed_dry (hr : s.rec? i = some r) (ha : r.allowance = 0) : leaveLapsed i s = s := by
  simp [leaveLapsed, hr, ha]

theorem setRec_same (hr : s.rec? i = some r) : setRec i (some r) s = s := by
  have h : s.slots.set i (some r) = s.slots := by
    ext1 k hk
    by_cases hki : i.val = k
    · subst hki
      simpa [State.rec?] using hr.symm
    · rw [Vector.getElem_set_ne _ _ hki]
  unfold setRec
  rw [h]

/-- A top-up has no room under a cap of 0 (R72, R73). -/
theorem topUp_dry (hr : s.rec? i = some r) (hc : r.cap = some 0) (ha : r.allowance = 0) :
    topUp i s = s ∨ topUp i s = { s with dev := { s.dev with poolEmpty := true } } := by
  have hg : ∀ n, grantTo i n s = s := fun n => by
    have hz : grantMoves r s.meter.pool n = 0 := by simp [grantMoves, hc]
    have hu : updRec i (fun r => { r with allowance := r.allowance + 0 }) s = s := by
      simp only [updRec, hr]
      exact setRec_same hr
    unfold grantTo
    rw [hr]
    dsimp only
    rw [hz]
    show leaveLapsed i (updRec i (fun r => { r with allowance := r.allowance + 0 }) s) = s
    rw [hu]
    exact leaveLapsed_dry hr ha
  unfold topUp
  rw [hr]
  dsimp only
  split
  · exact .inl rfl
  · split
    · exact .inr rfl
    · exact .inl (hg _)

/-- A record that lapses under a cap of 0 stays LAPSED, with its flag (R18). -/
theorem lapse_dry (hr : s.rec? i = some r) (hc : r.cap = some 0) (ha : r.allowance = 0) (hst : r.st ≠ .lapsed) :
    (∃ q, (lapse i s).rec? i = some q ∧ q.st = .lapsed ∧ q.has .lapsed = true ∧ q.worth = r.worth) ∧
      (lapse i s).meter = s.meter ∧ (lapse i s).arbiter = (leaveService i s).arbiter := by
  have hl := rec?_leaveService hr
  have hrec : (raiseFlag i .lapsed (enter .lapsed i (leaveService i s))).rec? i = _ :=
    (rec?_updRec_self i (Record.raise .lapsed) _).trans
      (congrArg _ (rec?_enterState hl false (by exact hst) (by decide)))
  generalize hq : enteredRec false .lapsed (leaveService i s)
    { r with admitted := if r.st = .fed then none else r.admitted } = q at hrec
  have hqs : q.st = .lapsed ∧ q.worth = r.worth := by rw [← hq]; exact ⟨rfl, rfl⟩
  have hflag : (q.raise .lapsed).has .lapsed = true ∧ (q.raise .lapsed).st = q.st :=
    ⟨has_raise .lapsed q, by unfold Record.raise; split <;> rfl⟩
  have hw : (q.raise .lapsed).worth = r.worth := (raise_worth ..).trans hqs.2
  have hmeter : (raiseFlag i .lapsed (enter .lapsed i (leaveService i s))).meter = s.meter :=
    (congrArg Prod.snd (purse_updRec (fun r => raise_worth .lapsed r) i i _) :).trans
      ((congrArg Frame.meter (frame_enter ..)).trans (congrArg Frame.meter (frame_leaveService i s)))
  have harb : (raiseFlag i .lapsed (enter .lapsed i (leaveService i s))).arbiter = (leaveService i s).arbiter :=
    (congrArg Ties.arbiter (ties_raiseFlag ..)).trans (congrArg Ties.arbiter (ties_enter (by decide) ..))
  have hcap : (q.raise .lapsed).cap = some 0 := (congrArg (fun w => w.2.1) hw).trans hc
  have hall : (q.raise .lapsed).allowance = 0 := (congrArg (fun w => w.2.2) hw).trans ha
  unfold lapse
  obtain h | h := topUp_dry hrec hcap hall
  · rw [h]
    exact ⟨⟨_, hrec, hflag.2.trans hqs.1, hflag.1, hw⟩, hmeter, harb⟩
  · rw [h]
    exact ⟨⟨_, hrec, hflag.2.trans hqs.1, hflag.1, hw⟩, hmeter, harb⟩

/-- The cap is stored or removed, and an allowance above it is cut to it, to the pool (R18). -/
theorem rec?_amendCapWork (hr : s.rec? i = some r) (c : Option Nat) : ∃ q, (amendCapWork c i s).rec? i = some q ∧
    q.worth = (r.ceiling, c, (c.map fun n => min n r.allowance).getD r.allowance) ∧
    (amendCapWork c i s).meter = { s.meter with pool := s.meter.pool + (r.allowance - q.allowance) } := by
  unfold amendCapWork
  rw [hr]
  cases c with
  | none => exact ⟨_, rec?_setRec_self .., rfl, by simp⟩
  | some c =>
    dsimp only
    by_cases hc : c < r.allowance
    · have hmin : min c r.allowance = c := by omega
      rw [if_pos hc]
      by_cases hl : c = 0 ∧ (r.st = .fed ∨ r.st = .waiting)
      · rw [if_pos hl]
        generalize ht : ({ setRec i (some { r with cap := some c, allowance := c }) s with
          meter := { s.meter with pool := s.meter.pool + (r.allowance - c) } } : State) = t
        have hrt : t.rec? i = some { r with cap := some c, allowance := c } := by rw [← ht]; exact rec?_setRec_self ..
        have hmt : t.meter = { s.meter with pool := s.meter.pool + (r.allowance - c) } := by rw [← ht]
        have hne : r.st ≠ .lapsed := fun h => by rw [h] at hl; rcases hl.2 with h | h <;> cases h
        obtain ⟨⟨q, hq, -, -, hw⟩, hm, -⟩ := lapse_dry hrt (congrArg some hl.1) hl.1 hne
        have hqa : q.allowance = c := (congrArg (fun w => w.2.2) hw :)
        refine ⟨q, ?_, ?_, ?_⟩
        · rw [← ht] at hq; exact hq
        · rw [hw]; simp [Record.worth, hmin]
        · rw [← ht] at hm hmt; rw [hqa]; exact hm.trans hmt
      · rw [if_neg hl]
        exact ⟨_, rec?_setRec_self .., by simp [Record.worth, hmin], rfl⟩
    · have hmin : min c r.allowance = r.allowance := by omega
      rw [if_neg hc]
      exact ⟨_, rec?_setRec_self .., by simp [Record.worth, hmin], by simp⟩

/-- A cut to 0 makes a FED or WAITING record lapse (R18). -/
theorem amendCapWork_cut (hr : s.rec? i = some r) (ha : 0 < r.allowance) (hst : r.st = .fed ∨ r.st = .waiting) :
    ∃ t, amendCapWork (some 0) i s = lapse i t ∧ t.rec? i = some { r with cap := some 0, allowance := 0 } ∧
      t.arbiter = s.arbiter := by
  refine ⟨{ setRec i (some { r with cap := some 0, allowance := 0 }) s with
    meter := { s.meter with pool := s.meter.pool + (r.allowance - 0) } }, ?_, rec?_setRec_self .., rfl⟩
  unfold amendCapWork
  rw [hr]
  dsimp only
  rw [if_pos ha, if_pos ⟨rfl, hst⟩]
  rfl

/-- A cap that cuts nothing is stored, and no more (R18). -/
theorem amendCapWork_store (hr : s.rec? i = some r) {c : Option Nat} (h : ∀ n, c = some n → r.allowance ≤ n) :
    amendCapWork c i s = setRec i (some { r with cap := c }) s := by
  unfold amendCapWork
  rw [hr]
  cases c with
  | none => rfl
  | some n => exact if_neg (Nat.not_lt.mpr (h n rfl))

/-- A record that has left service waits in no queue. -/
theorem leaveService_aside (h : i ∈ s.arbiter.queue → s.stOf i = some .waiting) :
    i ∉ (leaveService i s).arbiter.queue := by
  unfold leaveService
  split
  · next hf =>
    have hq : (releaseFeed i s).arbiter = _ := congrArg Ties.arbiter (ties_releaseFeed i s)
    rw [hq]
    intro hi
    have := h hi
    rw [hf] at this
    cases this
  · exact fun hi => by simpa using (List.mem_filter.mp hi).2
  · next hw => exact fun hi => hw (h hi)

end Ceiling

/-! ### What the requests leave -/

section Requests

variable {s t : State} {i : Idx} {q : Record}

/-- A slot's record across the end of an event, by its worth. -/
theorem worth_finishEvent (hq : t.rec? i = some q) (b : State) :
    ∃ q', (finishEvent b t).rec? i = some q' ∧ q'.worth = q.worth := by
  have h := congrArg Prod.fst (purse_finishEvent (i := i) b t)
  unfold State.purse at h
  rw [hq] at h
  exact Option.map_eq_some_iff.mp h

end Requests

/-- Settles O20: the ceiling is the purse's first part, which no other change of the frame writes. -/
theorem amendCeiling : Obligations.AmendCeiling := by
  unfold Obligations.AmendCeiling
  intro fr index i r s h hi hr
  have hr' : s.taken.rec? i = some r := hr
  refine ⟨fun hf => congrArg Host.Outcome.next (request_plain (t := s.taken) h hf
    (amendOwner_accepts (l := []) hi rfl hr rfl) h.2.1), fun v also hf hfit href => ?_⟩
  have hstatus : (if v.toNat < 50 ∨ 1000 < v.toNat then ReplyStatus.clamped else .done) =
      doneOr (ceilingClamped (.ceiling v :: also)) := by
    have hc : ceilingClamped (.ceiling v :: also) = decide (clampTo 50 1000 v.toNat ≠ v.toNat) := rfl
    have hiff : clampTo 50 1000 v.toNat ≠ v.toNat ↔ v.toNat < 50 ∨ 1000 < v.toNat := by
      rw [ne_eq, clampTo_eq_iff (by decide)]
      omega
    rw [hc]
    simp only [hiff, doneOr, decide_eq_true_eq]
  dsimp only
  rw [hstatus]
  constructor
  · obtain ⟨b, hb, hk⟩ := amend_accepted (c := .amendCeiling fr index (some v) also) rfl h hf hi hfit hr href
    obtain ⟨hrc, -⟩ := rec?_amendCeilingWork hr' v.toNat
    have hw : ∃ q, (amendWork (.ceiling v :: also) i s.taken).rec? i = some q ∧ q.ceiling = clampTo 50 1000 v.toNat := by
      have hp := congrArg Prod.fst (purse_amendWork (i := i) hfit s.taken)
      have hl : amendLimits (.ceiling v :: also) i s.taken = match capIn (.ceiling v :: also) with
          | some c => amendCapWork c i (amendCeilingWork v.toNat i s.taken)
          | none => amendCeilingWork v.toNat i s.taken := rfl
      have hlim : ∃ q, (amendLimits (.ceiling v :: also) i s.taken).rec? i = some q ∧
          q.ceiling = clampTo 50 1000 v.toNat := by
        rw [hl]
        cases capIn (.ceiling v :: also) with
        | none => exact ⟨_, hrc, rfl⟩
        | some c =>
          obtain ⟨q, hq, hw, -⟩ := rec?_amendCapWork hrc c
          exact ⟨q, hq, (congrArg Prod.fst hw :)⟩
      obtain ⟨q', hq', hc'⟩ := hlim
      unfold State.purse at hp
      dsimp only at hp
      rw [hq'] at hp
      obtain ⟨q, hq, hw⟩ := Option.map_eq_some_iff.mp hp
      exact ⟨q, hq, (congrArg Prod.fst hw :).trans hc'⟩
    obtain ⟨q, hq, hqc⟩ := hw
    obtain ⟨q', hq', hw'⟩ := worth_finishEvent hq b
    exact ⟨_, q', hb, hq', (congrArg Prod.fst hw' :).trans hqc, rfl, hk⟩
  · intro hal hst
    subst hal
    have hwork : amendWork [.ceiling v] i s.taken =
        setRec i (some { r with ceiling := max 50 (min 1000 v.toNat) }) s.taken := by
      have hu : updRec i (fun r => { r with ceiling := clampTo 50 1000 v.toNat }) s.taken =
          setRec i (some { r with ceiling := max 50 (min 1000 v.toNat) }) s.taken := by
        simp only [updRec, hr']
        rfl
      have hnw : (setRec i (some { r with ceiling := max 50 (min 1000 v.toNat) }) s.taken).isIn .waiting i = false := by
        simp [State.isIn, State.stOf, hst]
      show amendCeilingWork v.toNat i s.taken = _
      unfold amendCeilingWork
      dsimp only
      rw [hu, hnw]
      rfl
    have ho := amendOwner_accepts hi hfit hr href
    rw [hwork] at ho
    exact congrArg Host.Outcome.next (request_plain (owner := amendOwner index [.ceiling v]) h hf ho h.2.1)

/-- Settles O21: the cap's work is the only one that writes the cap, the allowance and the pool; the top-up of a record
that it makes lapse has no room under a cap of 0. -/
theorem amendCap : Obligations.AmendCap := by
  unfold Obligations.AmendCap
  intro fr index i r cap also s h hi hr hf hfit href
  obtain ⟨b, hb, hk⟩ := amend_accepted (c := .amendCap fr index cap also) rfl h hf hi hfit hr href
  have hceil : ∃ t r', t.rec? i = some r' ∧ r'.allowance = r.allowance ∧ t.meter = s.meter ∧
      amendLimits (capChange cap :: also) i s.taken = amendCapWork (cap.map BitVec.toNat) i t := by
    unfold amendLimits
    rw [show capIn (capChange cap :: also) = some (cap.map BitVec.toNat) by cases cap <;> rfl]
    cases ceilingIn (capChange cap :: also) with
    | none => exact ⟨s.taken, r, hr, rfl, rfl, rfl⟩
    | some v =>
      obtain ⟨h1, h2⟩ := rec?_amendCeilingWork (s := s.taken) hr v
      exact ⟨_, _, h1, rfl, h2, rfl⟩
  obtain ⟨t, r', hr', hra, hrm, hl⟩ := hceil
  obtain ⟨q, hq, hw, hm⟩ := rec?_amendCapWork hr' (cap.map BitVec.toNat)
  have hp' : (amendWork (capChange cap :: also) i s.taken).purse i = (some q.worth,
      { s.meter with pool := s.meter.pool + (r.allowance - q.allowance) }) := by
    rw [purse_amendWork hfit, hl, State.purse, hq, hm, hrm, hra]
    rfl
  have hfin := (purse_finishEvent (i := i) b _).trans hp'
  obtain ⟨q', hq', hw'⟩ := Option.map_eq_some_iff.mp (congrArg Prod.fst hfin :)
  have hqq := hw'.trans hw
  have hall : q'.allowance = match cap with
      | some c => min c.toNat r.allowance
      | none => r.allowance := by
    refine (congrArg (fun w => w.2.2) hqq :).trans ?_
    rw [hra]
    cases cap <;> rfl
  have hsame : q.allowance = q'.allowance := (congrArg (fun w => w.2.2) hw'.symm :)
  refine ⟨_, q', hb, hq', (congrArg (fun w => w.2.1) hqq :), hall, ?_, hk, fun hal hc hpos hst hex => ?_,
    fun hal hsa => ?_⟩
  · rw [← hsame]
    exact (congrArg (fun x => x.2.pool) hfin :)
  · subst hal hc
    obtain ⟨t, ht, hrt, hat⟩ := amendCapWork_cut (s := s.taken) hr hpos hst
    have hne : r.st ≠ .lapsed := fun h => by rw [h] at hst; rcases hst with h | h <;> cases h
    obtain ⟨⟨x, hx, hxs, hxf, -⟩, -, harb⟩ := lapse_dry hrt rfl rfl hne
    rw [← ht] at hx harb
    have haside : i ∉ (amendCapWork (some 0) i s.taken).arbiter.queue := by
      rw [harb]
      refine leaveService_aside fun hi => ?_
      rw [hat] at hi
      have hw := (hex.2 i).mp hi
      simp only [State.stOf, hr, Option.map_some] at hw
      simp only [State.stOf, hrt, Option.map_some]
      exact hw
    obtain ⟨y, hy, hyx⟩ := (steady_finishEvent (fun _ => .inl haside) b).record hx
    have hyq : y = q' := Option.some.inj (hy.symm.trans hq')
    subst hyq
    exact ⟨(congrArg Record.st hyx :).trans hxs, (congrArg (Record.has · .lapsed) hyx :).trans hxf⟩
  · subst hal
    have hwork : amendWork [capChange cap] i s.taken = setRec i (some { r with cap := cap.map BitVec.toNat }) s.taken := by
      have he : amendWork [capChange cap] i s.taken = amendCapWork (cap.map BitVec.toNat) i s.taken := by cases cap <;> rfl
      rw [he]
      refine amendCapWork_store (s := s.taken) hr fun n hn => ?_
      cases cap with
      | none => cases hn
      | some c =>
        cases hn
        rw [hall] at hsa
        exact min_eq_right_iff.mp hsa
    have hcl : ceilingClamped [capChange cap] = false := by cases cap <;> rfl
    have ho := amendOwner_accepts hi hfit hr href
    rw [hwork, hcl] at ho
    exact Host.Outcome.next.inj (hb.symm.trans
      (congrArg Host.Outcome.next (request_plain (owner := amendOwner index [capChange cap]) h hf ho h.2.1)))

end Sys2Proof.Machine
end

section
/-! A record that leaves its port (R21, R24): its exchanges, its places in the collections and its cell; the changes of
the port (R21, R22), and RETIRE (R24). -/

namespace Sys2Proof.Machine

open Sys2Proof

/-! ### A withdrawal -/

section Withdrawal

variable {s t : State} {i : Idx} {r : Record} {p : Port}

/-- An abort leaves the cells but for the call detector, the device flags, the exchange queue and the collections. -/
theorem abortInFlight_leaves (o : ExOutcome) (i : Idx) (s : State) :
    (∀ q : Port, ((abortInFlight o i s).cells[q]).clearCall = (s.cells[q]).clearCall) ∧
      (abortInFlight o i s).dev = s.dev ∧ (abortInFlight o i s).arbiter = s.arbiter := by
  unfold abortInFlight
  split
  · exact ⟨fun _ => rfl, rfl, rfl⟩
  · next e _ =>
    unfold abortEngine
    split
    · exact ⟨fun _ => rfl, rfl, rfl⟩
    · next g _ =>
      have hcut : (cutLine e s).cells = s.cells ∧ (cutLine e s).dev = s.dev := by
        have hs : (sendPart e s).cells = s.cells ∧ (sendPart e s).dev = s.dev := by
          refine ⟨?_, congrArg Frame.dev (frame_sendPart e s)⟩
          obtain h | ⟨g, n, -, -, -, h⟩ := sendPart_cases e s
          · rw [h]
          · rw [h]; exact setEngine_cells ..
        have hl : ∀ l, (setLine e l (sendPart e s)).cells = (sendPart e s).cells ∧
            (setLine e l (sendPart e s)).dev = (sendPart e s).dev := fun l => by cases e <;> exact ⟨rfl, rfl⟩
        unfold cutLine
        dsimp only
        split
        · split
          · exact ⟨(hl _).1.trans hs.1, (hl _).2.trans hs.2⟩
          · exact hs
        · exact hs
      have hfree : ∀ (u : State) (q : Port), ((freeEngine e u).cells[q]).clearCall = (u.cells[q]).clearCall := fun u q => by
        unfold freeEngine
        split
        · rfl
        · next g _ =>
          have hr : ∀ (x : Option Port) (v : State), ((restartCall x v).cells[q]).clearCall = (v.cells[q]).clearCall :=
            fun x v => by
              cases x with
              | none => rfl
              | some x =>
                show ((updCell x Cell.clearCall v).cells[q]).clearCall = _
                rw [cells_updCell]
                split
                · next h => subst h; rfl
                · rfl
          refine (hr g.port _).trans ?_
          have : (dropDue (.complete e) (setEngine e none u)).cells = u.cells := setEngine_cells ..
          simp only [this]
      have hn : ∀ (j : Idx) (x : Exchange) (u : State), (noteSent j x o u).cells = u.cells ∧ (noteSent j x o u).dev = u.dev :=
        fun j x u => by
          unfold noteSent updRec
          split
          · split <;> exact ⟨rfl, rfl⟩
          · exact ⟨rfl, rfl⟩
      refine ⟨fun q => ?_, (hn ..).2.trans ((congrArg Frame.dev (frame_freeEngine ..)).trans hcut.2), ?_⟩
      · have h1 : ((noteSent g.idx g.ex o (freeEngine e (cutLine e s))).cells[q]).clearCall =
            ((freeEngine e (cutLine e s)).cells[q]).clearCall := by simp only [(hn ..).1]
        have h2 : ((cutLine e s).cells[q]).clearCall = (s.cells[q]).clearCall := by simp only [hcut.1]
        exact h1.trans ((hfree _ q).trans h2)
      · have ha : ∀ u : State, (freeEngine e u).arbiter = u.arbiter := fun u => by
          unfold freeEngine
          split
          · rfl
          · next g _ =>
            cases g.port <;> cases e <;> rfl
        exact (congrArg Ties.arbiter (ties_noteSent ..)).trans ((ha _).trans (congrArg Ties.arbiter (ties_cutLine e s)))

theorem cell_congr (h : t.cells = s.cells) (q : Port) : t.cells[q] = s.cells[q] := by simp only [h]

/-- With at most one engine to a record, an abort leaves it none. -/
theorem carries_abortInFlight (h : s.OneEngineEach) (o : ExOutcome) (e : Engine) :
    (abortInFlight o i s).carries i e = false := by
  have one : ∀ x y, s.carries i x = true → s.carries i y = true → x = y := fun x y ha hb => by
    have get : ∀ e, s.carries i e = true → ∃ g, s.engine e = some g ∧ g.idx = i := fun e he => by
      unfold State.carries at he
      cases hg : s.engine e with
      | none => rw [hg] at he; cases he
      | some g => rw [hg] at he; exact ⟨g, rfl, of_decide_eq_true he⟩
    obtain ⟨g, hg, hgi⟩ := get x ha
    obtain ⟨k, hk, hki⟩ := get y hb
    cases x <;> cases y
    · rfl
    · exact absurd (hgi.trans hki.symm) (h g k hg hk)
    · exact absurd (hki.trans hgi.symm) (h k g hk hg)
    · rfl
  unfold abortInFlight
  split
  · next hn => exact (inFlight_none_iff s i).mp hn e
  · next x hx =>
    have hc : s.carries i x = true := List.find?_some hx
    show (match (abortEngine o x s).engine e with
      | some g => decide (g.idx = i)
      | none => false) = false
    rw [engine_abortEngine]
    by_cases he : e = x
    · rw [if_pos he]
    · rw [if_neg he]
      exact Bool.eq_false_iff.mpr fun hce => he (one e x hce hc)

theorem ties_leaveService (i : Idx) (s : State) : (leaveService i s).ties.cargo = s.ties.cargo ∧
    (leaveService i s).link.queue = s.link.queue := by
  unfold leaveService
  split
  · exact ⟨(congrArg Ties.cargo (ties_releaseFeed i s) :), (congrArg Ties.queue (ties_releaseFeed i s) :)⟩
  · exact ⟨rfl, rfl⟩
  · exact ⟨rfl, rfl⟩

theorem carries_withdraw (h : s.OneEngineEach) (e : Engine) : (withdraw i s).carries i e = false := by
  have hc := carries_abortInFlight (i := i) h .aborted e
  rw [carries_eq] at hc ⊢
  rw [withdraw, (ties_leaveService ..).1, ties_dropPending]
  exact hc

theorem queue_withdraw (i : Idx) (s : State) : i ∉ (withdraw i s).link.queue := by
  rw [withdraw, (ties_leaveService ..).2]
  have hq : (dropPending i (abortInFlight .aborted i s)).link.queue = _ := congrArg Ties.queue (ties_dropPending ..)
  rw [hq]
  exact fun hm => by simpa using (List.mem_filter.mp hm).2

/-- A record that has left service stands in neither of the arbiter's collections. -/
theorem leaveService_unfed (h : i ∈ s.arbiter.feedList → s.stOf i = some .fed) :
    i ∉ (leaveService i s).arbiter.feedList := by
  unfold leaveService
  split
  · have hq : (releaseFeed i s).arbiter = _ := congrArg Ties.arbiter (ties_releaseFeed i s)
    rw [hq]
    exact fun hm => by simpa using (List.mem_filter.mp hm).2
  · next hw =>
    intro hi
    have := h hi
    rw [hw] at this
    cases this
  · next hf _ => exact fun hi => hf (h hi)

theorem arbiter_withdraw (i : Idx) (s : State) :
    (s.AdmissionQueueExact → i ∉ (withdraw i s).arbiter.queue) ∧ (s.FeedListExact → i ∉ (withdraw i s).arbiter.feedList) := by
  have ha : (dropPending i (abortInFlight .aborted i s)).arbiter = s.arbiter :=
    (congrArg Ties.arbiter (ties_dropPending ..)).trans (abortInFlight_leaves ..).2.2
  have hst : (dropPending i (abortInFlight .aborted i s)).stOf i = s.stOf i := stOf_congr (by simp) i
  constructor
  · intro h
    exact leaveService_aside fun hi => hst.trans ((h.2 i).mp (ha ▸ hi))
  · intro h
    exact leaveService_unfed fun hi => hst.trans ((h.2.1 i).mp (ha ▸ hi))

theorem withdraw_leaves (i : Idx) (s : State) :
    (∀ q : Port, ((withdraw i s).cells[q]).clearCall = (s.cells[q]).clearCall) ∧ (withdraw i s).dev = s.dev := by
  have hu : ∀ (f : Record → Record) (u : State), (updRec i f u).cells = u.cells := fun f u => by
    unfold updRec
    split <;> rfl
  have hl : ∀ u : State, (leaveService i u).cells = u.cells := fun u => by
    unfold leaveService
    split
    · exact hu (fun r => { r with admitted := none }) u
    · rfl
    · rfl
  have hd : (withdraw i s).cells = (abortInFlight .aborted i s).cells :=
    (hl _).trans (hu (fun r => { r with pend := none }) _)
  obtain ⟨hc, hdev, -⟩ := abortInFlight_leaves .aborted i s
  refine ⟨fun q => ?_, ?_⟩
  · simp only [hd]
    exact hc q
  · exact (congrArg Frame.dev (frame_leaveService ..)).trans ((congrArg Frame.dev (frame_dropPending ..)).trans hdev)

/-- What the call detector is no part of. -/
theorem clearCall_eq {c d : Cell} (h : c.clearCall = d.clearCall) : c.drive = d.drive ∧ c.faultCount = d.faultCount ∧
    c.presence = d.presence ∧ c.trip = d.trip :=
  ⟨(congrArg Cell.drive h :), (congrArg Cell.faultCount h :), (congrArg Cell.presence h :), (congrArg Cell.trip h :)⟩

/-- The cell of an abandoned port. -/
theorem abandon_spec (c : Cell) : c.abandon.drive = .off ∧ c.abandon.faultCount = 0 ∧
    (c.drive ≠ .off → c.abandon.presence = .unknown ∧ c.abandon.trip = none) := by
  refine ⟨toLevel_drive 0 .off c, rfl, fun h => ?_⟩
  have he : Cell.toLevel 0 .off c = c.toOff := if_neg h
  unfold Cell.abandon
  rw [he]
  exact ⟨rfl, rfl⟩

/-- A record that no decision reaches, and no other bound to its port: the cell keeps all but its call detector. -/
theorem cells_of_aside (hq : i ∉ t.arbiter.queue) (hport : ∀ j, j ≠ i → t.portOf j = some p → False) (b : State) :
    ((finishEvent b t).cells[p]).clearCall = (t.cells[p]).clearCall :=
  cells_finishEvent (fun _ j hj hp => hport j (fun he => hq (he ▸ hj)) hp) b

end Withdrawal

/-! ### The unbind (R21) -/

section Unbinding

variable {s : State} {i : Idx} {r : Record} {p : Port}

theorem ties_unbindRecord (i : Idx) (s : State) : (unbindRecord i s).ties = (withdraw i s).ties := by
  unfold unbindRecord
  rw [ties_setCountdown, ties_enter (by decide), ties_updRec]

/-- An unbind leaves the cells to the abandoning of its port. -/
theorem cells_unbindRecord (i : Idx) (s : State) (q : Port) :
    ((unbindRecord i s).cells[q]).clearCall = (s.cells[q]).clearCall := by
  have hu : ∀ (f : Record → Record) (u : State), (updRec i f u).cells = u.cells := fun f u => by
    unfold updRec
    split <;> rfl
  have hp : (updRec i (fun r => { r with port := none }) (withdraw i s)).portOf i ≠ some q := by
    unfold State.portOf
    rw [rec?_updRec_self]
    cases (withdraw i s).rec? i <;> simp
  have he : (unbindRecord i s).cells[q] = (withdraw i s).cells[q] := by
    have h1 : (unbindRecord i s).cells =
        (enter .idle i (updRec i (fun r => { r with port := none }) (withdraw i s))).cells := by
      rw [unbindRecord, setCountdown]
      exact (dropDue_cells _ _).trans (hu (fun r => { r with cd := r.cd.stop }) _)
    rw [cell_congr h1, enter, cells_enterState_other hp, cell_congr (hu (fun r => { r with port := none }) (withdraw i s))]
  rw [he]
  exact (withdraw_leaves i s).1 q

theorem meter_unbindWork (i : Idx) (s : State) : (unbindWork i s).meter = s.meter :=
  congrArg Prod.snd (purse_unbindWork (i := i) s)

end Unbinding

/-- The end of an unbind: the withdrawn record stands in no collection, so neither a decision nor a pick reaches it or
its cell. -/
theorem unbindWork_finished {s : State} {i : Idx} {r : Record} {p : Port} (hr : s.rec? i = some r)
    (hp : r.port = some p) (hex : s.AdmissionQueueExact) (hfx : s.FeedListExact) (hone : s.OneEngineEach)
    (huniq : s.UniquePorts) (b : State) :
    (∃ q, (finishEvent b (unbindWork i s)).rec? i = some q ∧ r.Unbinds q) ∧
      (finishEvent b (unbindWork i s)).inFlight i = none ∧ i ∉ (finishEvent b (unbindWork i s)).link.queue ∧
      i ∉ (finishEvent b (unbindWork i s)).arbiter.queue ∧ i ∉ (finishEvent b (unbindWork i s)).arbiter.feedList ∧
      ((finishEvent b (unbindWork i s)).cells[p]).clearCall = ((unbindRecord i s).cells[p]).abandon.clearCall := by
  have hport : s.portOf i = some p := by simp [State.portOf, hr, hp]
  have hpj : ∀ j, j ≠ i → (unbindWork i s).portOf j = some p → False := fun j hj hjp => by
    rw [portOf_eq, roster_unbindWork, if_neg hj, ← portOf_eq] at hjp
    exact hj (huniq j i p hjp hport)
  have hwork : unbindWork i s = updCell p Cell.abandon (unbindRecord i s) := unbindWork_of_port hport
  have hcells : (unbindWork i s).cells[p] = ((unbindRecord i s).cells[p]).abandon := by
    rw [hwork, cells_updCell, if_pos rfl]
  obtain ⟨q, hq, hu⟩ := rec?_unbindRecord hr
  have hrec : (unbindWork i s).rec? i = some q := by
    rw [hwork, rec?_congr (updCell_slots ..), hq]
  have hties : (unbindWork i s).ties = (withdraw i s).ties := by rw [hwork, ties_updCell, ties_unbindRecord]
  obtain ⟨hwq, hwf⟩ := arbiter_withdraw i s
  have hlq := queue_withdraw i s
  have hcar : ∀ e, (unbindWork i s).carries i e = false := fun e => by
    rw [carries_eq, hties, ← carries_eq]
    exact carries_withdraw hone e
  rw [← show (unbindWork i s).arbiter = (withdraw i s).arbiter from congrArg Ties.arbiter hties] at hwq hwf
  rw [← show (unbindWork i s).link.queue = (withdraw i s).link.queue from congrArg Ties.queue hties] at hlq
  rw [← hcells]
  generalize unbindWork i s = u at *
  have hun := untouched_finishEvent (fun _ => .inl (hwq hex)) (by rw [hrec, Option.bind_some, hu.pend]) b
  exact ⟨⟨q, hun.slot.trans hrec, hu⟩, (inFlight_none_iff ..).mpr fun e => hun.carries e (hcar e), hun.queue hlq,
    hun.waits (hwq hex), hun.fed (hwq hex) (hwf hfx), cells_of_aside (hwq hex) hpj b⟩

/-- Settles O24, from the end of an unbind at the owner. -/
theorem unbind : Obligations.Unbind := by
  unfold Obligations.Unbind
  intro fr index i r s h hi hr hf hex hfx hone huniq
  have href : amendRefusal [.unbind] i s = none := rfl
  have ho := amendOwner_accepts hi rfl hr href
  have hwork : amendWork [.unbind] i s.taken = unbindWork i s.taken := rfl
  constructor
  · intro hp
    have hsame : unbindWork i s.taken = s.taken := by
      have hport : s.taken.portOf i = none := by
        show (s.rec? i).bind _ = none
        rw [hr, Option.bind_some, hp]
      rw [unbindWork, hport]
    rw [hwork, hsame] at ho
    exact congrArg Host.Outcome.next (request_plain (owner := amendOwner index [.unbind]) h hf ho h.2.1)
  · intro p hp
    obtain ⟨b, hb, hk⟩ := amend_accepted (c := .unbind fr index []) rfl h hf hi rfl hr href
    obtain ⟨⟨q, hq, hu⟩, hflight, hqueue, hwaits, hfed, hcell⟩ :=
      unbindWork_finished (s := s.taken) hr hp hex hfx hone huniq b
    obtain ⟨h1, h2, h3⟩ := abandon_spec ((unbindRecord i s.taken).cells[p])
    have hm : (finishEvent b (unbindWork i s.taken)).meter = s.meter :=
      (meter_finishEvent b _).trans (meter_unbindWork i s.taken)
    have hadm : q.admitted = none := by
      rw [hu.admitted]
      split
      · rfl
      · next hst => exact Option.not_isSome_iff_eq_none.mp (mt (hfx.2.2 i r hr).mp hst)
    have hds : ((unbindRecord i s.taken).cells[p]).drive = (s.cells[p]).drive :=
      (clearCall_eq (cells_unbindRecord i s.taken p)).1
    rw [hds] at h3
    obtain ⟨c1, c2, c3, c4⟩ := clearCall_eq hcell
    unfold State.served at hb hk
    rw [hwork] at hb hk
    generalize finishEvent b (unbindWork i s.taken) = u at *
    exact ⟨_, q, hb, hq, ⟨hu.port, hu.st, hu.running, hu.remaining, hu.pend, hadm, hu.allowance, hu.cap, hu.soc,
      hu.testOutcome⟩, hflight, hqueue, hwaits, hfed, c1.trans h1, c2.trans h2,
      fun hd => ⟨c3.trans (h3 hd).1, c4.trans (h3 hd).2⟩, rfl, hk, hm⟩

end Sys2Proof.Machine
end

section
/-! RETIRE (R24), and AMEND to a port (R22). -/

namespace Sys2Proof.Machine

open Sys2Proof

/-! ### RETIRE -/

/-- What the steps of R24 leave of the part, for a slot that holds `r`. -/
structure State.Retires (i : Idx) (r : Record) (s t : State) : Prop where
  gone : t.rec? i = none
  terms : ∀ j, j ≠ i → t.terms j = s.terms j
  meter : t.meter = { s.meter with pool := s.meter.pool + r.allowance }
  outer : t.outer = (s.supply, s.clock, s.schedule.filter fun a => decide (a.target ≠ .record i), s.cfg, s.host, s.inReset, s.pending)
  dev : t.dev = s.dev
  ties : t.ties = (withdraw i s).ties
  cells : ∀ p, r.port = some p → t.cells[p] = ((withdraw i s).cells[p]).abandon

theorem ties_congr {s t : State} (hl : t.link = s.link) (ha : t.arbiter = s.arbiter)
    (hd : t.agenda.decision = s.agenda.decision) : t.ties = s.ties := by
  have he : ∀ e, t.engine e = s.engine e := fun e => by unfold State.engine; rw [hl]
  unfold State.ties
  simp only [he, hl, ha, hd]

theorem retireWork_retires {s : State} {i : Idx} {r : Record} (hr : s.rec? i = some r) : s.Retires i r (retireWork i s) := by
  obtain ⟨f, b, y, hw⟩ := rec?_withdraw hr
  have hin : s.Within i (∅ : Set Port) (withdraw i s) := .withdraw s
  have hp : s.portOf i = r.port := by simp [State.portOf, hr]
  have hmeter : (withdraw i s).meter = s.meter := congrArg Prod.snd (purse_withdraw (i := i) s)
  have hdev := (withdraw_leaves i s).2
  have hterms : ∀ j, j ≠ i → ∀ t : State, t.slots = (withdraw i s).slots → (setRec i none t).terms j = s.terms j :=
    fun j hj t ht => by
      rw [← hin.terms j hj]
      unfold State.terms
      rw [rec?_setRec, if_neg hj, rec?_congr ht]
  have houter := hin.outer
  simp only [State.outer, Prod.mk.injEq] at houter
  obtain ⟨h1, h2, h3, h4, h5, h6, h7⟩ := houter
  unfold retireWork
  generalize hwd : withdraw i s = w at *
  dsimp only
  have hd : (dropAppointments i w).rec? i = w.rec? i := rfl
  rw [hd, hw, hp]
  dsimp only
  cases hport : r.port with
  | none =>
    exact ⟨rec?_setRec_self .., fun j hj => hterms j hj _ rfl, by rw [← hmeter]; rfl,
      by rw [← h1, ← h2, ← h3, ← h4, ← h5, ← h6, ← h7]; rfl, hdev, (by rw [hwd]; exact ties_congr rfl rfl rfl),
      fun q hq => by rw [hport] at hq; cases hq⟩
  | some p =>
    exact ⟨rec?_setRec_self .., fun j hj => hterms j hj _ rfl, by rw [← hmeter]; rfl,
      by rw [← h1, ← h2, ← h3, ← h4, ← h5, ← h6, ← h7]; rfl, hdev,
      (by rw [hwd]; exact ties_congr rfl rfl rfl), fun q hq => by
        cases hport.symm.trans hq
        show (updCell p Cell.abandon _).cells[p] = _
        rw [cells_updCell, if_pos rfl, hwd]
        rfl⟩

/-- Settles O26: the slot is free behind the steps of R24, so the event's end cannot reach it. -/
theorem retire : Obligations.Retire := by
  unfold Obligations.Retire
  intro fr index s h hf
  have refused : ∀ st, retireOwner index s.taken = refuse st s.taken →
      exec (.retire fr index) s = .next (s.replied s ⟨st, []⟩) := fun st ho =>
    congrArg Host.Outcome.next (request_answer (owner := retireOwner index) h hf ho)
  refine ⟨fun hx => refused _ (by rw [retireOwner, idxOf_none.mpr hx]), fun i hi => ⟨fun hr => refused _ ?_, fun r hr => ?_⟩⟩
  · have hr' : s.taken.rec? i = none := hr
    simp only [retireOwner, idxOf_some hi, hr']
  · have hr' : s.taken.rec? i = some r := hr
    have ho : retireOwner index s.taken = ⟨retireWork i s.taken, some fun _ => ⟨.done, []⟩⟩ := by
      simp only [retireOwner, idxOf_some hi, hr']
    have hret := retireWork_retires hr'
    have hport : ∀ j, j ≠ i → (retireWork i s.taken).portOf j = s.taken.portOf j := fun j hj => by
      rw [portOf_eq, roster_retireWork, if_neg hj, ← portOf_eq]
    have hhost : (retireWork i s.taken).host = s.taken.host := congrArg (fun o => o.2.2.2.2.1) hret.outer
    obtain ⟨b, hb⟩ := exec_accepted (c := .retire fr index) rfl h hf ho hhost
    obtain ⟨hwq, hwf⟩ := arbiter_withdraw i s.taken
    have hlq := queue_withdraw i s.taken
    have hcar : s.OneEngineEach → ∀ e, (retireWork i s.taken).carries i e = false := fun hone e => by
      rw [carries_eq, hret.ties, ← carries_eq]
      exact carries_withdraw (s := s.taken) hone e
    have hwc := (withdraw_leaves i s.taken).1
    have harb : (retireWork i s.taken).arbiter = (withdraw i s.taken).arbiter := congrArg Ties.arbiter hret.ties
    have hqueue : (retireWork i s.taken).link.queue = (withdraw i s.taken).link.queue := congrArg Ties.queue hret.ties
    rw [← harb] at hwq hwf
    rw [← hqueue] at hlq
    obtain ⟨hgone, hterms, hmeter, houter, hdev, -, hcells⟩ := hret
    unfold State.served at hb
    generalize withdraw i s.taken = w at *
    generalize retireWork i s.taken = v at *
    have hun := untouched_finishEvent (t := v) (i := i) (fun _ => .inr hgone) (by rw [hgone]; rfl) b
    have hframe := frame_finishEvent b v
    have hcell : s.UniquePorts → ∀ p, r.port = some p →
        (finishEvent b v).cells[p].drive = .off ∧ (finishEvent b v).cells[p].faultCount = 0 := fun hu p hp => by
      have hpi : s.portOf i = some p := by simp [State.portOf, hr, hp]
      have hc := cells_finishEvent (t := v) (p := p) (fun _ j _ hj => by
        by_cases hji : j = i
        · have hn : v.portOf i = none := by simp [State.portOf, hgone]
          rw [hji, hn] at hj
          cases hj
        · exact hji (hu j i p ((hport j hji).symm.trans hj) hpi)) b
      rw [hcells p hp] at hc
      obtain ⟨c1, c2, -⟩ := clearCall_eq hc
      obtain ⟨h1, h2, -⟩ := abandon_spec (w.cells[p])
      exact ⟨c1.trans h1, c2.trans h2⟩
    have hterms' : ∀ j, j ≠ i → (finishEvent b v).terms j = s.terms j := fun j hj =>
      (congrFun (congrArg Frame.terms hframe) j).trans (hterms j hj)
    have houter' := (congrArg Frame.outer hframe).trans houter
    have hmeter' := (congrArg Frame.meter hframe).trans hmeter
    have hdev' := (congrArg Frame.dev hframe).trans hdev
    generalize finishEvent b v = u at *
    simp only [State.frame, State.outer, Prod.mk.injEq] at houter'
    obtain ⟨h1, h2, h3, h4, -⟩ := houter'
    exact ⟨_, hb, hun.slot.trans hgone, hmeter', h3, hun.queue hlq,
      fun hone => (inFlight_none_iff u i).mpr fun e => hun.carries e (hcar hone e), hcell,
      fun hq hfx => ⟨hun.waits (hwq hq), hun.fed (hwq hq) (hwf hfx)⟩, rfl, (othersKept_iff i s u).mpr hterms', h1, h2, h4,
      hdev'⟩


/-! ### AMEND to a port -/

section Binding

variable {s t : State} {i : Idx} {r : Record} {p : Port}

/-- A record behind an unbind is IDLE and waits in no queue (R21); one with no port is so already. -/
theorem unbindWork_idle (hr : s.rec? i = some r) (hex : s.AdmissionQueueExact) (hidle : r.port = none → r.st = .idle) :
    (∃ q, (unbindWork i s).rec? i = some q ∧ q.st = .idle) ∧ i ∉ (unbindWork i s).arbiter.queue := by
  cases hp : s.portOf i with
  | none =>
    have hn : r.port = none := by simpa [State.portOf, hr] using hp
    rw [unbindWork, hp]
    refine ⟨⟨r, hr, hidle hn⟩, fun hi => ?_⟩
    have hw := (hex.2 i).mp hi
    simp [State.stOf, hr, hidle hn] at hw
  | some x =>
    obtain ⟨q, hq, hu⟩ := rec?_unbindRecord hr
    have hties : (unbindWork i s).ties = (withdraw i s).ties := by
      rw [unbindWork_of_port hp, ties_updCell, ties_unbindRecord]
    refine ⟨⟨q, ?_, hu.st⟩, ?_⟩
    · rw [unbindWork_of_port hp, rec?_congr (updCell_slots ..), hq]
    · rw [show (unbindWork i s).arbiter = _ from congrArg Ties.arbiter hties]
      exact (arbiter_withdraw i s).1 hex

/-- The record is put on the port, IDLE and ahead of the entry of the mode (R22). -/
def placed (p : Port) (i : Idx) (s : State) : State := updRec i (fun r => { r with port := some p }) (unbindWork i s)

theorem bindWork_new (h : s.portOf i ≠ some p) : bindWork p i s = enterByMode i (placed p i s) := if_neg h

theorem placed_spec (hr : s.rec? i = some r) (hex : s.AdmissionQueueExact) (hidle : r.port = none → r.st = .idle)
    (hfree : ∀ j, s.portOf j = some p → j = i) :
    (∃ q, (placed p i s).rec? i = some q ∧ q.st = .idle ∧ q.port = some p) ∧ i ∉ (placed p i s).arbiter.queue ∧
      (∀ j, j ≠ i → (placed p i s).portOf j = some p → False) ∧ (placed p i s).supply.mode = s.supply.mode := by
  obtain ⟨⟨q, hq, hst⟩, hnq⟩ := unbindWork_idle hr hex hidle
  refine ⟨⟨_, (rec?_updRec_self ..).trans (congrArg _ hq), hst, rfl⟩, ?_, fun j hj hp => ?_, ?_⟩
  · rw [show (placed p i s).arbiter = (unbindWork i s).arbiter from congrArg Ties.arbiter (ties_updRec ..)]
    exact hnq
  · rw [portOf_eq, placed, roster_updRec, if_neg hj, roster_unbindWork, if_neg hj, ← portOf_eq] at hp
    exact hj (hfree j hp)
  · have hu := (untabled_updRec i (fun r => { r with port := some p }) (unbindWork i s)).trans (untabled_unbindWork i s)
    exact congrArg (fun f : Fixed => f.supply.mode) hu

theorem portOf_enterByMode (s : State) (j : Idx) : (enterByMode i s).portOf j = s.portOf j := by
  rw [portOf_eq, portOf_eq, roster_of_fixed (fixed_of_frame (frame_enterByMode i s))]

theorem State.Steady.agrees {q : Record} (h : s.Steady i t) (hr : s.rec? i = some r) (hq : t.rec? i = some q) :
    q.unpended = r.unpended := by
  obtain ⟨x, hx, hu⟩ := h.record hr
  cases Option.some.inj (hx.symm.trans hq)
  exact hu

end Binding

/-- Settles O23: the record is withdrawn and put on the port, and the entry of the mode follows; no decision reaches the
record or its new cell. -/
theorem amendPort : Obligations.AmendPort := by
  unfold Obligations.AmendPort
  intro fr index i r p s h hi hr hf hfree hex hidle
  have href : amendRefusal [.port (portByte p)] i s = none := by
    have htk : s.takenByOther i p = false := by
      cases hb : s.boundAt p with
      | none => simp [State.takenByOther, hb]
      | some j => simp [State.takenByOther, hb, hfree j (portOf_of_boundAt hb)]
    have hport : portIn [.port (portByte p)] = some (portByte p) := rfl
    have hfault : faultIn [.port (portByte p)] = false := rfl
    simp [amendRefusal, hport, hfault, portOfByte_portByte, htk]
  have hfit : changesFit [.port (portByte p)] = true := rfl
  have hwork : amendWork [.port (portByte p)] i s.taken = bindWork p i s.taken := by
    have hport : (portIn [.port (portByte p)]).bind portOfByte = some p := portOfByte_portByte p
    unfold amendWork
    rw [hport]
    rfl
  have hr' : s.taken.rec? i = some r := hr
  have hpi : s.taken.portOf i = r.port := by simp [State.portOf, hr']
  have ho := amendOwner_accepts hi hfit hr href
  rw [hwork] at ho
  constructor
  · intro hp
    have hsame : bindWork p i s.taken = s.taken := if_pos (hpi.trans hp)
    rw [hsame] at ho
    exact congrArg Host.Outcome.next (request_plain (owner := amendOwner index [.port (portByte p)]) h hf ho h.2.1)
  · intro hp
    obtain ⟨b, hb, hk⟩ := amend_accepted (c := .amendPort fr index (portByte p) []) rfl h hf hi hfit hr href
    rw [hwork] at hb hk
    have hpurse : (finishEvent b (bindWork p i s.taken)).purse i = s.purse i :=
      (purse_finishEvent b _).trans (purse_bindWork p s.taken)
    obtain ⟨⟨x, hx, hxs, hxp⟩, hnq, hpj, hmode⟩ := placed_spec hr' hex hidle hfree
    have hmode : (placed p i s.taken).supply.mode = s.supply.mode := hmode
    rw [bindWork_new (by rw [hpi]; exact hp)] at hb hk hpurse
    unfold State.served at hb hk
    generalize placed p i s.taken = v at *
    have harb : i ∉ (enterByMode i v).arbiter.queue := by rw [(ties_enterByMode i v).2.1]; exact hnq
    have hcell := cells_of_aside harb (fun j hj hjp => hpj j hj ((portOf_enterByMode v j).symm.trans hjp)) b
    have hsteady := steady_finishEvent (t := enterByMode i v) (i := i) (fun _ => .inl harb) b
    have hterms : (finishEvent b (enterByMode i v)).terms i = v.terms i :=
      congrFun (congrArg Frame.terms ((frame_finishEvent b _).trans (frame_enterByMode i v))) i
    obtain ⟨q, hq, hqt⟩ := rec?_of_terms hterms hx
    have hw : q.worth = r.worth := by
      have h1 := congrArg Prod.fst hpurse
      simp only [State.purse, hq, hr] at h1
      exact Option.some.inj h1
    have hm : (finishEvent b (enterByMode i v)).meter = s.meter := congrArg Prod.snd hpurse
    have hidle' : v.supply.mode = .mains → q.st = .idle := fun hmm => by
      have he : enterByMode i v = v := by rw [enterByMode, hmm]
      have hu := hsteady.agrees (r := x) (by rw [he, hx]) hq
      exact (congrArg Record.st hu :).trans hxs
    have hsilent : v.supply.mode = .depleted → q.st = .silent ∧ q.cd.running = false ∧
        (finishEvent b (enterByMode i v)).cells[p].drive = .off := fun hmm => by
      obtain ⟨h1, h2, h3⟩ := enterByMode_silent hx (by rw [hxs]; decide) hmm
      have hu := hsteady.agrees h1 hq
      exact ⟨(congrArg Record.st hu :), (congrArg (fun r => r.cd.running) hu :).trans h2,
        (clearCall_eq hcell).1.trans (h3 p hxp)⟩
    have hwoken : v.supply.mode = .outage ∨ v.supply.mode = .critical → q.st = .waking ∧
        (finishEvent b (enterByMode i v)).Holds i .wake 0 ∧
        (finishEvent b (enterByMode i v)).cells[p].drive = .sense := fun hmm => by
      obtain ⟨⟨y, h1⟩, h2, h3⟩ := enterByMode_woken hx (by rw [hxs]; decide) hmm
      have hu := hsteady.agrees h1 hq
      exact ⟨(congrArg Record.st hu :), hsteady.holds _ _ h2, (clearCall_eq hcell).1.trans (h3 p hxp)⟩
    rw [hmode] at hidle' hsilent hwoken
    generalize finishEvent b (enterByMode i v) = u at *
    exact ⟨_, q, hb, hq, (congrArg Record.port hqt :).trans hxp, (congrArg (fun w => w.2.2) hw :),
      (congrArg (fun w => w.2.1) hw :), rfl, hk, hm, hidle', hsilent, hwoken⟩

end Sys2Proof.Machine
end

section
/-! AMEND of the class (R19, R20). -/

namespace Sys2Proof.Machine

open Sys2Proof

section ClassChange

variable {s t : State} {i : Idx} {r : Record} {c : Cls}

/-- A WAITING record is WAITING or FED behind the end of an event. -/
theorem waiting_finishEvent (hr : t.rec? i = some r) (hst : r.st = .waiting) (b : State) {q : Record}
    (hq : (finishEvent b t).rec? i = some q) : q.st = .waiting ∨ q.st = .fed := by
  have hd : ∃ x, (decided t).rec? i = some x ∧ (x.st = .waiting ∨ x.st = .fed) := by
    unfold decided
    split
    · refine decide_keeps (Q := fun u => ∃ x, u.rec? i = some x ∧ (x.st = .waiting ∨ x.st = .fed))
        (fun u j _ ⟨x, hx, hxs⟩ => ?_) ⟨r, hr, .inl hst⟩
      by_cases hij : i = j
      · subst hij
        have hslot : (admitSlot i u).rec? i = some { x with admitted := some x.ceiling } := by
          refine (rec?_updRec_self ..).trans ?_
          show Option.map _ (u.rec? i) = _
          rw [hx]
          rfl
        have he : ∃ y, (enter .fed i (admitSlot i u)).rec? i = some y ∧ y.st = .fed := by
          by_cases hf : x.st = .fed
          · exact ⟨{ x with admitted := some x.ceiling }, by rw [enter, enterState_same hslot (by exact hf), hslot], hf⟩
          · exact ⟨_, rec?_enterState hslot false (by exact hf) (by decide), rfl⟩
        obtain ⟨y, hy, hys⟩ := he
        obtain ⟨hn, -⟩ | ⟨x', -, h | ⟨e, -, h⟩⟩ := admitMember_cases i u
        · rw [hx] at hn; cases hn
        · exact ⟨y, by rw [h, hy], .inr hys⟩
        · obtain ⟨z, hz⟩ := rec?_ask hy e
          exact ⟨{ y with pend := z }, by rw [h, hz], .inr hys⟩
      · exact ⟨x, (rec?_admitMember_other hij u).trans hx, hxs⟩
    · exact ⟨r, hr, .inl hst⟩
  obtain ⟨x, hx, hxs⟩ := hd
  have hqx : q.st = x.st := by
    obtain he | he := finishEvent_cases b t
    · rw [he] at hq
      cases Option.some.inj (hx.symm.trans hq)
      rfl
    · rw [he] at hq
      exact (congrArg Record.st ((steady_pickBoth i (decided t)).agrees hx hq) :)
  rw [hqx]
  exact hxs

/-- A class stored, and a WAITING record moved to the tail of its new group (R19). -/
def reclassed (i : Idx) (r : Record) (c : Cls) (s : State) : State :=
  let t := setRec i (some { r with cls := c }) s
  if r.st = .waiting then joinTail i (leaveQueue i t) else t

theorem amendClassWork_new (hr : s.rec? i = some r) (hc : r.cls ≠ c) : amendClassWork c i s =
    if s.supply.mode = .critical ∧ r.cls = .lifeline then criticalClassChange i (reclassed i r c s)
    else reclassed i r c s := by
  unfold amendClassWork
  rw [hr]
  dsimp only
  rw [if_neg hc]
  rfl

theorem rec?_reclassed (i : Idx) (r : Record) (c : Cls) (s : State) :
    (reclassed i r c s).rec? i = some { r with cls := c } := by
  unfold reclassed
  dsimp only
  split
  · exact rec?_setRec_self ..
  · exact rec?_setRec_self ..

/-- The orders of R20 leave a slot that held `r` with `q`. -/
structure RestOrders (i : Idx) (r : Record) (t : State) (q : Record) : Prop where
  slot : t.rec? i = some q
  cls : q.cls = r.cls
  aside : i ∉ t.arbiter.queue
  moved : r.st = .fed ∨ r.st = .waiting ∨ r.st = .testing → q.st = .carrying ∧ t.Holds i .rest 0
  stays : r.st = .carrying ∨ r.st = .lapsed → q.st = r.st ∧ t.Holds i .rest 0
  tested : r.st = .testing → q.testOutcome = some .abandoned ∧ q.has .tested = true

/-- A record that gives up its service is CARRYING with a REST (R20). -/
theorem restOrders_moved {u : State} {x : Record} (hx : u.rec? i = some x) (hne : x.st ≠ .carrying) (hcls : x.cls = r.cls)
    (hq : i ∉ u.arbiter.queue) (hst : r.st = .fed ∨ r.st = .waiting ∨ r.st = .testing)
    (ht : r.st = .testing → x.testOutcome = some .abandoned ∧ x.has .tested = true) :
    ∃ q, RestOrders i r (order .rest i (enter .carrying i u)) q := by
  have he := rec?_enterState hx false hne (st := .carrying) (by decide)
  obtain ⟨y, hy⟩ := rec?_ask he ⟨.rest, 0, .policy⟩
  refine ⟨_, hy, hcls, ?_, fun _ => ⟨rfl, holds_ask (x := ⟨.rest, 0, .policy⟩) he (by decide)⟩, fun h => ?_, ht⟩
  · rw [order, arbiter_ask,
      show (enter .carrying i u).arbiter = u.arbiter from congrArg Ties.arbiter (ties_enter (by decide) ..)]
    exact hq
  · rcases h with h | h <;> rw [h] at hst <;> simp at hst

/-- A record in CARRYING or LAPSED gets a REST and stays (R20). -/
theorem restOrders_stays {u : State} (hr : u.rec? i = some r) (hq : i ∉ u.arbiter.queue)
    (hst : r.st = .carrying ∨ r.st = .lapsed) : ∃ q, RestOrders i r (order .rest i u) q := by
  obtain ⟨y, hy⟩ := rec?_ask hr ⟨.rest, 0, .policy⟩
  refine ⟨_, hy, rfl, by rw [order, arbiter_ask]; exact hq, fun h => ?_,
    fun _ => ⟨rfl, holds_ask (x := ⟨.rest, 0, .policy⟩) hr (by decide)⟩, fun h => ?_⟩
  · rcases hst with hs | hs <;> rw [hs] at h <;> simp at h
  · rcases hst with hs | hs <;> rw [hs] at h <;> cases h

theorem restOrders_critical {u : State} (hr : u.rec? i = some r) (hq : i ∈ u.arbiter.queue → r.st = .waiting) :
    ∃ q, RestOrders i r (criticalClassChange i u) q := by
  have hs : u.stOf i = some r.st := by simp [State.stOf, hr]
  have hnot : r.st ≠ .waiting → i ∉ u.arbiter.queue := fun hne hi => hne (hq hi)
  have other : r.st = .idle ∨ r.st = .waking ∨ r.st = .resting ∨ r.st = .silent ∨ r.st = .faulted →
      ∃ q, RestOrders i r u q := fun ho =>
    ⟨r, hr, rfl, hnot fun hw => by rw [hw] at ho; simp at ho, fun h => by rcases ho with h' | h' | h' | h' | h' <;> simp [h'] at h,
      (fun h => by rcases ho with h' | h' | h' | h' | h' <;> simp [h'] at h),
      (fun h => by rcases ho with h' | h' | h' | h' | h' <;> simp [h'] at h)⟩
  unfold criticalClassChange
  rw [hs]
  cases hst : r.st with
  | fed =>
    have hx : (releaseFeed i u).rec? i = some { r with admitted := none } := by
      show (updRec i (fun r => { r with admitted := none }) u).rec? i = _
      rw [rec?_updRec_self, hr]
      rfl
    have hqx : i ∉ (releaseFeed i u).arbiter.queue := by
      rw [show (releaseFeed i u).arbiter = _ from congrArg Ties.arbiter (ties_releaseFeed i u)]
      exact hnot (by rw [hst]; decide)
    exact restOrders_moved hx (by simp [hst]) rfl hqx (.inl hst) fun h => by rw [hst] at h; cases h
  | waiting =>
    exact restOrders_moved (u := leaveQueue i u) hr (by simp [hst]) rfl
      (fun hi => by simpa using (List.mem_filter.mp hi).2) (.inr (.inl hst)) fun h => by rw [hst] at h; cases h
  | testing =>
    have hx : (setTested i .abandoned u).rec? i = some (r.tested .abandoned) := by
      rw [setTested, rec?_updRec_self, hr]
      rfl
    have hf : (r.tested .abandoned).st = r.st ∧ (r.tested .abandoned).cls = r.cls := by
      unfold Record.tested Record.raise
      split <;> exact ⟨rfl, rfl⟩
    have hqx : i ∉ (setTested i .abandoned u).arbiter.queue := by
      rw [show (setTested i .abandoned u).arbiter = u.arbiter from congrArg Ties.arbiter (ties_setTested ..)]
      exact hnot (by rw [hst]; decide)
    exact restOrders_moved hx (by rw [hf.1, hst]; decide) hf.2 hqx (.inr (.inr hst)) fun _ => ⟨rfl, has_raise .tested r⟩
  | carrying => exact restOrders_stays hr (hnot (by rw [hst]; decide)) (.inl hst)
  | lapsed => exact restOrders_stays hr (hnot (by rw [hst]; decide)) (.inr hst)
  | idle => exact other (by simp [hst])
  | waking => exact other (by simp [hst])
  | resting => exact other (by simp [hst])
  | silent => exact other (by simp [hst])
  | faulted => exact other (by simp [hst])

end ClassChange

/-- Settles O22: a decision reaches the record only while it waits, so the orders of CRITICAL stand at the end of the
event, and a WAITING record can only be admitted. -/
theorem amendClass : Obligations.AmendClass := by
  unfold Obligations.AmendClass
  intro fr index i r c s h hi hr hf hex
  have hfit : changesFit [.cls c.byte] = true := by cases c <;> rfl
  have href : amendRefusal [.cls c.byte] i s = none := rfl
  have hwork : amendWork [.cls c.byte] i s.taken = amendClassWork c i s.taken := by cases c <;> rfl
  have hr' : s.taken.rec? i = some r := hr
  have ho := amendOwner_accepts hi hfit hr href
  rw [hwork] at ho
  have hplain : ∀ t : State, amendClassWork c i s.taken = t → t.agenda = ⟨[], false, false⟩ →
      exec (.amendClass fr index c.byte []) s = .next (completeRequest ⟨.done, []⟩ t) := fun t ht ha => by
    rw [ht] at ho
    exact congrArg Host.Outcome.next (request_plain (owner := amendOwner index [.cls c.byte]) h hf ho ha)
  refine ⟨fun hc => hplain s.taken (by rw [amendClassWork, hr']; exact if_pos hc) h.2.1, fun hc hw hm => ?_, fun hc => ?_⟩
  · refine hplain (setRec i (some { r with cls := c }) s.taken) ?_ h.2.1
    rw [amendClassWork_new hr' hc, if_neg (show ¬(s.taken.supply.mode = .critical ∧ r.cls = .lifeline) from hm)]
    exact if_neg hw
  · obtain ⟨b, hb, hk⟩ := amend_accepted (c := .amendClass fr index c.byte []) rfl h hf hi hfit hr href
    rw [hwork] at hb hk
    have hpurse : (finishEvent b (amendClassWork c i s.taken)).purse i = s.purse i :=
      (purse_finishEvent b _).trans (purse_amendClassWork c s.taken)
    have hcrit : s.supply.mode = .critical → r.cls = .lifeline →
        ∃ q, RestOrders i { r with cls := c } (amendClassWork c i s.taken) q := fun hm hl => by
      rw [amendClassWork_new hr' hc, if_pos ⟨hm, hl⟩]
      refine restOrders_critical (rec?_reclassed i r c s.taken) fun hq => ?_
      by_contra hw
      have hnw : r.st ≠ .waiting := hw
      have hq' : i ∈ s.arbiter.queue := by
        unfold reclassed at hq
        rw [if_neg hnw] at hq
        exact hq
      have := (hex.2 i).mp hq'
      simp [State.stOf, hr, hnw] at this
    have hplainRec : ¬(s.supply.mode = .critical ∧ r.cls = .lifeline) →
        (amendClassWork c i s.taken).rec? i = some { r with cls := c } := fun hm => by
      rw [amendClassWork_new hr' hc, if_neg (show ¬(s.taken.supply.mode = .critical ∧ r.cls = .lifeline) from hm)]
      exact rec?_reclassed i r c s.taken
    have hcls : ∃ x, (amendClassWork c i s.taken).rec? i = some x ∧ x.cls = c := by
      by_cases hm : s.supply.mode = .critical ∧ r.cls = .lifeline
      · obtain ⟨x, hx⟩ := hcrit hm.1 hm.2
        exact ⟨x, hx.slot, hx.cls⟩
      · exact ⟨_, hplainRec hm, rfl⟩
    unfold State.served at hb hk
    generalize amendClassWork c i s.taken = v at *
    obtain ⟨x, hx, hxc⟩ := hcls
    obtain ⟨q, hq, hqt⟩ := terms_finishEvent hx b
    have hw : q.worth = r.worth := by
      have h1 := congrArg Prod.fst hpurse
      simp only [State.purse, hq, hr] at h1
      exact Option.some.inj h1
    have horders : s.supply.mode = .critical → r.cls = .lifeline →
        (r.st = .fed ∨ r.st = .waiting ∨ r.st = .testing → q.st = .carrying ∧ (finishEvent b v).Holds i .rest 0) ∧
        (r.st = .carrying ∨ r.st = .lapsed → q.st = r.st ∧ (finishEvent b v).Holds i .rest 0) ∧
        (r.st = .testing → q.testOutcome = some .abandoned ∧ q.has .tested = true) := fun hm hl => by
      obtain ⟨y, hy⟩ := hcrit hm hl
      have hsteady := steady_finishEvent (t := v) (fun _ => .inl hy.aside) b
      have hu := hsteady.agrees hy.slot hq
      have hst : q.st = y.st := (congrArg Record.st hu :)
      exact ⟨fun hs => ⟨hst.trans (hy.moved hs).1, hsteady.holds _ _ (hy.moved hs).2⟩,
        fun hs => ⟨hst.trans (hy.stays hs).1, hsteady.holds _ _ (hy.stays hs).2⟩,
        fun hs => ⟨(congrArg Record.testOutcome hu :).trans (hy.tested hs).1,
          (congrArg (Record.has · .tested) hu :).trans (hy.tested hs).2⟩⟩
    have hwaits : s.supply.mode ≠ .critical → r.st = .waiting → q.st = .waiting ∨ q.st = .fed := fun hm hs =>
      waiting_finishEvent (hplainRec fun hc => hm hc.1) hs b hq
    generalize finishEvent b v = u at *
    exact ⟨_, q, hb, hq, (congrArg Record.cls hqt :).trans hxc, (congrArg (fun w => w.2.2) hw :), rfl, hk, horders, hwaits⟩

end Sys2Proof.Machine
end

section
/-! What is due under a state entry, a decision and a pick, and what a pick makes of one slot. -/

namespace Sys2Proof.Machine

open Sys2Proof

/-! ### What is due -/

section Due

variable {s t : State} {i : Idx} {ev : Event}

/-- An event that no engine makes due. -/
def Event.ofTick (ev : Event) : Prop := ∀ e, ev ≠ .complete e

theorem ofTick_expiry (i : Idx) : (Event.expiry i).ofTick := fun _ h => by cases h

theorem ofTick_appointments : Event.appointments.ofTick := fun _ h => by cases h

theorem isDue_makeDue (ev e : Event) (s : State) : (makeDue ev s).isDue e = (s.isDue e || decide (e = ev)) := by
  simp only [State.isDue, makeDue_agenda]
  rw [Bool.eq_iff_iff]
  simp

theorem isDue_makeDue_complete (h : ev.ofTick) (e : Engine) (s : State) : (makeDue (.complete e) s).isDue ev = s.isDue ev := by
  rw [isDue_makeDue, decide_eq_false (h e), Bool.or_false]

theorem isDue_dropDue_other {e : Event} (h : ev ≠ e) (s : State) : (dropDue e s).isDue ev = s.isDue ev := by
  rw [isDue_dropDue, decide_eq_true h, Bool.and_true]

theorem isDue_dropDue_self (ev : Event) (s : State) : (dropDue ev s).isDue ev = false := by
  rw [isDue_dropDue]
  simp

theorem isDue_updRec (i : Idx) (f : Record → Record) (ev : Event) (s : State) : (updRec i f s).isDue ev = s.isDue ev := by
  unfold updRec
  split <;> rfl

theorem isDue_dropPending (i : Idx) (ev : Event) (s : State) : (dropPending i s).isDue ev = s.isDue ev :=
  isDue_updRec i (fun r => { r with pend := none }) ev s

theorem isDue_setEngine (e : Engine) (g : Option Engagement) (ev : Event) (s : State) :
    (setEngine e g s).isDue ev = s.isDue ev := isDue_of_due (congrArg Agenda.due (setEngine_agenda e g s)) ev

theorem isDue_takeBaseline (e : Engine) (ev : Event) (s : State) : (takeBaseline e s).isDue ev = s.isDue ev := by
  unfold takeBaseline
  split
  · exact isDue_setEngine ..
  · rfl

theorem isDue_sendPartOn (p : Port) (ev : Event) (s : State) : (sendPartOn p s).isDue ev = s.isDue ev := by
  unfold sendPartOn
  split
  · next e _ =>
    obtain h | ⟨g, n, -, -, -, h⟩ := sendPart_cases e s
    · rw [h]
    · rw [h]; exact isDue_setEngine ..
  · rfl

theorem isDue_failAttempt (h : ev.ofTick) (e : Engine) (o : ExOutcome) (s : State) :
    (failAttempt e o s).isDue ev = s.isDue ev := by
  unfold failAttempt
  split
  · split
    · exact isDue_setEngine ..
    · rw [isDue_makeDue_complete h, isDue_setEngine]
  · rfl

theorem isDue_orderLevel (h : ev.ofTick) (p : Port) (n : Nat) (l : Drive) (s : State) :
    (orderLevel p n l s).isDue ev = s.isDue ev := by
  have hl : ∀ t : State, (linkAtLevelChange p l t).isDue ev = t.isDue ev := fun t => by
    unfold linkAtLevelChange
    split
    · rfl
    · split
      · rfl
      · dsimp only
        split
        · rw [isDue_failAttempt h, isDue_takeBaseline]
        · exact isDue_takeBaseline ..
  unfold orderLevel
  split
  · rfl
  · rw [hl]
    exact isDue_sendPartOn ..

theorem isDue_orderAt (h : ev.ofTick) (p : Option Port) (n : Nat) (l : Drive) (s : State) :
    (orderAt p n l s).isDue ev = s.isDue ev := by
  cases p with
  | none => rfl
  | some p => exact isDue_orderLevel h ..

/-- A state entry drops the expiry of its own countdown, and no other event of the tick (R9). -/
theorem isDue_enterSlot (b : Bool) (st : RState) (i : Idx) (r : Record) (s : State) :
    (enterSlot b st i r s).isDue ev = (dropDue (.expiry i) s).isDue ev := by
  unfold enterSlot
  dsimp only
  split
  · exact isDue_dropPending ..
  · rfl

theorem isDue_enterState_other (h : ev.ofTick) (hi : ev ≠ .expiry i) (b : Bool) (st : RState) (s : State) :
    (enterState b st i s).isDue ev = s.isDue ev := by
  obtain he | ⟨r, -, -, he⟩ := enterState_steps b st i s
  · rw [he]
  · rw [he, isDue_orderAt h, isDue_enterSlot, isDue_dropDue_other hi]

theorem isDue_enterState_false (h : ev.ofTick) (hs : s.isDue ev = false) (b : Bool) (st : RState) :
    (enterState b st i s).isDue ev = false := by
  obtain he | ⟨r, -, -, he⟩ := enterState_steps b st i s
  · rw [he]; exact hs
  · rw [he, isDue_orderAt h, isDue_enterSlot, isDue_dropDue, hs, Bool.false_and]

theorem isDue_ask (i : Idx) (x : Exchange) (ev : Event) (s : State) : (ask i x s).isDue ev = s.isDue ev := by
  obtain ⟨-, h⟩ | ⟨r, -, ⟨-, h⟩ | ⟨-, -, h⟩ | ⟨-, h⟩⟩ := ask_cases i x s <;> rw [h] <;> rfl

theorem isDue_admitSlot (i : Idx) (ev : Event) (s : State) : (admitSlot i s).isDue ev = s.isDue ev :=
  isDue_updRec i (fun r => { r with admitted := some r.ceiling }) ev
    { s with arbiter := ⟨s.arbiter.feedList ++ [i], s.arbiter.queue.filter (· ≠ i)⟩ }

theorem isDue_admitMember_other (h : ev.ofTick) (hi : ev ≠ .expiry i) (s : State) :
    (admitMember i s).isDue ev = s.isDue ev := by
  obtain ⟨-, he⟩ | ⟨r, -, he | ⟨x, -, he⟩⟩ := admitMember_cases i s
  · rw [he]
  · rw [he, enter, isDue_enterState_other h hi, isDue_admitSlot]
  · rw [he, isDue_ask, enter, isDue_enterState_other h hi, isDue_admitSlot]

theorem isDue_admitMember_false (h : ev.ofTick) (hs : s.isDue ev = false) : (admitMember i s).isDue ev = false := by
  have hslot : (admitSlot i s).isDue ev = false := (isDue_admitSlot i ev s).trans hs
  obtain ⟨-, he⟩ | ⟨r, -, he | ⟨x, -, he⟩⟩ := admitMember_cases i s
  · rw [he]; exact hs
  · rw [he]; exact isDue_enterState_false h hslot ..
  · rw [he, isDue_ask]; exact isDue_enterState_false h hslot ..

theorem isDue_engage (e : Engine) (i : Idx) (ev : Event) (s : State) : (engage e i s).isDue ev = s.isDue ev := by
  obtain h | ⟨r, x, -, -, h⟩ := engage_cases e i s
  · rw [h]
  · rw [h, isDue_takeBaseline, isDue_setEngine]
    cases r.port with
    | none => exact isDue_dropPending ..
    | some p => exact isDue_dropPending ..

theorem isDue_pickBoth (ev : Event) (s : State) : (pickBoth s).isDue ev = s.isDue ev := by
  have hp : ∀ e s, (pickFor e s).isDue ev = s.isDue ev := fun e s => by
    obtain h | ⟨i, -, -, h⟩ := pickFor_cases e s
    · rw [h]
    · rw [h]; exact isDue_engage ..
  exact (hp .b _).trans (hp .a s)

theorem isDue_decided_false (h : ev.ofTick) (ht : t.isDue ev = false) : (decided t).isDue ev = false := by
  unfold decided
  split
  · exact decide_keeps (Q := fun u => u.isDue ev = false) (fun _ _ _ hu => isDue_admitMember_false h hu) ht
  · exact ht

/-- The end of an event makes nothing of the tick due. -/
theorem isDue_finishEvent_false (h : ev.ofTick) (ht : t.isDue ev = false) (b : State) :
    (finishEvent b t).isDue ev = false := by
  have hd := isDue_decided_false h ht
  obtain he | he := finishEvent_cases b t
  · rw [he]; exact hd
  · rw [he]; exact (isDue_pickBoth ev (decided t)).trans hd

end Due

/-! ### A pick, from one slot -/

section Pick

variable {s t u : State} {i : Idx}

/-- A pick passes the slot by: its record and what the engines carry of it stay. -/
structure State.Passed (i : Idx) (s t : State) : Prop where
  slot : t.rec? i = s.rec? i
  cargo : ∀ e p x, t.ties.cargo e = some (i, p, x) ↔ s.ties.cargo e = some (i, p, x)

/-- A pick takes the slot's pending exchange `x` into a free engine (R122). -/
structure State.Took (i : Idx) (x : Exchange) (s t : State) : Prop where
  free : s.inFlight i = none
  slot : ∃ r, s.rec? i = some r ∧ r.pend = some x ∧ t.rec? i = some r.unpended
  cargo : ∃ e p, ∀ f q y, t.ties.cargo f = some (i, q, y) ↔ f = e ∧ q = p ∧ y = x

theorem State.Passed.carries (h : s.Passed i t) (e : Engine) : t.carries i e = s.carries i e := by
  have hc : ∀ u : State, u.carries i e = true ↔ ∃ p x, u.ties.cargo e = some (i, p, x) := fun u => by
    rw [carries_eq, decide_eq_true_eq, Option.map_eq_some_iff]
    exact ⟨fun ⟨⟨j, p, x⟩, hc, hj⟩ => ⟨p, x, by subst hj; exact hc⟩,
      fun ⟨p, x, hc⟩ => ⟨_, hc, rfl⟩⟩
  rw [Bool.eq_iff_iff, hc, hc]
  simp only [h.cargo]

theorem State.Passed.inFlight (h : s.Passed i t) : t.inFlight i = s.inFlight i := by
  unfold State.inFlight
  rw [funext h.carries]

theorem State.Passed.trans (h : s.Passed i t) (k : t.Passed i u) : s.Passed i u :=
  ⟨k.slot.trans h.slot, fun e p x => (k.cargo e p x).trans (h.cargo e p x)⟩

/-- The engine that took the exchange carries it. -/
theorem State.Took.carried {x : Exchange} (h : s.Took i x t) :
    ∃ e g, t.inFlight i = some e ∧ t.engine e = some g ∧ g.ex = x := by
  obtain ⟨e, p, hc⟩ := h.cargo
  obtain ⟨g, hg, hgc⟩ := Option.map_eq_some_iff.mp ((hc e p x).mpr ⟨rfl, rfl, rfl⟩ : (t.engine e).map Engagement.cargo = _)
  simp only [Engagement.cargo, Prod.mk.injEq] at hgc
  refine ⟨e, g, ?_, hg, hgc.2.2⟩
  have hcar : ∀ f, t.carries i f = decide (f = e) := fun f => by
    rw [carries_eq, Bool.eq_iff_iff, decide_eq_true_eq, decide_eq_true_eq, Option.map_eq_some_iff]
    exact ⟨fun ⟨⟨j, q, y⟩, hcy, hj⟩ => ((hc f q y).mp (by subst hj; exact hcy)).1,
      fun hf => ⟨_, (hc f p x).mpr ⟨hf, rfl, rfl⟩, rfl⟩⟩
  unfold State.inFlight
  rw [funext hcar]
  cases e <;> rfl

/-- A pick for one engine passes the slot by, or takes its pending exchange. -/
theorem pickFor_slot (e : Engine) (i : Idx) (s : State) : s.Passed i (pickFor e s) ∨ ∃ x, s.Took i x (pickFor e s) := by
  obtain h | ⟨j, he, hj, h⟩ := pickFor_cases e s
  · rw [h]; exact .inl ⟨rfl, fun _ _ _ => Iff.rfl⟩
  · obtain hs | ⟨r, x, hr, hx, hs⟩ := engage_cases e j s
    · rw [h, hs]; exact .inl ⟨rfl, fun _ _ _ => Iff.rfl⟩
    · have hslots : (pickFor e s).slots = (dropPending j s).slots := by
        rw [h, hs, slots_takeBaseline, setEngine_slots]
        cases r.port <;> rfl
      have hrec : (pickFor e s).rec? i = if i = j then (s.rec? j).map fun r => { r with pend := none } else s.rec? i := by
        rw [rec?_congr hslots]
        exact rec?_updRec j i (fun r => { r with pend := none }) s
      have hcargo : ∀ f, (pickFor e s).ties.cargo f = if f = e then some (j, r.port, x) else s.ties.cargo f := fun f => by
        rw [h, hs, ties_takeBaseline, ties_engaged, ties_restartCall, ties_dropPending]
        rfl
      have hfree : s.ties.cargo e = none := by simp [State.ties, he]
      by_cases hij : i = j
      · subst hij
        have hel : s.eligible i = true := List.find?_some hj
        simp only [State.eligible, Bool.and_eq_true, Option.isNone_iff_eq_none] at hel
        have hnone := (inFlight_none_iff s i).mp hel.1.1
        refine .inr ⟨x, hel.1.1, ⟨r, hr, hx, by rw [hrec, if_pos rfl, hr]; rfl⟩, e, r.port, fun f q y => ?_⟩
        rw [hcargo]
        split
        · next hf =>
          simp only [Option.some.injEq, Prod.mk.injEq, true_and, hf]
          exact and_congr eq_comm eq_comm
        · next hf =>
          refine ⟨fun hc => ?_, fun hc => absurd hc.1 hf⟩
          have := hnone f
          rw [carries_eq, hc] at this
          simp at this
      · refine .inl ⟨by rw [hrec, if_neg hij], fun f q y => ?_⟩
        rw [hcargo]
        split
        · next hf =>
          rw [hf, hfree]
          simp [Ne.symm hij]
        · rfl

theorem pickBoth_slot (i : Idx) (s : State) : s.Passed i (pickBoth s) ∨ ∃ x, s.Took i x (pickBoth s) := by
  have hb := pickFor_slot .b i (pickFor .a s)
  obtain ha | ⟨x, ha⟩ := pickFor_slot .a i s
  · obtain hb | ⟨x, hb⟩ := hb
    · exact .inl (ha.trans hb)
    · obtain ⟨r, hr, hx, hu⟩ := hb.slot
      exact .inr ⟨x, ha.inFlight ▸ hb.free, ⟨r, ha.slot ▸ hr, hx, hu⟩, hb.cargo⟩
  · obtain hb | ⟨y, hb⟩ := hb
    · obtain ⟨r, hr, hx, hu⟩ := ha.slot
      obtain ⟨e, p, hc⟩ := ha.cargo
      exact .inr ⟨x, ha.free, ⟨r, hr, hx, hb.slot.trans hu⟩, e, p, fun f q y => (hb.cargo f q y).trans (hc f q y)⟩
    · obtain ⟨e, g, he, -⟩ := ha.carried
      rw [hb.free] at he
      cases he

/-- With no decision called for, an event's end passes the slot by, or takes its pending exchange. -/
theorem finishEvent_slot (hd : t.agenda.decision = false) (i : Idx) (b : State) :
    t.Passed i (finishEvent b t) ∨ ∃ x, t.Took i x (finishEvent b t) := by
  have h : decided t = t := by unfold decided; rw [hd]; rfl
  obtain he | he := finishEvent_cases b t
  · rw [he, h]; exact .inl ⟨rfl, fun _ _ _ => Iff.rfl⟩
  · rw [he, h]
    obtain hp | ⟨x, hp⟩ := pickBoth_slot i t
    · exact .inl ⟨hp.slot, hp.cargo⟩
    · exact .inr ⟨x, hp.free, hp.slot, hp.cargo⟩

end Pick

end Sys2Proof.Machine
end

section
/-! The countdown expiries (R144, R145, R146, R167). -/

namespace Sys2Proof.Machine

open Sys2Proof

section Expiry

variable {s t : State} {i : Idx} {r : Record}

/-- The part as an expiry's work meets it: the event off the agenda, and the notes of the event's work clear. -/
def expiring (i : Idx) (s : State) : State := dropDue (.expiry i) (clearNotes s)

/-- A due expiry, in a state that its row names, is its work and the end of the event. -/
theorem expireIn_due {x y : RState} (hd : s.isDue (.expiry i) = true) (hr : s.rec? i = some r) (hst : r.st = x ∨ r.st = y) :
    expireIn x y i s = finishEvent s (expiryEffect i (expiring i s)) := by
  have hin : (s.isIn x i || s.isIn y i) = true := by
    simp only [State.isIn, State.stOf, hr, Option.map_some, Option.some.injEq, Bool.or_eq_true, decide_eq_true_eq]
    exact hst
  rw [expireIn, if_pos hin, takeEvent_due _ _ hd]
  rfl

theorem live_awake (h : s.inReset = false) (f : State → State) : live f s = f s := by simp [live, h]

/-- The expiry is off the agenda of the part that its work meets. -/
theorem expiring_due (i : Idx) (s : State) : (expiring i s).isDue (.expiry i) = false := isDue_dropDue_self ..

theorem frame_expiring (i : Idx) (s : State) : (expiring i s).frame = s.frame := by
  rw [expiring, frame_dropDue_expiry, frame_clearNotes]

/-- What an expiry leaves of the rest of the part, where its work stays in the frame. -/
theorem expiry_kept {v : State} (hv : v.frame = (expiring i s).frame) (hd : v.isDue (.expiry i) = false) (b : State) :
    (finishEvent b v).isDue (.expiry i) = false ∧ s.RestKept i (finishEvent b v) ∧ (finishEvent b v).meter = s.meter := by
  have hf : (finishEvent b v).frame = s.frame := (frame_finishEvent b v).trans (hv.trans (frame_expiring i s))
  exact ⟨isDue_finishEvent_false (ofTick_expiry i) hd b,
    restKept_of_frame hf ((State.Within.refl i (∅ : Set Port) s).restKept fun _ h => h.elim), congrArg Frame.meter hf⟩

/-- An exchange that the merge rule does not drop is held (R119). -/
theorem rec?_ask_placed (hr : s.rec? i = some r) {x : Exchange} (hm : mergeDrops r.pend x = false) :
    (ask i x s).rec? i = some { r with pend := some x } := by
  obtain ⟨hn, -⟩ | ⟨q, hq, hc⟩ := ask_cases i x s
  · rw [hn] at hr; cases hr
  · cases Option.some.inj (hq.symm.trans hr)
    obtain ⟨hd, -⟩ | ⟨-, -, h⟩ | ⟨-, h⟩ := hc
    · rw [hm] at hd; cases hd
    · rw [h]; exact rec?_setRec_self ..
    · rw [h]; exact rec?_setRec_self ..

theorem ask_dropped (hr : s.rec? i = some r) {x : Exchange} (hm : mergeDrops r.pend x = true) : ask i x s = s := by
  simp [ask, hr, hm]

theorem holds_pending {x : Exchange} (hr : s.rec? i = some r) (hx : r.pend = some x) : s.Holds i x.kind x.arg :=
  .inl ⟨x, by rw [hr]; exact hx, rfl, rfl⟩

/-- A QUERY of the policies that is asked for is held, or one pending serves for it (R119). -/
theorem holdsQuery_ask (hr : s.rec? i = some r) : (ask i ⟨.query, 0, .policy⟩ s).HoldsQuery i := by
  cases hm : mergeDrops r.pend ⟨.query, 0, .policy⟩ with
  | false => exact .inl (holds_pending (rec?_ask_placed hr hm) rfl)
  | true =>
    rw [ask_dropped hr hm]
    cases hp : r.pend with
    | none => rw [hp] at hm; cases hm
    | some y =>
      have hy := holds_pending hr hp
      simp only [hp, mergeDrops, Bool.or_eq_true, Bool.and_eq_true, decide_eq_true_eq] at hm
      rcases hm with ⟨⟨hk, -⟩, -⟩ | ⟨⟨hk, ha⟩, -⟩
      · exact .inr ⟨y.arg, hk ▸ hy⟩
      · exact .inl (hk ▸ ha ▸ hy)

theorem State.Steady.holdsQuery (h : s.Steady i t) (hq : s.HoldsQuery i) : t.HoldsQuery i :=
  hq.imp (h.holds .query 0) fun ⟨n, hn⟩ => ⟨n, h.holds .wake n hn⟩

/-- What the pick leaves of an exchange in an occupied slot: pending, or in flight from now on (R122). -/
theorem pending_finishEvent {v : State} {x : Exchange} (hd : v.agenda.decision = false) (hr : v.rec? i = some r)
    (hx : r.pend = some x) (b : State) {q : Record} (hq : (finishEvent b v).rec? i = some q) :
    q.pend = some x ∧ (finishEvent b v).inFlight i = v.inFlight i ∨
      v.inFlight i = none ∧ q.pend = none ∧
        ∃ e g, (finishEvent b v).inFlight i = some e ∧ (finishEvent b v).engine e = some g ∧ g.ex = x := by
  obtain h | ⟨y, h⟩ := finishEvent_slot hd i b
  · rw [h.slot, hr] at hq
    cases Option.some.inj hq
    exact .inl ⟨hx, h.inFlight⟩
  · obtain ⟨r', hr', hy, hu⟩ := h.slot
    cases Option.some.inj (hr'.symm.trans hr)
    cases Option.some.inj (hy.symm.trans hx)
    rw [hu] at hq
    cases Option.some.inj hq
    exact .inr ⟨h.free, rfl, h.carried⟩

theorem inFlight_congr (h : t.ties.cargo = s.ties.cargo) (i : Idx) : t.inFlight i = s.inFlight i := by
  have hc : t.carries i = s.carries i := funext fun e => by rw [carries_eq, carries_eq, h]
  unfold State.inFlight
  rw [hc]

theorem intervalKind_eq (hr : s.rec? i = some r) : s.intervalKind i =
    if s.supply.mode = .critical ∧ r.cls ≠ .lifeline ∧ r.st = .carrying then .rest else .query := by
  simp [State.intervalKind, State.lifeline, State.ofClass, State.isIn, State.stOf, hr]

/-- The expiry of a query interval (R144): its exchange is placed by the merge rule, and the pick takes what it may. -/
theorem queryInterval_taken (hr : s.rec? i = some r) (hst : r.st = .carrying ∨ r.st = .fed) (b : State) :
    let t := finishEvent b (expiryEffect i (expiring i s))
    ∃ q, t.rec? i = some q ∧ q.st = r.st ∧ t.isDue (.expiry i) = false ∧ s.RestKept i t ∧ t.arbiter = s.arbiter ∧
      t.meter = s.meter ∧
      (s.supply.mode = .critical ∧ r.cls ≠ .lifeline ∧ r.st = .carrying → t.Holds i .rest 0) ∧
      (¬(s.supply.mode = .critical ∧ r.cls ≠ .lifeline ∧ r.st = .carrying) → t.HoldsQuery i) ∧
      (∀ k, (k = .rest ↔ s.supply.mode = .critical ∧ r.cls ≠ .lifeline ∧ r.st = .carrying) → k = .rest ∨ k = .query →
        (r.pend = none → s.inFlight i ≠ none → q.pend = some ⟨k, 0, .policy⟩ ∧ t.inFlight i = s.inFlight i) ∧
        (∀ y, r.pend = some y → y.kind = k ∧ y.arg = 0 ∨ y.kind = .wake ∧ k = .query →
          q.pend = some y ∧ t.inFlight i = s.inFlight i ∨ s.inFlight i = none ∧ q.pend = none ∧
            ∃ e g, t.inFlight i = some e ∧ t.engine e = some g ∧ g.ex = y)) := by
  have hr' : (expiring i s).rec? i = some r := hr
  have hkind := intervalKind_eq hr'
  have hmode : (expiring i s).supply.mode = s.supply.mode := rfl
  have hdec : (expiring i s).agenda.decision = false := rfl
  have harb : (expiring i s).arbiter = s.arbiter := rfl
  have hfl : (expiring i s).inFlight i = s.inFlight i := rfl
  have hwork : expiryEffect i (expiring i s) = ask i ⟨(expiring i s).intervalKind i, 0, .policy⟩ (expiring i s) := by
    have hs : (expiring i s).stOf i = some r.st := by simp [State.stOf, hr']
    unfold expiryEffect
    rw [hs]
    rcases hst with h | h <;> rw [h] <;> rfl
  have hdue := expiring_due i s
  have hkept : ∀ v : State, v.frame = (expiring i s).frame → v.isDue (.expiry i) = false → _ := fun v hv hd =>
    expiry_kept hv hd b
  rw [hmode] at hkind
  rw [hwork]
  generalize expiring i s = d at *
  generalize d.intervalKind i = kd at *
  obtain ⟨h1, h2, h3⟩ := hkept _ (frame_ask i ⟨kd, 0, .policy⟩ d) ((isDue_ask ..).trans hdue)
  have hvd : (ask i ⟨kd, 0, .policy⟩ d).agenda.decision = false := (decision_ask ..).trans hdec
  have hva := (arbiter_finishEvent hvd b).trans ((arbiter_ask ..).trans harb)
  have hvf := (inFlight_congr (cargo_ask i ⟨kd, 0, .policy⟩ d) i).trans hfl
  obtain ⟨z, hz⟩ := rec?_ask hr' ⟨kd, 0, .policy⟩
  have hsteady := steady_finishEvent (i := i) (t := ask i ⟨kd, 0, .policy⟩ d) (fun he => by rw [hvd] at he; cases he) b
  obtain ⟨q, hq, hu⟩ := hsteady.record hz
  refine ⟨q, hq, (congrArg Record.st hu :), h1, h2, hva, h3, fun hc => ?_, fun hc => ?_, fun k hk hkk => ?_⟩
  · rw [if_pos hc] at hkind
    subst hkind
    exact hsteady.holds _ _ (holds_ask (x := ⟨.rest, 0, .policy⟩) hr' (by decide))
  · rw [if_neg hc] at hkind
    subst hkind
    exact hsteady.holdsQuery (holdsQuery_ask hr')
  · have hkd : kd = k := by
      rw [hkind]
      by_cases hc : s.supply.mode = .critical ∧ r.cls ≠ .lifeline ∧ r.st = .carrying
      · rw [if_pos hc]; exact (hk.mpr hc).symm
      · rw [if_neg hc]; exact (hkk.resolve_left fun h => hc (hk.mp h)).symm
    rw [hkd] at hvd hvf hq ⊢
    refine ⟨fun hp hf => ?_, fun y hp hy => ?_⟩
    · have hrec := rec?_ask_placed hr' (x := ⟨k, 0, .policy⟩) (by rw [hp]; rfl)
      obtain h | ⟨h, -⟩ := pending_finishEvent hvd hrec rfl b hq
      · exact ⟨h.1, h.2.trans hvf⟩
      · exact absurd (hvf.symm.trans h) hf
    · have hm : mergeDrops r.pend ⟨k, 0, .policy⟩ = true := by
        rcases hy with ⟨h1, h2⟩ | ⟨h1, h2⟩ <;> simp [hp, mergeDrops, h1, h2]
      have hd := ask_dropped hr' hm
      rw [hd] at hvd hvf hq ⊢
      obtain h | ⟨h, hn⟩ := pending_finishEvent hvd hr' hp b hq
      · exact .inl ⟨h.1, h.2.trans hvf⟩
      · exact .inr ⟨hvf.symm.trans h, hn⟩

/-- A record in a test window goes on to the second query (R167). -/
theorem testWindow_taken {c : Option Nat} {m : Bool} (hr : s.rec? i = some r) (hst : r.st = .testing)
    (ht : r.test = some ⟨.window, c, m⟩) (b : State) :
    let t := finishEvent b (expiryEffect i (expiring i s))
    ∃ q, t.rec? i = some q ∧ q.st = .testing ∧ q.test = some ⟨.q1, c, m⟩ ∧ q.cd = r.cd ∧ q.entered = r.entered ∧
      t.Holds i .query 0 ∧ s.RestKept i t ∧ t.arbiter = s.arbiter ∧ t.meter = s.meter := by
  have hr' : (expiring i s).rec? i = some r := hr
  have hwork : expiryEffect i (expiring i s) = ask i ⟨.query, 0, .test⟩
      (updRec i (fun r => { r with test := r.test.map fun t => { t with phase := .q1 } }) (expiring i s)) := by
    have hs : (expiring i s).stOf i = some .testing := by simp [State.stOf, hr', hst]
    have hw : (expiring i s).testInWindow i = true := by simp [State.testInWindow, hr', ht]
    unfold expiryEffect
    rw [hs]
    exact if_pos hw
  have hrec := (rec?_updRec_self i (fun r => { r with test := r.test.map fun t => { t with phase := .q1 } })
    (expiring i s)).trans (congrArg _ hr')
  have hframe : (updRec i (fun r => { r with test := r.test.map fun t => { t with phase := .q1 } }) (expiring i s)).frame =
      (expiring i s).frame := frame_updRec (f := fun r => { r with test := r.test.map fun t => { t with phase := .q1 } })
    (fun _ => rfl) i _
  have hties := ties_updRec i (fun r => { r with test := r.test.map fun t => { t with phase := .q1 } }) (expiring i s)
  have hdue := (isDue_updRec i (fun r => { r with test := r.test.map fun t => { t with phase := .q1 } }) (.expiry i)
    (expiring i s)).trans (expiring_due i s)
  rw [hwork]
  generalize updRec i (fun r => { r with test := r.test.map fun t => { t with phase := .q1 } }) (expiring i s) = u at *
  have hdec : (ask i ⟨.query, 0, .test⟩ u).agenda.decision = false :=
    (decision_ask ..).trans (congrArg Ties.decision hties)
  have harb : (ask i ⟨.query, 0, .test⟩ u).arbiter = s.arbiter := (arbiter_ask ..).trans (congrArg Ties.arbiter hties)
  obtain ⟨-, h2, h3⟩ := expiry_kept ((frame_ask ..).trans hframe) ((isDue_ask i ⟨.query, 0, .test⟩ _ u).trans hdue) b
  have hplaced := rec?_ask_placed hrec (x := ⟨.query, 0, .test⟩) (by
    show mergeDrops r.pend _ = false
    cases r.pend <;> simp [mergeDrops])
  have hsteady := steady_finishEvent (i := i) (t := ask i ⟨.query, 0, .test⟩ u) (fun he => by rw [hdec] at he; cases he) b
  obtain ⟨q, hq, hu⟩ := hsteady.record hplaced
  have htest : q.test = some ⟨.q1, c, m⟩ := by
    refine (congrArg Record.test hu :).trans ?_
    show r.test.map _ = _
    rw [ht]
    rfl
  exact ⟨q, hq, (congrArg Record.st hu :).trans hst, htest, (congrArg Record.cd hu :), (congrArg Record.entered hu :),
    hsteady.holds _ _ (holds_pending hplaced rfl), h2, (arbiter_finishEvent hdec b).trans harb, h3⟩

theorem queryBooked_congr (hr : t.roster = s.roster) (hs : t.supply = s.supply) (hc : t.clock = s.clock)
    (hl : t.schedule = s.schedule) (j : Idx) : t.queryBooked j = s.queryBooked j := by
  have hp : t.portOf = s.portOf := funext fun k => by rw [portOf_eq, portOf_eq, hr]
  have ht : t.targets = s.targets := funext fun x => by cases x <;> simp only [State.targets, hp]
  simp only [State.queryBooked, hs, hc, hl, ht]

theorem held_congr {j : Idx} (hr : t.rec? j = s.rec? j) (hs : t.supply = s.supply)
    (he : t.isDue (.expiry j) = s.isDue (.expiry j)) (ha : t.isDue .appointments = s.isDue .appointments)
    (hq : t.queryBooked j = s.queryBooked j) : t.held j = s.held j := by
  have hin : ∀ st, t.isIn st j = s.isIn st j := fun st => by
    unfold State.isIn State.stOf
    rw [hr]
  have hline : t.lifeline j = s.lifeline j := by
    unfold State.lifeline State.ofClass
    rw [hr]
  have hkind : t.intervalKind j = s.intervalKind j := by
    unfold State.intervalKind
    rw [hline, hin, hs]
  simp only [State.held, hin, hkind, hr, he, ha, hq]

/-- Reloading the countdown of a record that no pick was left for ends the event with no pick (R145). -/
theorem finishEvent_reloaded (hr : s.rec? i = some r) (hst : r.st ≠ .carrying ∧ r.st ≠ .fed) :
    finishEvent s (setCountdown i Countdown.again (expiring i s)) =
      clearNotes (setCountdown i Countdown.again (expiring i s)) := by
  have hframe : (setCountdown i Countdown.again (expiring i s)).frame = s.frame :=
    (frame_setCountdown ..).trans (frame_expiring i s)
  have hdecpick : (setCountdown i Countdown.again (expiring i s)).agenda.decision = false ∧
      (setCountdown i Countdown.again (expiring i s)).agenda.pick = false := by
    unfold setCountdown updRec
    split <;> exact ⟨rfl, rfl⟩
  have hdue : ∀ ev : Event, ev ≠ .expiry i →
      (setCountdown i Countdown.again (expiring i s)).isDue ev = s.isDue ev := fun ev he => by
    rw [setCountdown, isDue_dropDue_other he, isDue_updRec]
    exact isDue_dropDue_other he _
  have hrec : ∀ j, j ≠ i → (setCountdown i Countdown.again (expiring i s)).rec? j = s.rec? j := fun j hj => by
    show (updRec i (fun r => { r with cd := r.cd.again }) (expiring i s)).rec? j = _
    rw [rec?_updRec, if_neg hj]
    rfl
  generalize setCountdown i Countdown.again (expiring i s) = v at *
  have hno : releasesPick s v = false := by
    refine List.any_eq_false.mpr fun j _ => ?_
    by_cases hj : j = i
    · subst hj
      have hh : s.held j = false := by simp [State.held, State.isIn, State.stOf, hr, hst]
      simp [hh]
    · have ho : v.outer = s.outer := congrArg Frame.outer hframe
      simp only [State.outer, Prod.mk.injEq] at ho
      obtain ⟨hs, hc, hl, -⟩ := ho
      have hh : v.held j = s.held j := held_congr (hrec j hj) hs (hdue _ fun he => hj (by cases he; rfl))
        (hdue _ fun he => by cases he) (queryBooked_congr (roster_of_fixed (fixed_of_frame hframe)) hs hc hl j)
      simp [hh]
  simp [finishEvent, hdecpick, hno]

/-- The expiry of a wake period (R145). -/
theorem wakePeriod_taken (hr : s.rec? i = some r) (hst : r.st = .resting ∨ r.st = .silent) :
    let t := finishEvent s (expiryEffect i (expiring i s))
    ∃ q, t.rec? i = some q ∧ t.isDue (.expiry i) = false ∧ s.RestKept i t ∧ t.arbiter = s.arbiter ∧ t.meter = s.meter ∧
      (s.supply.mode = .critical ∧ r.cls ≠ .lifeline → q = { r with cd := r.cd.again }) ∧
      (¬(s.supply.mode = .critical ∧ r.cls ≠ .lifeline) →
        q.st = .waking ∧ q.cd.running = false ∧ t.Holds i .wake 0) := by
  have hr' : (expiring i s).rec? i = some r := hr
  have hcond : ((expiring i s).supply.mode = .critical ∧ (expiring i s).lifeline i = false) ↔
      s.supply.mode = .critical ∧ r.cls ≠ .lifeline := by
    have hmode : (expiring i s).supply.mode = s.supply.mode := rfl
    simp [State.lifeline, State.ofClass, hr', hmode]
  have hwork : expiryEffect i (expiring i s) = if s.supply.mode = .critical ∧ r.cls ≠ .lifeline then
      setCountdown i Countdown.again (expiring i s) else enter .waking i (ask i ⟨.wake, 0, .policy⟩ (expiring i s)) := by
    have hs : (expiring i s).stOf i = some r.st := by simp [State.stOf, hr']
    have he : expiryEffect i (expiring i s) = wakePeriodWork i (expiring i s) := by
      unfold expiryEffect
      rw [hs]
      rcases hst with h | h <;> rw [h]
    rw [he, wakePeriodWork]
    exact if_congr hcond rfl rfl
  by_cases hc : s.supply.mode = .critical ∧ r.cls ≠ .lifeline
  · rw [hwork, if_pos hc]
    have hne : r.st ≠ .carrying ∧ r.st ≠ .fed := by rcases hst with h | h <;> rw [h] <;> decide
    obtain ⟨h1, h2, h3⟩ := expiry_kept (frame_setCountdown i Countdown.again (expiring i s)) (by
      rw [setCountdown]; exact isDue_dropDue_self ..) s
    have hfin := finishEvent_reloaded hr hne
    have hrec : (setCountdown i Countdown.again (expiring i s)).rec? i = some { r with cd := r.cd.again } := by
      show (updRec i (fun r => { r with cd := r.cd.again }) (expiring i s)).rec? i = _
      rw [rec?_updRec_self, hr']
      rfl
    have harb : (setCountdown i Countdown.again (expiring i s)).arbiter = s.arbiter :=
      congrArg Ties.arbiter (ties_setCountdown ..)
    refine ⟨_, by rw [hfin]; exact hrec, h1, h2, by rw [hfin]; exact harb, h3, fun _ => rfl, fun hn => absurd hc hn⟩
  · rw [hwork, if_neg hc]
    obtain ⟨y, hy⟩ := rec?_ask hr' ⟨.wake, 0, .policy⟩
    have hne : r.st ≠ .waking := by rcases hst with h | h <;> rw [h] <;> decide
    have hrec := rec?_enterState hy false (st := .waking) hne (by decide)
    have hties := ties_enter (st := .waking) (by decide) i (ask i ⟨.wake, 0, .policy⟩ (expiring i s))
    have hholds : (enter .waking i (ask i ⟨.wake, 0, .policy⟩ (expiring i s))).Holds i .wake 0 := by
      have hh := holds_ask (x := ⟨.wake, 0, .policy⟩) hr' (by decide)
      rw [holds_iff] at hh ⊢
      rw [hties, enter, hrec]
      rw [hy] at hh
      exact hh
    have hframe := (frame_enter .waking i (ask i ⟨.wake, 0, .policy⟩ (expiring i s))).trans (frame_ask ..)
    have hdue : (enter .waking i (ask i ⟨.wake, 0, .policy⟩ (expiring i s))).isDue (.expiry i) = false :=
      isDue_enterState_false (ofTick_expiry i) ((isDue_ask ..).trans (expiring_due i s)) ..
    have hdec : (enter .waking i (ask i ⟨.wake, 0, .policy⟩ (expiring i s))).agenda.decision = false :=
      (congrArg Ties.decision hties).trans (decision_ask ..)
    have harb : (enter .waking i (ask i ⟨.wake, 0, .policy⟩ (expiring i s))).arbiter = s.arbiter :=
      (congrArg Ties.arbiter hties).trans (arbiter_ask ..)
    unfold enter at hrec hholds hframe hdue hdec harb ⊢
    generalize enterState false .waking i (ask i ⟨.wake, 0, .policy⟩ (expiring i s)) = v at *
    obtain ⟨h1, h2, h3⟩ := expiry_kept hframe hdue s
    have hsteady := steady_finishEvent (i := i) (t := v) (fun he => by rw [hdec] at he; cases he) s
    obtain ⟨q, hq, hu⟩ := hsteady.record hrec
    exact ⟨q, hq, h1, h2, (arbiter_finishEvent hdec s).trans harb, h3, fun hn => absurd hn hc,
      fun _ => ⟨(congrArg Record.st hu :), (congrArg (fun r => r.cd.running) hu :), hsteady.holds _ _ hholds⟩⟩

/-- The end of cooling is a decision (R146). -/
theorem cooling_taken (hr : s.rec? i = some r) (hst : r.st = .waiting) (b : State) :
    let t := finishEvent b (expiryEffect i (expiring i s))
    ∃ q, t.rec? i = some q ∧ t.isDue (.expiry i) = false ∧ s.RestKept i t ∧ t.meter = s.meter ∧
      (q.st = .waiting ∨ q.st = .fed) ∧
      (∀ rest, s.arbiter.queue = i :: rest → r.cd.running = false → r.ceiling + s.budget ≤ s.cfg.busCap →
        s.supply.mode = .outage ∨ s.supply.mode = .critical →
        q.st = .fed ∧ q.admitted = some r.ceiling ∧ i ∈ t.arbiter.feedList) := by
  have hr' : (callDecision (expiring i s)).rec? i = some r := hr
  have hwork : expiryEffect i (expiring i s) = callDecision (expiring i s) := by
    have hs : (expiring i s).stOf i = some .waiting := by
      show (s.rec? i).map _ = _
      rw [hr, Option.map_some, hst]
    unfold expiryEffect
    rw [hs]
    rfl
  rw [hwork]
  obtain ⟨h1, h2, h3⟩ := expiry_kept (v := callDecision (expiring i s)) (frame_callDecision _) (expiring_due i s) b
  obtain ⟨q, hq, -⟩ := terms_finishEvent hr' b
  refine ⟨q, hq, h1, h2, h3, waiting_finishEvent hr' hst b hq, fun rest hrest hrun hfits hm => ?_⟩
  have hadmit : ∃ n, decided (callDecision (expiring i s)) = decideLoop n (admitMember i (callDecision (expiring i s))) := by
    have hnm : ¬((callDecision (expiring i s)).supply.mode = .mains ∨ (callDecision (expiring i s)).supply.mode = .depleted) := by
      show ¬(s.supply.mode = .mains ∨ s.supply.mode = .depleted)
      rcases hm with h | h <;> rw [h] <;> decide
    have hcool : (callDecision (expiring i s)).cooling i = false := by
      have hdue : (callDecision (expiring i s)).isDue (.expiry i) = false := expiring_due i s
      simp [State.cooling, hr', hrun, hdue]
    have hcand : (callDecision (expiring i s)).candidate = some i := by
      have hqu : (callDecision (expiring i s)).arbiter.queue = i :: rest := hrest
      rw [State.candidate, hqu]
      simp [hcool]
    have hfit : (callDecision (expiring i s)).ceilingOf i + (callDecision (expiring i s)).budget ≤
        (callDecision (expiring i s)).cfg.busCap := by
      simp only [State.ceilingOf, hr']
      exact hfits
    refine ⟨rest.length, ?_⟩
    show decideAdmission (callDecision (expiring i s)) = _
    rw [decideAdmission, if_neg hnm, show (callDecision (expiring i s)).arbiter.queue.length = rest.length + 1 from
      congrArg List.length hrest, decideLoop, hcand]
    exact if_pos hfit
  obtain ⟨n, hn⟩ := hadmit
  generalize callDecision (expiring i s) = v at *
  have hfed : ∃ x, (admitMember i v).rec? i = some x ∧ x.st = .fed ∧ x.admitted = some r.ceiling := by
    have hslot : (admitSlot i v).rec? i = some { r with admitted := some r.ceiling } := by
      refine (rec?_updRec_self ..).trans ?_
      show Option.map _ (v.rec? i) = _
      rw [hr']
      rfl
    have he := rec?_enterState hslot false (st := .fed) (by rw [hst]; decide) (by decide)
    obtain ⟨hf, -⟩ | ⟨x, -, h | ⟨e, -, h⟩⟩ := admitMember_cases i v
    · rw [hr'] at hf; cases hf
    · exact ⟨_, by rw [h]; exact he, rfl, rfl⟩
    · obtain ⟨z, hz⟩ := rec?_ask he e
      exact ⟨_, by rw [h]; exact hz, rfl, rfl⟩
  have hcoll : i ∉ (admitMember i v).arbiter.queue ∧ i ∈ (admitMember i v).arbiter.feedList := by
    obtain ⟨hf, -⟩ | ⟨x, -, ht⟩ := ties_admitMember i v
    · rw [hr'] at hf; cases hf
    · have ha : (admitMember i v).arbiter = _ := congrArg Ties.arbiter ht
      rw [ha]
      simp
  obtain ⟨⟨x, hx, hxs, hxa⟩, -, hfl⟩ := decideLoop_keeps
    (Q := fun u => (∃ x, u.rec? i = some x ∧ x.st = .fed ∧ x.admitted = some r.ceiling) ∧
      i ∉ u.arbiter.queue ∧ i ∈ u.arbiter.feedList)
    (fun u j hj ⟨⟨x, hx, hxs⟩, hnq, hfl⟩ => by
      have hp := past_admitMember (.inl hnq) hj
      refine ⟨⟨x, hp.1.slot.trans hx, hxs⟩, hp.1.waits hnq, ?_⟩
      obtain ⟨-, he⟩ | ⟨y, -, ht⟩ := ties_admitMember j u
      · rw [he]; exact hfl
      · have ha : (admitMember j u).arbiter = _ := congrArg Ties.arbiter ht
        rw [ha]
        exact List.mem_append_left _ hfl) n ⟨hfed, hcoll⟩
  rw [← hn] at hx hfl
  have hfin : (∃ y, (finishEvent b v).rec? i = some y ∧ y.unpended = x.unpended) ∧
      i ∈ (finishEvent b v).arbiter.feedList := by
    obtain he | he := finishEvent_cases b v
    · rw [he]; exact ⟨⟨x, hx, rfl⟩, hfl⟩
    · rw [he]
      exact ⟨(steady_pickBoth i (decided v)).record hx, (arbiter_pickBoth (decided v)).symm ▸ hfl⟩
  obtain ⟨⟨y, hy, hu⟩, hfl'⟩ := hfin
  cases Option.some.inj (hy.symm.trans hq)
  exact ⟨(congrArg Record.st hu :).trans hxs, (congrArg Record.admitted hu :).trans hxa, hfl'⟩

end Expiry

/-- Settles O55: each row takes the expiry in the states that it names; its work asks for one exchange, reloads the
countdown, or calls for a decision. -/
theorem expiries : Obligations.Expiries := by
  unfold Obligations.Expiries
  intro i r s hawake hdue hr
  have taken : ∀ x y : RState, r.st = x ∨ r.st = y →
      live (expireIn x y i) s = finishEvent s (expiryEffect i (expiring i s)) := fun x y hst => by
    rw [live_awake hawake, expireIn_due hdue hr hst]
  refine ⟨fun hst => ?_, fun hst => ?_, fun hst => ?_, fun c m hst ht => ?_⟩
  · obtain ⟨q, h⟩ := queryInterval_taken hr hst s
    exact ⟨_, q, congrArg Host.Outcome.next (taken _ _ hst), h⟩
  · obtain ⟨q, h⟩ := wakePeriod_taken hr hst
    exact ⟨_, q, congrArg Host.Outcome.next (taken _ _ hst), h⟩
  · obtain ⟨q, h⟩ := cooling_taken hr hst s
    exact ⟨_, q, congrArg Host.Outcome.next (taken _ _ (.inl hst)), h⟩
  · obtain ⟨q, h⟩ := testWindow_taken hr hst ht s
    exact ⟨_, q, congrArg Host.Outcome.next (taken _ _ (.inl hst)), h⟩

end Sys2Proof.Machine
end

section
/-! The tick, from the state it begins in to the supply controller's counts: the clock, the scan, the countdowns, and what
the controller makes due (R10, R29, R34 to R36, R65, R66, R149). -/

namespace Sys2Proof.Machine

open Sys2Proof

/-! ### The countdowns (R10) -/

/-- A fold over distinct elements leads from one predicate to another at one of them, where the other elements keep both. -/
theorem foldl_through {α : Type} {Q R : State → Prop} {f : State → α → State} {a : α}
    (before : ∀ s b, b ≠ a → Q s → Q (f s b)) (here : ∀ s, Q s → R (f s a)) (after : ∀ s b, b ≠ a → R s → R (f s b))
    {l : List α} (hl : l.Nodup) (ha : a ∈ l) {s : State} (hs : Q s) : R (l.foldl f s) := by
  have rest : ∀ {P : State → Prop}, (∀ s b, b ≠ a → P s → P (f s b)) → ∀ (m : List α) (t : State), a ∉ m → P t →
      P (m.foldl f t) := fun {P} hP m t hm ht =>
    List.foldlRecOn (motive := P) m f ht fun u hu b hb => hP u b (fun he => hm (he ▸ hb)) hu
  obtain ⟨as, bs, rfl⟩ := List.append_of_mem ha
  have hd := List.nodup_append.mp hl
  have has : a ∉ as := fun h => hd.2.2 a h a (List.mem_cons_self ..) rfl
  have hbs : a ∉ bs := (List.nodup_cons.mp hd.2.1).1
  rw [List.foldl_append, List.foldl_cons]
  exact rest after bs _ hbs (here _ (rest before as s has hs))

theorem countRecord_self {s : State} {i : Idx} {r : Record} (hr : s.rec? i = some r) :
    (countRecord s i).rec? i = some { r with cd := r.cd.counted } ∧
      (countRecord s i).isDue (.expiry i) = (s.isDue (.expiry i) || r.cd.expires) := by
  unfold countRecord
  rw [hr]
  dsimp only
  cases he : r.cd.expires with
  | false =>
    rw [if_neg (by decide)]
    exact ⟨rec?_setRec_self .., (Bool.or_false _).symm⟩
  | true =>
    rw [if_pos rfl]
    refine ⟨rec?_setRec_self i _ s, ?_⟩
    rw [isDue_makeDue]
    simp

theorem countRecord_other {s : State} {i j : Idx} (hj : j ≠ i) : (countRecord s j).rec? i = s.rec? i ∧
    (countRecord s j).isDue (.expiry i) = s.isDue (.expiry i) := by
  unfold countRecord
  split
  · exact ⟨rfl, rfl⟩
  · next r hr =>
    have hs : (setRec j (some { r with cd := r.cd.counted }) s).rec? i = s.rec? i := by
      rw [rec?_setRec, if_neg hj.symm]
    dsimp only
    split
    · refine ⟨hs, ?_⟩
      rw [isDue_makeDue, decide_eq_false fun he => hj (by cases he; rfl), Bool.or_false]
      rfl
    · exact ⟨hs, rfl⟩

/-- A tick of the countdowns, at one record (R10). -/
theorem countDown_at {s : State} {i : Idx} {r : Record} (hr : s.rec? i = some r) :
    (countDown s).rec? i = some { r with cd := r.cd.counted } ∧
      (countDown s).isDue (.expiry i) = (s.isDue (.expiry i) || r.cd.expires) := by
  have hl : allIdx.Nodup := List.nodup_finRange 64
  have hm : i ∈ allIdx := List.mem_finRange i
  unfold countDown
  generalize allIdx = l at *
  exact foldl_through
    (Q := fun t => t.rec? i = some r ∧ t.isDue (.expiry i) = s.isDue (.expiry i))
    (R := fun t => t.rec? i = some { r with cd := r.cd.counted } ∧
      t.isDue (.expiry i) = (s.isDue (.expiry i) || r.cd.expires))
    (fun t j hj ht => ⟨(countRecord_other hj).1.trans ht.1, (countRecord_other hj).2.trans ht.2⟩)
    (fun t ht => by
      obtain ⟨h3, h4⟩ := countRecord_self ht.1
      exact ⟨h3, by rw [h4, ht.2]⟩)
    (fun t j hj ht => ⟨(countRecord_other hj).1.trans ht.1, (countRecord_other hj).2.trans ht.2⟩) hl hm ⟨hr, rfl⟩

theorem isDue_countDown {ev : Event} (h : ∀ i, ev ≠ .expiry i) (s : State) : (countDown s).isDue ev = s.isDue ev := by
  have hone : ∀ t i, (countRecord t i).isDue ev = t.isDue ev := fun t i => by
    unfold countRecord
    split
    · rfl
    · dsimp only
      split
      · rw [isDue_makeDue, decide_eq_false (h i), Bool.or_false]
        rfl
      · rfl
  unfold countDown
  generalize allIdx = l
  exact foldl_keeps (Q := fun t => t.isDue ev = s.isDue ev) (fun t i ht => (hone t i).trans ht) l rfl

/-! ### The scan -/

/-- A cell but for its scan code. -/
def Cell.unscanned (c : Cell) : Cell := { c with lastScan := 0 }

/-- The scan's values, ahead of the cells' codes (R65). -/
def scanned (sc : Scan) (s : State) : State :=
  { s with meter := { s.meter with lastBus := sc.bus.toNat, lastVolt := sc.volt.toNat }
           tick := ⟨sc.bias, allPorts.filter (s.spaceOn sc), []⟩ }

/-- One cell takes its code. -/
def scanPort (sc : Scan) (s : State) (p : Port) : State := updCell p (fun c => { c with lastScan := sc.codes[p].toNat }) s

/-- The scan writes each cell's code, and no other part of a cell (R46, R65). -/
theorem storeScan_spec (sc : Scan) (s : State) : (∃ c, storeScan sc s = { scanned sc s with cells := c }) ∧
    (∀ p : Port, (storeScan sc s).cells[p].lastScan = sc.codes[p].toNat) ∧
    ∀ p : Port, ((storeScan sc s).cells[p]).unscanned = (s.cells[p]).unscanned := by
  have hm : ∀ p : Port, p ∈ allPorts := List.mem_finRange
  have he : storeScan sc s = allPorts.foldl (scanPort sc) (scanned sc s) := rfl
  have hc : (scanned sc s).cells = s.cells := rfl
  rw [he, ← hc]
  generalize scanned sc s = u
  generalize allPorts = l at hm ⊢
  refine ⟨?_, fun p => ?_, fun p => ?_⟩
  · exact foldl_keeps (Q := fun t => ∃ c, t = { u with cells := c }) (fun t q h => by
      obtain ⟨c, rfl⟩ := h
      exact ⟨_, rfl⟩) l ⟨u.cells, rfl⟩
  · refine foldl_each (P := fun q (t : State) => t.cells[q].lastScan = sc.codes[q].toNat) (fun t q => ?_)
      (fun t q q' hq => ?_) l u p (hm p)
    · rw [scanPort, cells_updCell, if_pos rfl]
    · rw [scanPort, cells_updCell]
      split
      · next h => rw [h]
      · exact hq
  · refine foldl_keeps (Q := fun t : State => (t.cells[p]).unscanned = (u.cells[p]).unscanned) (fun t q ht => ?_) l rfl
    refine Eq.trans ?_ ht
    rw [scanPort, cells_updCell]
    split
    · next h => subst h; rfl
    · rfl

/-! ### The beginning of a tick -/

/-- A tick up to the meter's work: the clock, the mark, the scan, the countdowns, and what they make due. -/
def tickStart (sc : Scan) (s : State) : State :=
  markSamples (markAppointments (countDown (storeScan sc (takeUpMark (advanceClock s)))))

theorem settleBefore_quiet {s : State} (h : s.agenda.due = []) (o : TickOrder) : settleBefore o s = s := by
  have hd : ∀ e, s.isDue (.complete e) = false := fun e => by simp [State.isDue, h]
  unfold settleBefore
  simp only [hd, Bool.false_and, List.filter_false, List.foldl_nil, List.filter_nil]
  exact settle_quiet s h

theorem tickWork_quiet {s : State} (h : s.agenda.due = []) (sc : Scan) (o : TickOrder) : tickWork sc o s =
    orderAgenda (allPorts.foldl (lateSample o.late) (event (supplyTick sc)
      (o.mid.foldl takePart (event (debitPass sc) (o.early.foldl takePart (tickStart sc s)))))) := by
  unfold tickWork tickStart
  rw [settleBefore_quiet h]

theorem markAppointments_eq (s : State) : markAppointments s = s ∨ markAppointments s = makeDue .appointments s := by
  unfold markAppointments
  split
  · exact .inr rfl
  · exact .inl rfl

/-- What the samples' marks leave: everything but the facts of the tick and what is due. -/
theorem markSamples_spec (s : State) : (∃ d, markSamples s =
      { s with tick := { s.tick with calls := allPorts.filter s.callInWindow }, agenda := { s.agenda with due := d } }) ∧
    ∀ ev : Event, (∀ p, ev ≠ .sample p) → (markSamples s).isDue ev = s.isDue ev := by
  unfold markSamples
  dsimp only
  generalize (allPorts.filter fun p => (s.boundAt p).isSome) = l
  generalize allPorts.filter s.callInWindow = k
  constructor
  · exact foldl_keeps (Q := fun t => ∃ d : List Event, t =
      { s with tick := { s.tick with calls := k }, agenda := { s.agenda with due := d } })
      (fun t p h => by
        obtain ⟨d, rfl⟩ := h
        exact ⟨_, rfl⟩) l ⟨s.agenda.due, rfl⟩
  · intro ev hev
    refine foldl_keeps (Q := fun t : State => t.isDue ev = s.isDue ev) (fun t p ht => ?_) l rfl
    rw [isDue_makeDue, decide_eq_false (hev p), Bool.or_false, ht]

/-- The clock and the mark, as a tick begins (R75, R149). -/
def tickClock (s : State) : State := takeUpMark (advanceClock s)

/-- The mark that a tick takes up (R75, log entry 4). -/
theorem fixed_tickClock (s : State) : (tickClock s).fixed = { s.fixed with
      clock := s.clock + 1, now := if s.meter.mark = .clear then s.meter.now else s.meter.mark } ∧
    (tickClock s).link = s.link ∧ (tickClock s).slots = s.slots ∧ (tickClock s).cells = s.cells ∧
    (tickClock s).arbiter = s.arbiter ∧ (tickClock s).agenda = s.agenda ∧ (tickClock s).schedule = s.schedule ∧
    (tickClock s).dev = s.dev := by
  have hm : (advanceClock s).meter = s.meter := rfl
  unfold tickClock takeUpMark
  rw [hm]
  cases s.meter.mark <;> exact ⟨rfl, rfl, rfl, rfl, rfl, rfl, rfl, rfl⟩

/-- The ports whose samples fall in a downstream space, as the tick begins (R46). -/
theorem spaceOn_congr {s t : State} (h : t.link = s.link) (sc : Scan) (p : Port) : t.spaceOn sc p = s.spaceOn sc p := by
  have he : ∀ e, t.engine e = s.engine e := fun e => by unfold State.engine; rw [h]
  have ho : t.engineOn p = s.engineOn p := by
    have hon : t.engagedOn p = s.engagedOn p := funext fun e => by unfold State.engagedOn; rw [he]
    unfold State.engineOn
    rw [hon]
  unfold State.spaceOn State.sendsOn
  rw [ho, funext he]

/-- The state in which a tick's countdowns run. -/
def tickScanned (sc : Scan) (s : State) : State := storeScan sc (tickClock s)

theorem tickStart_eq (sc : Scan) (s : State) : tickStart sc s = markSamples (markAppointments (countDown (tickScanned sc s))) :=
  rfl

theorem fixed_storeScan (sc : Scan) (s : State) : (storeScan sc s).fixed = { s.fixed with
    scans := fun p => sc.codes[p].toNat, codes := (sc.bus.toNat, sc.volt.toNat)
    facts := ⟨sc.bias, allPorts.filter (s.spaceOn sc), []⟩ } := by
  obtain ⟨⟨c, hc⟩, hscan, -⟩ := storeScan_spec sc s
  have hs : (fun p : Port => (storeScan sc s).cells[p].lastScan) = fun p => sc.codes[p].toNat := funext hscan
  unfold State.fixed
  rw [hs, hc]
  rfl

theorem fixed_tickStart (sc : Scan) (s : State) : ∃ k, (tickStart sc s).fixed = { s.fixed with
    scans := fun p => sc.codes[p].toNat, clock := s.clock + 1, codes := (sc.bus.toNat, sc.volt.toNat)
    now := if s.meter.mark = .clear then s.meter.now else s.meter.mark
    facts := ⟨sc.bias, allPorts.filter (s.spaceOn sc), k⟩ } := by
  obtain ⟨hf, hl, -⟩ := fixed_tickClock s
  have hscan := fixed_storeScan sc (tickClock s)
  rw [hf, funext (spaceOn_congr hl sc)] at hscan
  have happ : (markAppointments (countDown (tickScanned sc s))).fixed = (tickScanned sc s).fixed := by
    have hc := fixed_of_frame (frame_countDown (tickScanned sc s))
    obtain h | h := markAppointments_eq (countDown (tickScanned sc s))
    · rw [h, hc]
    · rw [h, fixed_of_frame (frame_makeDue rfl _), hc]
  have hmark : ∀ u : State, ∃ k, (markSamples u).fixed = { u.fixed with facts := { u.tick with calls := k } } := fun u => by
    have hd : ∀ (t : State) (p : Port), (makeDue (.sample p) t).fixed = t.fixed := fun t p =>
      fixed_of_frame (frame_makeDue rfl t)
    exact ⟨allPorts.filter u.callInWindow, fixed_foldl _ hd _ _⟩
  have hw : (markAppointments (countDown (tickScanned sc s))).fixed = _ := happ.trans hscan
  rw [tickStart_eq]
  generalize markAppointments (countDown (tickScanned sc s)) = w at hw
  obtain ⟨k, hk⟩ := hmark w
  have ht : w.tick = ⟨sc.bias, allPorts.filter (s.spaceOn sc), []⟩ := congrArg Fixed.facts hw
  exact ⟨k, by rw [hk, hw, ht]⟩

end Sys2Proof.Machine
end

section
/-! The supply controller's part of a tick: its counts, what they make due, and the evaluation of the mode (R29, R31, R34 to
R36). -/

namespace Sys2Proof.Machine

open Sys2Proof

/-- The undervoltage run and the two mains counts of a tick, behind the debit of Q (R29, R34, R35). -/
def supplyCounts (sc : Scan) (s : State) : State := mainsTick sc.mains (uvTick sc.volt.toNat (debitQ sc.bus.toNat s))

/-- The supply controller behind its counts. -/
def Supply.counted (sc : Scan) (g : Settings) (c : Supply) : Supply :=
  { c with
    q := if c.mode = .mains then c.q else c.q.map fun q => q - 20 * sc.bus.toNat
    uvRun := nextUvRun g.uvFloor c.uvRun sc.volt.toNat
    lastMains := some sc.mains
    failCount := if c.mode = .mains then (if sc.mains then 0 else min (g.failDebounce * 10) (c.failCount + 1)) else c.failCount
    returnCount := if c.mode = .mains then c.returnCount
      else if sc.mains then min (g.returnDebounce * 10) (c.returnCount + 1) else 0
    held := if c.mode = .mains ∧ sc.mains = true then false else c.held }

/-- The counts of a tick make an event of the supply controller due (R30, R31, R35). -/
def Supply.ripe (sc : Scan) (g : Settings) (c : Supply) : Event → Prop
  | .latch => nextUvRun g.uvFloor c.uvRun sc.volt.toNat = 3 ∧ c.latch = false
  | .failDebounce => c.mode = .mains ∧ sc.mains = false ∧ g.failDebounce * 10 ≤ c.failCount + 1 ∧ c.held = false
  | .returnDebounce => c.mode ≠ .mains ∧ sc.mains = true ∧ g.returnDebounce * 10 ≤ c.returnCount + 1
  | _ => False

section Counts

variable {s : State} (sc : Scan)

theorem supply_supplyCounts (s : State) : (supplyCounts sc s).supply = s.supply.counted sc s.cfg := by
  have hq : (debitQ sc.bus.toNat s).supply = { s.supply with
        q := if s.supply.mode = .mains then s.supply.q else s.supply.q.map fun q => q - 20 * sc.bus.toNat } ∧
      (debitQ sc.bus.toNat s).cfg = s.cfg := by
    unfold debitQ
    split <;> exact ⟨rfl, rfl⟩
  have hu : ∀ (t : State) (v : Nat), (uvTick v t).supply =
        { t.supply with uvRun := nextUvRun t.cfg.uvFloor t.supply.uvRun v } ∧ (uvTick v t).cfg = t.cfg := fun t v => by
    unfold uvTick
    dsimp only
    split <;> exact ⟨rfl, rfl⟩
  have hm : ∀ (t : State) (b : Bool), (mainsTick b t).supply = { t.supply with
      lastMains := some b
      failCount := if t.supply.mode = .mains then (if b then 0 else min (t.cfg.failDebounce * 10) (t.supply.failCount + 1))
        else t.supply.failCount
      returnCount := if t.supply.mode = .mains then t.supply.returnCount
        else if b then min (t.cfg.returnDebounce * 10) (t.supply.returnCount + 1) else 0
      held := if t.supply.mode = .mains ∧ b = true then false else t.supply.held } := fun t b => by
    unfold mainsTick
    dsimp only
    by_cases hmode : t.supply.mode = .mains
    · cases b with
      | true => simp only [hmode, if_true, and_true]
      | false =>
        simp only [hmode, if_true, Bool.false_eq_true, if_false, and_false]
        split <;> rfl
    · cases b with
      | true =>
        simp only [hmode, if_true, if_false, false_and]
        split <;> rfl
      | false => simp only [hmode, if_false, false_and, Bool.false_eq_true]
  unfold supplyCounts
  rw [hm, (hu _ _).1, (hu _ _).2, hq.1, hq.2]
  rfl

/-- The counts leave everything but the supply controller and what is due. -/
theorem supplyCounts_parts (s : State) : ∃ d, supplyCounts sc s =
    { s with supply := s.supply.counted sc s.cfg, agenda := { s.agenda with due := d } } := by
  have hq : ∃ c, debitQ sc.bus.toNat s = { s with supply := c } := by
    unfold debitQ
    split
    · exact ⟨_, rfl⟩
    · exact ⟨_, rfl⟩
  have hu : ∀ (t : State) (v : Nat), ∃ c d, uvTick v t = { t with supply := c, agenda := { t.agenda with due := d } } :=
    fun t v => by
      unfold uvTick
      dsimp only
      split
      · exact ⟨_, _, rfl⟩
      · exact ⟨_, _, rfl⟩
  have hm : ∀ (t : State) (b : Bool), ∃ c d, mainsTick b t = { t with supply := c, agenda := { t.agenda with due := d } } :=
    fun t b => by
      unfold mainsTick
      dsimp only
      split
      · split
        · exact ⟨_, _, rfl⟩
        · split
          · exact ⟨_, _, rfl⟩
          · exact ⟨_, _, rfl⟩
      · split
        · split
          · exact ⟨_, _, rfl⟩
          · exact ⟨_, _, rfl⟩
        · exact ⟨_, _, rfl⟩
  have hs := supply_supplyCounts sc s
  unfold supplyCounts at hs ⊢
  obtain ⟨c1, h1⟩ := hq
  obtain ⟨c2, d2, h2⟩ := hu (debitQ sc.bus.toNat s) sc.volt.toNat
  obtain ⟨c3, d3, h3⟩ := hm (uvTick sc.volt.toNat (debitQ sc.bus.toNat s)) sc.mains
  rw [← hs, h3, h2, h1]
  exact ⟨d3, rfl⟩

/-- What is due behind the counts. -/
theorem isDue_supplyCounts (s : State) (ev : Event) :
    (supplyCounts sc s).isDue ev = true ↔ s.isDue ev = true ∨ s.supply.ripe sc s.cfg ev := by
  have hq : (debitQ sc.bus.toNat s).isDue ev = s.isDue ev ∧ (debitQ sc.bus.toNat s).cfg = s.cfg ∧
      (debitQ sc.bus.toNat s).supply.uvRun = s.supply.uvRun ∧ (debitQ sc.bus.toNat s).supply.latch = s.supply.latch ∧
      (debitQ sc.bus.toNat s).supply.mode = s.supply.mode ∧ (debitQ sc.bus.toNat s).supply.failCount = s.supply.failCount ∧
      (debitQ sc.bus.toNat s).supply.returnCount = s.supply.returnCount ∧
      (debitQ sc.bus.toNat s).supply.held = s.supply.held := by
    unfold debitQ
    split <;> exact ⟨rfl, rfl, rfl, rfl, rfl, rfl, rfl, rfl⟩
  have hu : ∀ (t : State) (v : Nat), ((uvTick v t).isDue ev = true ↔ t.isDue ev = true ∨
        ev = .latch ∧ nextUvRun t.cfg.uvFloor t.supply.uvRun v = 3 ∧ t.supply.latch = false) ∧
      (uvTick v t).cfg = t.cfg ∧ (uvTick v t).supply.mode = t.supply.mode ∧
      (uvTick v t).supply.failCount = t.supply.failCount ∧ (uvTick v t).supply.returnCount = t.supply.returnCount ∧
      (uvTick v t).supply.held = t.supply.held := fun t v => by
    unfold uvTick
    dsimp only
    split
    · next h =>
      refine ⟨?_, rfl, rfl, rfl, rfl, rfl⟩
      rw [isDue_makeDue, Bool.or_eq_true, decide_eq_true_eq]
      simp only [h, and_self, and_true]
      exact Iff.rfl
    · next h =>
      refine ⟨?_, rfl, rfl, rfl, rfl, rfl⟩
      simp only [h, and_false, or_false]
      exact Iff.rfl
  have hm : ∀ (t : State) (b : Bool), (mainsTick b t).isDue ev = true ↔ t.isDue ev = true ∨
      ev = .failDebounce ∧ t.supply.mode = .mains ∧ b = false ∧ t.cfg.failDebounce * 10 ≤ t.supply.failCount + 1 ∧
        t.supply.held = false ∨
      ev = .returnDebounce ∧ t.supply.mode ≠ .mains ∧ b = true ∧
        t.cfg.returnDebounce * 10 ≤ t.supply.returnCount + 1 := fun t b => by
    have hmin : ∀ a c : Nat, min a c = a ↔ a ≤ c := fun a c => min_eq_left_iff
    unfold mainsTick
    dsimp only
    by_cases hmode : t.supply.mode = .mains
    · rw [if_pos hmode]
      cases b with
      | true => simp [hmode, State.isDue]
      | false =>
        simp only [Bool.false_eq_true, if_false, hmin]
        split
        · next h =>
          rw [isDue_makeDue, Bool.or_eq_true, decide_eq_true_eq]
          simp [hmode, h, State.isDue]
        · next h => simp [hmode, h, State.isDue]
    · rw [if_neg hmode]
      cases b with
      | false => simp [hmode, State.isDue]
      | true =>
        simp only [if_true, hmin]
        split
        · next h =>
          rw [isDue_makeDue, Bool.or_eq_true, decide_eq_true_eq]
          simp [hmode, h, State.isDue]
        · next h => simp [hmode, h, State.isDue]
  obtain ⟨q1, q2, q3, q4, q5, q6, q7, q8⟩ := hq
  obtain ⟨u1, u2, u3, u4, u5, u6⟩ := hu (debitQ sc.bus.toNat s) sc.volt.toNat
  unfold supplyCounts
  rw [hm, u1, u2, u3, u4, u5, u6, q1, q2, q3, q4, q5, q6, q7, q8, or_assoc]
  refine or_congr_right ?_
  cases ev <;> simp [Supply.ripe]

theorem supplyTick_eq (s : State) : supplyTick sc s =
    if (supplyCounts sc s).isDue .latch || (supplyCounts sc s).isDue .failDebounce || (supplyCounts sc s).isDue .returnDebounce
    then supplyCounts sc s else evaluateTick (supplyCounts sc s) := rfl

end Counts

/-! ### The evaluation (R36) -/

/-- The mode that an evaluation selects is not MAINS. -/
theorem selectMode_ne_mains (q h k : Nat) (b : Bool) : selectMode q h k b ≠ .mains := by
  unfold selectMode
  split
  · decide
  · split <;> decide

/-- An evaluation leaves the part, or enters a mode other than MAINS. -/
theorem evaluateTick_cases (s : State) : evaluateTick s = s ∨ ∃ q, s.supply.q = some q ∧
    (s.supply.mode = .outage ∨ s.supply.mode = .critical) ∧
    selectMode q s.cfg.holdBack s.cfg.cutoff s.supply.latch ≠ s.supply.mode ∧
    evaluateTick s = enterMode (selectMode q s.cfg.holdBack s.cfg.cutoff s.supply.latch) s := by
  have he : (s.supply.mode = .outage ∨ s.supply.mode = .critical) → (enterSelected s = s ∨ ∃ q, s.supply.q = some q ∧
      (s.supply.mode = .outage ∨ s.supply.mode = .critical) ∧
      selectMode q s.cfg.holdBack s.cfg.cutoff s.supply.latch ≠ s.supply.mode ∧
      enterSelected s = enterMode (selectMode q s.cfg.holdBack s.cfg.cutoff s.supply.latch) s) := fun hm => by
    unfold enterSelected
    split
    · exact .inl rfl
    · next q hq =>
      dsimp only
      split
      · exact .inl rfl
      · next hne => exact .inr ⟨q, hq, hm, hne, rfl⟩
  unfold evaluateTick
  split
  · next h => exact he (.inl h)
  · next h => exact he (.inr h)
  · exact .inl rfl
  · exact .inl rfl

/-- In OUTAGE and CRITICAL with Q set, an evaluation enters the selected mode where it is another (R36). -/
theorem evaluateTick_selects {s : State} {q : Nat} (hm : s.supply.mode = .outage ∨ s.supply.mode = .critical)
    (hq : s.supply.q = some q) : evaluateTick s =
      if selectMode q s.cfg.holdBack s.cfg.cutoff s.supply.latch = s.supply.mode then s
      else enterMode (selectMode q s.cfg.holdBack s.cfg.cutoff s.supply.latch) s := by
  have he : evaluateTick s = enterSelected s := by
    unfold evaluateTick
    rcases hm with h | h <;> rw [h]
  rw [he, enterSelected, hq]

theorem evaluateTick_stays {s : State} (hm : s.supply.mode = .mains ∨ s.supply.mode = .depleted) : evaluateTick s = s := by
  unfold evaluateTick
  rcases hm with h | h <;> rw [h]

/-- An entry into a mode other than MAINS keeps what the tick counts of the supply controller but for the mains counts. -/
theorem supply_enterMode {m : Mode} (hm : m ≠ .mains) (s : State) : (enterMode m s).supply =
    { s.supply with mode := m, failCount := 0, returnCount := 0, held := false } := by
  have h : (enterMode m s).supply = s.supply.entered m := congrArg Fixed.supply (fixed_enterMode m s)
  rw [h, Supply.entered, if_neg hm, if_neg hm]

end Sys2Proof.Machine
end

section
/-! The supply controller's part of a tick as a whole, and the end of the tick. -/

namespace Sys2Proof.Machine

open Sys2Proof

theorem isDue_of_meterDue {s t : State} {ev : Event} (hev : ev.ofMeter = true) (h : t.meterDue = s.meterDue) :
    t.isDue ev = s.isDue ev := by
  have hm : ∀ u : State, u.isDue ev = u.meterDue.contains ev := fun u => by
    rw [Bool.eq_iff_iff, List.contains_iff_mem, State.meterDue, List.mem_filter, State.isDue, List.contains_iff_mem]
    simp [hev]
  rw [hm, hm, h]

theorem isDue_of_fixed {s t : State} {ev : Event} (hev : ev.ofMeter = true) (h : t.fixed = s.fixed) :
    t.isDue ev = s.isDue ev := isDue_of_meterDue hev (congrArg Fixed.due h)

/-- What the supply controller's part of a tick can do: its counts alone, or an entry into a mode other than MAINS. -/
theorem supplyTick_cases (sc : Scan) (s : State) : supplyTick sc s = supplyCounts sc s ∨
    ∃ m, m ≠ .mains ∧ m ≠ s.supply.mode ∧ supplyTick sc s = enterMode m (supplyCounts sc s) := by
  rw [supplyTick_eq]
  split
  · exact .inl rfl
  · obtain h | ⟨q, -, -, hne, h⟩ := evaluateTick_cases (supplyCounts sc s)
    · exact .inl h
    · refine .inr ⟨_, selectMode_ne_mains _ _ _ _, ?_, h⟩
      have hm : (supplyCounts sc s).supply.mode = s.supply.mode := by rw [supply_supplyCounts]; rfl
      rw [← hm]
      exact hne

/-- The supply controller's part of a tick leaves the rest of the fixed part. -/
theorem fixed_supplyTick (sc : Scan) (s : State) : (supplyTick sc s).fixed =
    { s.fixed with supply := (supplyTick sc s).supply, due := (supplyCounts sc s).meterDue } := by
  have hc : (supplyCounts sc s).fixed =
      { s.fixed with supply := (supplyCounts sc s).supply, due := (supplyCounts sc s).meterDue } := by
    obtain ⟨d, hd⟩ := supplyCounts_parts sc s
    rw [hd]
    rfl
  obtain h | ⟨m, -, -, h⟩ := supplyTick_cases sc s
  · rw [h]; exact hc
  · have he := fixed_enterMode m (supplyCounts sc s)
    have hs : (enterMode m (supplyCounts sc s)).supply = (supplyCounts sc s).supply.entered m := congrArg Fixed.supply he
    rw [h, he, hc, hs]

/-- What a tick keeps of the supply controller's counts in every case. -/
theorem supply_supplyTick (sc : Scan) (s : State) : (supplyTick sc s).supply.lastMains = some sc.mains ∧
    (supplyTick sc s).supply.latch = s.supply.latch ∧
    (supplyTick sc s).supply.q = (s.supply.counted sc s.cfg).q ∧
    (supplyTick sc s).supply.uvRun = nextUvRun s.cfg.uvFloor s.supply.uvRun sc.volt.toNat := by
  obtain h | ⟨m, hm, -, h⟩ := supplyTick_cases sc s
  · rw [h, supply_supplyCounts]
    exact ⟨rfl, rfl, rfl, rfl⟩
  · rw [h, supply_enterMode hm, supply_supplyCounts]
    exact ⟨rfl, rfl, rfl, rfl⟩

/-- With nothing of the supply controller due ahead of the tick, an event of it is due behind its part where the counts are
ripe. -/
theorem isDue_supplyTick {sc : Scan} {s : State} {ev : Event} (hev : ev.ofMeter = true) (h : s.isDue ev = false) :
    (supplyTick sc s).isDue ev = true ↔ s.supply.ripe sc s.cfg ev := by
  have hd : (supplyTick sc s).isDue ev = (supplyCounts sc s).isDue ev :=
    isDue_of_meterDue hev (congrArg Fixed.due (fixed_supplyTick sc s))
  rw [hd, isDue_supplyCounts, h]
  simp

section Modes

variable {sc : Scan} {s : State}

/-- A ripe event of the supply controller, and the modes that are not evaluated, leave the mode (R36, R66). -/
theorem supplyTick_stays (h : (∃ ev : Event, ev.ofSupply = true ∧ s.supply.ripe sc s.cfg ev) ∨ s.supply.mode = .mains ∨
    s.supply.mode = .depleted) : (supplyTick sc s).supply = s.supply.counted sc s.cfg := by
  have he : supplyTick sc s = supplyCounts sc s := by
    rw [supplyTick_eq]
    split
    · rfl
    · next hn =>
      rcases h with ⟨ev, hev, hr⟩ | hm
      · have hd := (isDue_supplyCounts sc s ev).mpr (.inr hr)
        simp only [Bool.or_eq_true, not_or] at hn
        obtain ⟨⟨h1, h2⟩, h3⟩ := hn
        cases ev
        case latch => exact absurd hd h1
        case failDebounce => exact absurd hd h2
        case returnDebounce => exact absurd hd h3
        all_goals cases hev
      · refine evaluateTick_stays ?_
        rw [supply_supplyCounts]
        exact hm
  rw [he, supply_supplyCounts]

/-- In OUTAGE and CRITICAL, with no event of the supply controller ripe, the mode is evaluated by the new Q (R36). -/
theorem supplyTick_evaluates (hq : ∀ ev : Event, ev.ofSupply = true → s.isDue ev = false) {q0 : Nat}
    (hm : s.supply.mode = .outage ∨ s.supply.mode = .critical)
    (hl : ¬s.supply.ripe sc s.cfg .latch) (hr : ¬s.supply.ripe sc s.cfg .returnDebounce) (hq0 : s.supply.q = some q0) :
    supplyTick sc s =
      if selectMode (q0 - 20 * sc.bus.toNat) s.cfg.holdBack s.cfg.cutoff s.supply.latch = s.supply.mode then supplyCounts sc s
      else enterMode (selectMode (q0 - 20 * sc.bus.toNat) s.cfg.holdBack s.cfg.cutoff s.supply.latch) (supplyCounts sc s) := by
  have hne : s.supply.mode ≠ .mains := by rcases hm with h | h <;> rw [h] <;> decide
  have hdue : ∀ ev : Event, ev.ofSupply = true → ¬s.supply.ripe sc s.cfg ev → (supplyCounts sc s).isDue ev = false :=
    fun ev hev hr => by
      refine Bool.eq_false_iff.mpr fun hd => ?_
      have := (isDue_supplyCounts sc s ev).mp hd
      rw [hq ev hev] at this
      exact hr (this.resolve_left (by decide))
  have hs := supply_supplyCounts sc s
  have hcfg : (supplyCounts sc s).cfg = s.cfg := by
    obtain ⟨d, hd⟩ := supplyCounts_parts sc s
    rw [hd]
  rw [supplyTick_eq, hdue .latch rfl hl, hdue .failDebounce rfl fun h => hne h.1, hdue .returnDebounce rfl hr]
  have hqc : (supplyCounts sc s).supply.q = some (q0 - 20 * sc.bus.toNat) := by
    rw [hs]
    show (if s.supply.mode = .mains then s.supply.q else s.supply.q.map fun q => q - 20 * sc.bus.toNat) = _
    rw [if_neg hne, hq0]
    rfl
  have he := evaluateTick_selects (s := supplyCounts sc s) (by rw [hs]; exact hm) hqc
  rw [hcfg, show (supplyCounts sc s).supply.latch = s.supply.latch by rw [hs]; rfl,
    show (supplyCounts sc s).supply.mode = s.supply.mode by rw [hs]; rfl] at he
  exact he

end Modes

/-! ### The samples that a tick takes itself, and the order of what is due -/

/-- A sample that brings no work only counts (R46). -/
theorem lateSample_counts (late : List Port) (s : State) (p : Port) : lateSample late s p = s ∨
    lateSample late s p = updCell p (fun _ => s.sampled p) (dropDue (.sample p) (clearNotes s)) := by
  unfold lateSample
  split
  · exact .inl rfl
  · next hn =>
    simp only [Bool.or_eq_true, List.any_eq_true, not_or, not_exists, not_and, Bool.not_eq_true] at hn
    cases hd : s.isDue (.sample p) with
    | false => exact .inl (takeEvent_not_due _ _ hd)
    | true =>
      refine .inr ?_
      have hw : cellWorks.filter ((dropDue (.sample p) (clearNotes s)).brings p) = [] := by
        have hb : (dropDue (.sample p) (clearNotes s)).brings p = s.brings p := rfl
        rw [hb]
        exact List.filter_eq_nil_iff.mpr fun w hw => by rw [hn.2 w hw]; decide
      have hwork : sampleWork p (dropDue (.sample p) (clearNotes s)) =
          updCell p (fun _ => s.sampled p) (dropDue (.sample p) (clearNotes s)) := by
        unfold sampleWork
        rw [hw]
        rfl
      have hev : takeEvent (.sample p) s =
          finishEvent s (updCell p (fun _ => s.sampled p) (dropDue (.sample p) (clearNotes s))) := by
        rw [takeEvent_due _ _ hd, ← hwork]
        rfl
      rw [hev]
      generalize hv : updCell p (fun _ => s.sampled p) (dropDue (.sample p) (clearNotes s)) = v
      have hno : releasesPick s v = false := by
        refine List.any_eq_false.mpr fun j _ => ?_
        have hheld : v.held j = s.held j := by
          rw [← hv]
          refine held_congr rfl rfl ?_ ?_ rfl
          · exact isDue_dropDue_other (fun he => by cases he) _
          · exact isDue_dropDue_other (fun he => by cases he) _
        simp [hheld]
      have hagenda : v.agenda.decision = false ∧ v.agenda.pick = false := by rw [← hv]; exact ⟨rfl, rfl⟩
      have hclear : clearNotes v = v := by rw [← hv]; rfl
      simp [finishEvent, hagenda, hno, hclear]

/-- What the samples that a tick takes itself leave: all but the cells and what is due of the samples. -/
structure State.Late (s t : State) : Prop where
  slots : t.slots = s.slots
  meter : t.meter = s.meter
  dev : t.dev = s.dev
  fixed : t.fixed = s.fixed
  due : ∀ ev : Event, (∀ p, ev ≠ .sample p) → t.isDue ev = s.isDue ev

theorem late_samples (late : List Port) (s : State) : s.Late (allPorts.foldl (lateSample late) s) := by
  generalize allPorts = l
  refine foldl_keeps (Q := fun t => s.Late t) (fun t p ht => ?_) l ⟨rfl, rfl, rfl, rfl, fun _ _ => rfl⟩
  have hf := (fixed_lateSample late t p).trans ht.fixed
  obtain h | h := lateSample_counts late t p
  · rw [h]; exact ht
  · refine ⟨?_, ?_, ?_, hf, fun ev hev => ?_⟩
    · rw [h]; exact ht.slots
    · rw [h]; exact ht.meter
    · rw [h]; exact ht.dev
    · rw [h]
      exact (isDue_dropDue_other (hev p) _).trans (ht.due ev hev)

theorem isDue_orderAgenda (s : State) (ev : Event) :
    (orderAgenda s).isDue ev = true ↔ s.isDue ev = true ∨ ev = .apportion ∧ s.meter.now ≠ .clear := by
  have hsplit : ev ∈ s.agenda.due.filter (fun ev => !ev.ofSupply) ++ s.agenda.due.filter Event.ofSupply ↔
      ev ∈ s.agenda.due := by
    simp only [List.mem_append, List.mem_filter]
    cases ev.ofSupply <;> simp
  unfold orderAgenda State.isDue
  dsimp only
  rw [List.contains_iff_mem, List.contains_iff_mem]
  split
  · next h => simp [hsplit, h]
  · next h =>
    rw [List.mem_append, hsplit]
    simp [h]

end Sys2Proof.Machine
end

section
/-! What an entry into a mode other than MAINS leaves of the device flags, of the records' purses and of the schedule's
expiry (R38 to R44). -/

namespace Sys2Proof.Machine

open Sys2Proof

/-- The end of an event drops no expiry but those of the records that wait. -/
theorem isDue_finishEvent {t : State} {ev : Event} (h : ev.ofTick)
    (hq : t.agenda.decision = true → ∀ j ∈ t.arbiter.queue, ev ≠ .expiry j) (b : State) :
    (finishEvent b t).isDue ev = t.isDue ev := by
  have hd : (decided t).isDue ev = t.isDue ev := by
    unfold decided
    split
    · next hdec =>
      refine (decide_keeps (Q := fun u => u.isDue ev = t.isDue ev ∧ ∀ j ∈ u.arbiter.queue, ev ≠ .expiry j)
        (fun u j hj hu => ⟨(isDue_admitMember_other h (hu.2 j hj) u).trans hu.1, fun k hk => hu.2 k ?_⟩) ⟨rfl, hq hdec⟩).1
      obtain ⟨-, he⟩ | ⟨q, -, ht⟩ := ties_admitMember j u
      · rw [← he]; exact hk
      · have ha : (admitMember j u).arbiter = _ := congrArg Ties.arbiter ht
        rw [ha] at hk
        exact (List.mem_filter.mp hk).1
    · rfl
  obtain he | he := finishEvent_cases b t
  · rw [he]; exact hd
  · rw [he]; exact (isDue_pickBoth ev (decided t)).trans hd

/-- Work that leaves the device flags, every purse but for the pool, and the schedule's expiry. -/
structure State.Ordered (s t : State) : Prop where
  dev : t.dev = s.dev
  worth : ∀ i, (t.rec? i).map Record.worth = (s.rec? i).map Record.worth
  appts : t.isDue .appointments = s.isDue .appointments

namespace State.Ordered

variable {s t u : State} {i : Idx}

theorem refl (s : State) : s.Ordered s := ⟨rfl, fun _ => rfl, rfl⟩

theorem trans (h : s.Ordered t) (k : t.Ordered u) : s.Ordered u :=
  ⟨k.dev.trans h.dev, fun i => (k.worth i).trans (h.worth i), k.appts.trans h.appts⟩

theorem of_frame (h : t.frame = s.frame) (ha : t.isDue .appointments = s.isDue .appointments) : s.Ordered t :=
  ⟨congrArg Frame.dev h, fun i => congrArg Prod.fst (purse_of_frame (i := i) h), ha⟩

theorem updRec {f : Record → Record} (hf : ∀ r, (f r).worth = r.worth) (i : Idx) (s : State) :
    s.Ordered (Machine.updRec i f s) :=
  ⟨by unfold Machine.updRec; split <;> rfl, fun j => congrArg Prod.fst (purse_updRec hf j i s), isDue_updRec ..⟩

theorem foldl {α : Type} {f : State → α → State} (hf : ∀ (s : State) a, s.Ordered (f s a)) (l : List α) (s : State) :
    s.Ordered (l.foldl f s) := foldl_keeps (Q := fun t => s.Ordered t) (fun t a ht => ht.trans (hf t a)) l (.refl s)

theorem enter (st : RState) (i : Idx) (s : State) : s.Ordered (Machine.enter st i s) :=
  of_frame (frame_enter ..) (isDue_enterState_other ofTick_appointments (fun h => by cases h) ..)

theorem ask (i : Idx) (x : Exchange) (s : State) : s.Ordered (Machine.ask i x s) := of_frame (frame_ask ..) (isDue_ask ..)

theorem setCountdown (i : Idx) (f : Countdown → Countdown) (s : State) : s.Ordered (Machine.setCountdown i f s) :=
  of_frame (frame_setCountdown ..) ((isDue_dropDue_other (fun h => by cases h) _).trans (isDue_updRec ..))

theorem orderLevel (p : Port) (n : Nat) (l : Drive) (s : State) : s.Ordered (Machine.orderLevel p n l s) :=
  of_frame (frame_orderLevel ..) (isDue_orderLevel ofTick_appointments ..)

theorem abortEngine (o : ExOutcome) (e : Engine) (s : State) : s.Ordered (Machine.abortEngine o e s) := by
  have hsend : s.Ordered (sendPart e s) := of_frame (frame_sendPart e s) (by
    obtain h | ⟨g, n, -, -, -, h⟩ := sendPart_cases e s
    · rw [h]
    · rw [h]; exact isDue_setEngine ..)
  have hline : ∀ l, (sendPart e s).Ordered (setLine e l (sendPart e s)) := fun l => by
    cases e <;> exact ⟨rfl, fun _ => rfl, rfl⟩
  have hcut : s.Ordered (cutLine e s) := by
    unfold cutLine
    dsimp only
    split
    · split
      · exact hsend.trans (hline _)
      · exact hsend
    · exact hsend
  have hfree : (cutLine e s).Ordered (freeEngine e (cutLine e s)) := of_frame (frame_freeEngine ..) (by
    unfold freeEngine
    split
    · rfl
    · next g _ =>
      have hr : ∀ t : State, (callPick (restartCall g.port t)).isDue .appointments = t.isDue .appointments := fun t => by
        cases g.port <;> rfl
      rw [hr, isDue_dropDue_other (fun h => by cases h), isDue_setEngine])
  unfold Machine.abortEngine
  split
  · exact refl s
  · next g _ =>
    refine (hcut.trans hfree).trans ?_
    unfold noteSent
    split
    · exact updRec (f := Record.sentWith g.ex.kind o) (fun r => raise_worth .sent r) ..
    · exact refl _

theorem setTested (i : Idx) (o : TestOutcome) (s : State) : s.Ordered (Machine.setTested i o s) :=
  updRec (f := Record.tested o) (fun r => raise_worth .tested r) ..

theorem releaseFeed (i : Idx) (s : State) : s.Ordered (Machine.releaseFeed i s) :=
  of_frame (frame_releaseFeed ..) (isDue_updRec ..)

theorem queryWave (s : State) : s.Ordered (Machine.queryWave s) :=
  foldl (fun s i => by
    unfold waveRecord
    split
    · exact (enter .carrying i s).trans (ask ..)
    · exact refl s) _ s

theorem criticalOrders (s : State) : s.Ordered (Machine.criticalOrders s) := by
  have h1 : ∀ (s : State) i, s.Ordered (criticalRelease s i) := fun s i => by
    unfold criticalRelease
    split
    · exact refl s
    · split
      · exact (releaseFeed i s).trans (enter ..)
      · exact (of_frame (t := leaveQueue i s) (frame_leaveQueue ..) rfl).trans (enter ..)
      · exact (setTested i .abandoned s).trans (enter ..)
      · exact refl s
  have h2 : ∀ (s : State) i, s.Ordered (criticalRest s i) := fun s i => by
    unfold criticalRest
    split
    · exact refl s
    · split
      · exact ask ..
      · exact ask ..
      · exact refl s
  exact (foldl h1 _ s).trans (foldl h2 _ _)

theorem depletedOrders (s : State) : s.Ordered (Machine.depletedOrders s) := by
  have hoff : ∀ s : State, s.Ordered (allCellsOff false s) := fun s => by
    unfold allCellsOff
    generalize allPorts = l
    exact foldl (fun s p => by
      have h : s.Ordered (sendPartOn p s) := of_frame (frame_sendPartOn p s) (isDue_sendPartOn ..)
      exact h.trans ⟨rfl, fun _ => rfl, rfl⟩) l s
  have hupd : ∀ f : Record → Record, (∀ r, (f r).worth = r.worth) →
      ∀ s : State, s.Ordered (allIdx.foldl (fun s i => Machine.updRec i f s) s) := fun f hf s => by
    generalize allIdx = l
    exact foldl (fun s i => updRec hf i s) l s
  have hdrop : ∀ s : State, s.Ordered (dropAllExchanges s) := fun s => by
    have h := ((abortEngine .aborted .a s).trans (abortEngine .aborted .b _)).trans
      (hupd (fun r => { r with pend := none }) (fun _ => rfl) _)
    unfold dropAllExchanges
    dsimp only
    generalize allIdx.foldl _ _ = u at h ⊢
    exact h.trans ⟨rfl, fun _ => rfl, rfl⟩
  have hrel : ∀ s : State, s.Ordered (releaseAll s) := fun s => by
    have h := hupd (fun r => { r with admitted := none }) (fun _ => rfl) s
    unfold releaseAll
    dsimp only
    generalize allIdx.foldl _ _ = u at h ⊢
    exact h.trans ⟨rfl, fun _ => rfl, rfl⟩
  have htest : ∀ s : State, s.Ordered (abandonAllTests s) := fun s => by
    unfold abandonAllTests
    generalize allIdx = l
    exact foldl (fun s i => by
      unfold abandonTest
      split
      · exact setTested ..
      · exact refl s) l s
  have h := (((hoff s).trans (hdrop _)).trans (hrel _)).trans (htest _)
  unfold Machine.depletedOrders
  generalize abandonAllTests _ = u at h ⊢
  refine h.trans ?_
  generalize allIdx = l
  refine foldl (fun s i => ?_) l u
  unfold depletedRecord
  split
  · exact refl s
  · split
    · exact (enter .silent i s).trans (setCountdown ..)
    · exact refl s

theorem leaveDepletedOrders (s : State) : s.Ordered (Machine.leaveDepletedOrders s) :=
  foldl (fun s i => by
    unfold leaveDepletedRecord
    split
    · exact refl s
    · next r _ =>
      split
      · split
        · exact (enter .waking i s).trans (ask ..)
        · have hl : s.Ordered (match r.port with
              | some p => Machine.orderLevel p 0 .sense s
              | none => s) := by
            split
            · exact orderLevel ..
            · exact refl s
          exact (hl.trans (setCountdown ..)).trans (ask ..)
      · exact refl s) _ s

/-- The orders of an entry into a mode other than MAINS. -/
theorem entryOrders (before : Mode) {after : Mode} (h : after ≠ .mains) (s : State) :
    s.Ordered (Machine.entryOrders before after s) := by
  cases after with
  | mains => exact absurd rfl h
  | depleted => exact depletedOrders s
  | outage =>
    cases before with
    | mains => exact queryWave s
    | depleted => exact leaveDepletedOrders s
    | outage => exact refl s
    | critical => exact refl s
  | critical =>
    cases before with
    | mains => exact (queryWave s).trans (criticalOrders _)
    | depleted => exact leaveDepletedOrders s
    | outage => exact criticalOrders s
    | critical => exact criticalOrders s

end State.Ordered

/-- An entry into a mode other than MAINS raises MODE and sets the mark, and leaves every purse but for the mark (R38). -/
theorem enterMode_raises {m : Mode} (h : m ≠ .mains) (s : State) : (enterMode m s).dev.mode = true ∧
    (enterMode m s).meter.mark ≠ .clear ∧
    (∀ i, ((enterMode m s).rec? i).map Record.worth = (s.rec? i).map Record.worth) ∧
    (enterMode m s).isDue .appointments = s.isDue .appointments := by
  have ho := State.Ordered.entryOrders s.supply.mode h { s with
    supply := { s.supply with mode := m, failCount := 0, returnCount := 0, held := false }
    dev := { s.dev with mode := true } }
  have hm : ∀ t : State, (markApportion t).dev = t.dev ∧ (markApportion t).slots = t.slots ∧
      (markApportion t).agenda = t.agenda ∧ (markApportion t).meter.mark ≠ .clear := fun t => by
    unfold markApportion
    split
    · exact ⟨rfl, rfl, rfl, (show ApMark.set ≠ ApMark.clear by decide)⟩
    · next hn => exact ⟨rfl, rfl, rfl, hn⟩
  unfold enterMode
  dsimp only
  rw [if_neg h]
  generalize entryOrders s.supply.mode m _ = u at ho
  obtain ⟨h1, h2, h3, h4⟩ := hm u
  refine ⟨?_, h4, fun i => ?_, ?_⟩
  · show (markApportion u).dev.mode = true
    rw [h1, ho.dev]
  · rw [← show ({ s with supply := { s.supply with mode := m, failCount := 0, returnCount := 0, held := false }
                         dev := { s.dev with mode := true } } : State).rec? i = s.rec? i from rfl, ← ho.worth i,
      rec?_congr (show (callDecision (markApportion u)).slots = u.slots from h2)]
  · exact (isDue_of_due (congrArg Agenda.due h3) .appointments).trans ho.appts

end Sys2Proof.Machine
end

section
/-! The debit pass, seen from one record: its own debit, and what the debits and lapses of the other records spare
(R67, R68, R71, R73). -/

namespace Sys2Proof.Machine

open Sys2Proof

/-- Work on one record spares the other slots, the other countdowns' expiries, the other places in the admission queue and
the cells that the record is not bound to. -/
structure State.Spares (j : Idx) (s t : State) : Prop where
  slot : ∀ i, i ≠ j → t.rec? i = s.rec? i
  due : ∀ ev : Event, ev.ofTick → ev ≠ .expiry j → t.isDue ev = s.isDue ev
  waits : ∀ i, i ≠ j → i ∉ s.arbiter.queue → i ∉ t.arbiter.queue
  port : t.portOf j = s.portOf j
  cells : ∀ p : Port, s.portOf j ≠ some p → t.cells[p] = s.cells[p]

namespace State.Spares

variable {j : Idx} {s t u : State}

theorem refl (j : Idx) (s : State) : s.Spares j s := ⟨fun _ _ => rfl, fun _ _ _ => rfl, fun _ _ h => h, rfl, fun _ _ => rfl⟩

theorem trans (h : s.Spares j t) (k : t.Spares j u) : s.Spares j u :=
  ⟨fun i hi => (k.slot i hi).trans (h.slot i hi), fun ev he hi => (k.due ev he hi).trans (h.due ev he hi),
    fun i hi hw => k.waits i hi (h.waits i hi hw), k.port.trans h.port,
    fun p hp => (k.cells p (by rwa [h.port])).trans (h.cells p hp)⟩

theorem updRec {f : Record → Record} (hf : ∀ r, (f r).port = r.port) (s : State) : s.Spares j (Machine.updRec j f s) := by
  refine ⟨fun i hi => (rec?_updRec j i f s).trans (if_neg hi), fun ev _ _ => isDue_updRec j f ev s, fun i _ hw => ?_, ?_,
    fun p _ => ?_⟩
  · unfold Machine.updRec
    split <;> exact hw
  · cases hr : s.rec? j with
    | none =>
      unfold Machine.updRec
      rw [hr]
    | some r => rw [State.portOf, State.portOf, rec?_updRec_self, hr]; exact hf r
  · unfold Machine.updRec
    split <;> rfl

/-- Work on the pool, the device flags and the queue alone. -/
theorem of_parts (hs : t.slots = s.slots) (hc : t.cells = s.cells) (ha : t.agenda.due = s.agenda.due)
    (hw : ∀ i, i ≠ j → i ∉ s.arbiter.queue → i ∉ t.arbiter.queue) : s.Spares j t :=
  ⟨fun i _ => by rw [rec?_congr hs], fun ev _ _ => isDue_of_due ha ev, hw,
    by unfold State.portOf; rw [rec?_congr hs], fun p _ => by rw [hc]⟩

theorem enter {st : RState} (hst : st ≠ .faulted) (s : State) : s.Spares j (Machine.enter st j s) :=
  ⟨fun _ hi => rec?_enterState_other hi .., fun _ he hi => isDue_enterState_other he hi .., fun i _ hw => by
      rw [show (Machine.enter st j s).arbiter = s.arbiter from congrArg Ties.arbiter (ties_enter hst j s)]
      exact hw,
    by rw [portOf_eq, portOf_eq, roster_of_fixed (fixed_of_frame (frame_enter ..))], fun _ hp => cells_enterState_other hp ..⟩

theorem leaveService (s : State) : s.Spares j (Machine.leaveService j s) := by
  have hrel : s.Spares j (releaseFeed j s) :=
    (updRec (f := fun r => { r with admitted := none }) (fun _ => rfl) s).trans
      (of_parts rfl rfl rfl fun _ _ hw => hw)
  have hleave : s.Spares j (leaveQueue j s) :=
    of_parts rfl rfl rfl fun i _ hw hm => hw (List.mem_filter.mp hm).1
  unfold Machine.leaveService
  split
  · exact hrel
  · exact hleave
  · exact refl j s

theorem joinTail (s : State) : s.Spares j (Machine.joinTail j s) :=
  of_parts rfl rfl rfl fun i hi hw hm => by
    have hp := (insertBehind_perm (fun k => decide (s.rankOf k ≤ s.rankOf j)) j s.arbiter.queue).mem_iff.mp hm
    exact (List.mem_cons.mp hp).elim hi hw

theorem leaveLapsed (s : State) : s.Spares j (Machine.leaveLapsed j s) := by
  unfold Machine.leaveLapsed
  split
  · exact refl j s
  · split
    · split
      · exact (enter (by decide) s).trans (joinTail _)
      · split
        · exact (enter (by decide) s).trans (joinTail _)
        · exact enter (by decide) s
      · exact refl j s
      · exact refl j s
    · exact refl j s

theorem topUp (s : State) : s.Spares j (Machine.topUp j s) := by
  have hgrant : ∀ n, s.Spares j (grantTo j n s) := fun n => by
    unfold grantTo
    split
    · exact refl j s
    · next r _ =>
      have hpool : s.Spares j { s with meter := { s.meter with pool := s.meter.pool - grantMoves r s.meter.pool n } } :=
        of_parts rfl rfl rfl fun _ _ hw => hw
      exact (hpool.trans (updRec (f := fun q => { q with allowance := q.allowance + grantMoves r s.meter.pool n })
        (fun _ => rfl) _)).trans (leaveLapsed _)
  unfold Machine.topUp
  split
  · exact refl j s
  · dsimp only
    split
    · exact refl j s
    · split
      · exact of_parts rfl rfl rfl fun _ _ hw => hw
      · exact hgrant _

theorem lapse (s : State) : s.Spares j (Machine.lapse j s) :=
  (((leaveService s).trans (enter (by decide) _)).trans
    (updRec (f := Record.raise .lapsed) (fun r => by unfold Record.raise; split <;> rfl) _)).trans (topUp _)

theorem portOf (h : s.Spares j t) (i : Idx) : t.portOf i = s.portOf i := by
  by_cases hi : i = j
  · rw [hi]; exact h.port
  · unfold State.portOf
    rw [h.slot i hi]

theorem boundAt (h : s.Spares j t) (p : Port) : t.boundAt p = s.boundAt p := by
  have hb : t.bindsPort p = s.bindsPort p := funext fun i => by unfold State.bindsPort; rw [h.portOf i]
  unfold State.boundAt
  rw [hb]

end State.Spares

/-! ### The debit at one port -/

section Debit

variable {sc : Scan} {s : State} {p : Port} {i : Idx} {r : Record}

/-- What a debit takes off an allowance (R67). -/
def Record.debited (n : Nat) (r : Record) : Record := { r with allowance := r.allowance - n }

/-- A port's debit spares all but the record that is bound there. -/
theorem debitPort_spares (sc : Scan) (s : State) (p : Port) : debitPort sc s p = s ∨
    ∃ j, s.boundAt p = some j ∧ s.stOf j = some .fed ∧ s.Spares j (debitPort sc s p) := by
  unfold debitPort
  split
  · exact .inl rfl
  · next j hj =>
    split
    · next hc =>
      have hd : s.Spares j (updRec j (Record.debited sc.codes[p].toNat) s) := .updRec (f := Record.debited sc.codes[p].toNat) (fun _ => rfl) s
      have hst : s.stOf j = some .fed := of_decide_eq_true (Bool.and_eq_true_iff.mp hc).1
      refine .inr ⟨j, hj, hst, ?_⟩
      dsimp only
      split
      · exact hd.trans (.lapse _)
      · exact hd
    · exact .inl rfl

/-- A FED record whose allowance outlasts the code is debited by it and stays FED (R68). -/
theorem rec?_debitPort_fed (hb : s.boundAt p = some i) (hr : s.rec? i = some r) (hst : r.st = .fed)
    (hd : s.cells[p].drive = .ramp ∨ s.cells[p].drive = .feed) (hn : sc.codes[p].toNat < r.allowance) :
    (debitPort sc s p).rec? i = some (r.debited sc.codes[p].toNat) := by
  have hfed : s.isIn .fed i = true := decide_eq_true ((stOf_rec hr).trans (congrArg some hst))
  have hu : (updRec i (Record.debited sc.codes[p].toNat) s).rec? i = some (r.debited sc.codes[p].toNat) := by
    rw [rec?_updRec_self, hr]; rfl
  have hpos : ¬(r.debited sc.codes[p].toNat).allowance = 0 := Nat.sub_ne_zero_of_lt hn
  have he : debitPort sc s p = if ((updRec i (Record.debited sc.codes[p].toNat) s).rec? i).any
      (fun q => decide (q.allowance = 0)) then lapse i (updRec i (Record.debited sc.codes[p].toNat) s)
      else updRec i (Record.debited sc.codes[p].toNat) s := by
    unfold debitPort
    rw [hb]
    dsimp only
    rw [if_pos (by rw [hfed, decide_eq_true hd]; rfl)]
    rfl
  rw [he, hu, Option.any_some, decide_eq_false hpos, if_neg (by decide), hu]

/-- The debit pass debits a FED record by the code of its port, once (R68). -/
theorem rec?_debitPass_fed (hb : s.boundAt p = some i) (hr : s.rec? i = some r) (hst : r.st = .fed)
    (hd : s.cells[p].drive = .ramp ∨ s.cells[p].drive = .feed) (hn : sc.codes[p].toNat < r.allowance) :
    (debitPass sc s).rec? i = some (r.debited sc.codes[p].toNat) := by
  have hl : allPorts.Nodup := List.nodup_finRange 48
  have hm : p ∈ allPorts := List.mem_finRange p
  have hport : r.port = some p := by
    have := portOf_of_boundAt hb
    rwa [State.portOf, hr, Option.bind_some] at this
  -- a debit at another port is that of another record
  have hother : ∀ (t : State) (q : Port), q ≠ p → t.portOf i = some p → debitPort sc t q = t ∨
      ∃ j, j ≠ i ∧ t.portOf j ≠ some p ∧ t.Spares j (debitPort sc t q) := fun t q hq hp => by
    obtain h | ⟨j, hj, -, h⟩ := debitPort_spares sc t q
    · exact .inl h
    · have hjq : t.portOf j = some q := portOf_of_boundAt hj
      exact .inr ⟨j, fun hji => hq (Option.some.inj (hjq.symm.trans (hji ▸ hp))),
        fun hjp => hq (Option.some.inj (hjq.symm.trans hjp)), h⟩
  unfold debitPass
  generalize allPorts = l at hl hm
  refine foldl_through
    (Q := fun t => t.boundAt p = some i ∧ t.rec? i = some r ∧ t.cells[p] = s.cells[p])
    (R := fun t => t.rec? i = some (r.debited sc.codes[p].toNat)) (fun t q hq ht => ?_)
    (fun t ht => rec?_debitPort_fed ht.1 ht.2.1 hst (ht.2.2 ▸ hd) hn) (fun t q hq ht => ?_) hl hm ⟨hb, hr, rfl⟩
  · obtain ⟨htb, htr, htc⟩ := ht
    obtain h | ⟨j, hji, hjp, h⟩ := hother t q hq (portOf_of_boundAt htb)
    · rw [h]; exact ⟨htb, htr, htc⟩
    · exact ⟨(h.boundAt p).trans htb, (h.slot i hji.symm).trans htr, (h.cells p hjp).trans htc⟩
  · have hp : t.portOf i = some p := by rw [State.portOf, ht]; exact hport
    obtain h | ⟨j, hji, -, h⟩ := hother t q hq hp
    · rw [h]; exact ht
    · exact (h.slot i hji.symm).trans ht

/-- The debit pass leaves a record that is neither FED nor waits, and its countdown's expiry (R68). -/
theorem debitPass_leaves (hr : s.rec? i = some r) (hst : r.st ≠ .fed) (hq : i ∉ s.arbiter.queue) (sc : Scan) :
    (debitPass sc s).rec? i = some r ∧ i ∉ (debitPass sc s).arbiter.queue ∧
      (debitPass sc s).isDue (.expiry i) = s.isDue (.expiry i) := by
  unfold debitPass
  generalize allPorts = l
  refine foldl_keeps (Q := fun t => t.rec? i = some r ∧ i ∉ t.arbiter.queue ∧ t.isDue (.expiry i) = s.isDue (.expiry i))
    (fun t p ⟨htr, htq, htd⟩ => ?_) l ⟨hr, hq, rfl⟩
  obtain h | ⟨j, -, hj, h⟩ := debitPort_spares sc t p
  · rw [h]; exact ⟨htr, htq, htd⟩
  · have hji : i ≠ j := fun he => by
      rw [← he, stOf_rec htr] at hj
      exact hst (Option.some.inj hj)
    exact ⟨(h.slot i hji).trans htr, h.waits i hji htq,
      (h.due _ (ofTick_expiry i) fun he => hji (by cases he; rfl)).trans htd⟩

theorem isDue_debitPass_appointments (sc : Scan) (s : State) :
    (debitPass sc s).isDue .appointments = s.isDue .appointments := by
  unfold debitPass
  generalize allPorts = l
  refine foldl_keeps (Q := fun t => t.isDue .appointments = s.isDue .appointments) (fun t p ht => ?_) l rfl
  obtain h | ⟨j, -, -, h⟩ := debitPort_spares sc t p
  · rw [h]; exact ht
  · exact (h.due _ ofTick_appointments fun he => by cases he).trans ht

end Debit

end Sys2Proof.Machine
end

section
/-! One record, one cell and the schedule as a tick's countdowns leave them, and what the end of the supply controller's
part leaves in the part behind the tick (R10, R66, R149, R156). -/

namespace Sys2Proof.Machine

open Sys2Proof

section Start

variable {s : State} {i : Idx} {r : Record}

theorem countDown_keeps (s : State) : (countDown s).cells = s.cells ∧ (countDown s).arbiter = s.arbiter := by
  unfold countDown
  generalize allIdx = l
  refine foldl_keeps (Q := fun t => t.cells = s.cells ∧ t.arbiter = s.arbiter) (fun t j ht => ?_) l ⟨rfl, rfl⟩
  unfold countRecord
  split
  · exact ht
  · dsimp only
    split <;> exact ht

theorem drive_of_unscanned {c d : Cell} (h : c.unscanned = d.unscanned) : c.drive = d.drive := (congrArg Cell.drive h :)

/-- The scan leaves the slots, the collections, the schedule, what is due, and each cell but for its code. -/
theorem tickScanned_keeps (sc : Scan) (s : State) : (tickScanned sc s).slots = s.slots ∧
    (tickScanned sc s).arbiter = s.arbiter ∧ (tickScanned sc s).agenda = s.agenda ∧
    (tickScanned sc s).schedule = s.schedule ∧ (tickScanned sc s).clock = s.clock + 1 ∧
    ∀ p : Port, ((tickScanned sc s).cells[p]).unscanned = (s.cells[p]).unscanned := by
  obtain ⟨hf, -, hs, hc, ha, hg, hsch, -⟩ := fixed_tickClock s
  have hck : (tickClock s).clock = s.clock + 1 := congrArg Fixed.clock hf
  obtain ⟨⟨c, h⟩, -, hcells⟩ := storeScan_spec sc (tickClock s)
  refine ⟨?_, ?_, ?_, ?_, ?_, fun p => (hcells p).trans (by rw [hc])⟩
  all_goals
    unfold tickScanned
    rw [h]
  · exact hs
  · exact ha
  · exact hg
  · exact hsch
  · exact hck

theorem markAppointments_parts (s : State) : ∃ d, markAppointments s = { s with agenda := { s.agenda with due := d } } := by
  obtain h | h := markAppointments_eq s
  · exact ⟨_, h⟩
  · exact ⟨_, h⟩

theorem isDue_markAppointments_other {ev : Event} (h : ev ≠ .appointments) (s : State) :
    (markAppointments s).isDue ev = s.isDue ev := by
  obtain he | he := markAppointments_eq s
  · rw [he]
  · rw [he, isDue_makeDue, decide_eq_false h, Bool.or_false]

/-- A record as the debit pass meets it: counted down, its expiry due where the countdown fell to 0 (R10). -/
theorem tickStart_rec (hs : s.agenda.due = []) (hr : s.rec? i = some r) (sc : Scan) :
    (tickStart sc s).rec? i = some { r with cd := r.cd.counted } ∧ (tickStart sc s).isDue (.expiry i) = r.cd.expires := by
  obtain ⟨hslots, -, hagenda, -⟩ := tickScanned_keeps sc s
  have hnone : (tickScanned sc s).isDue (.expiry i) = false := by
    unfold State.isDue
    rw [hagenda, hs]
    rfl
  obtain ⟨h1, h2⟩ := countDown_at (s := tickScanned sc s) ((rec?_congr hslots i).trans hr)
  rw [tickStart_eq]
  generalize countDown (tickScanned sc s) = w at h1 h2 ⊢
  obtain ⟨d, ha⟩ := markAppointments_parts w
  obtain ⟨⟨e, hm⟩, hdue⟩ := markSamples_spec (markAppointments w)
  refine ⟨?_, ?_⟩
  · rw [hm, ha]; exact h1
  · rw [hdue _ (fun p he => by cases he), isDue_markAppointments_other (fun he => by cases he), h2, hnone, Bool.false_or]

/-- The collections and the drives as the debit pass meets them. -/
theorem tickStart_keeps (sc : Scan) (s : State) : (tickStart sc s).arbiter = s.arbiter ∧
    ∀ p : Port, (tickStart sc s).cells[p].drive = s.cells[p].drive := by
  obtain ⟨-, harb, -, -, -, hcells⟩ := tickScanned_keeps sc s
  obtain ⟨h1, h2⟩ := countDown_keeps (tickScanned sc s)
  rw [tickStart_eq]
  generalize countDown (tickScanned sc s) = w at h1 h2 ⊢
  obtain ⟨d, ha⟩ := markAppointments_parts w
  obtain ⟨⟨e, hm⟩, -⟩ := markSamples_spec (markAppointments w)
  rw [hm, ha]
  refine ⟨h2.trans harb, fun p => ?_⟩
  show w.cells[p].drive = _
  rw [h1]
  exact drive_of_unscanned (hcells p)

theorem boundAt_of_roster {s t : State} (h : t.roster = s.roster) (p : Port) : t.boundAt p = s.boundAt p := by
  have hb : t.bindsPort p = s.bindsPort p := funext fun i => by
    unfold State.bindsPort
    rw [portOf_eq, portOf_eq, h]
  unfold State.boundAt
  rw [hb]

/-- The schedule's expiry is due by the new clock, where the head of the schedule is (R149, R156). -/
theorem isDue_tickStart_appointments (hs : s.agenda.due = []) (sc : Scan) : (tickStart sc s).isDue .appointments = true ↔
    ∃ a, s.schedule.head? = some a ∧ (s.clock + 1 - a.due).toNat < 2147483648 := by
  obtain ⟨-, -, hagenda, hsch, hck, -⟩ := tickScanned_keeps sc s
  have hnone : (countDown (tickScanned sc s)).isDue .appointments = false := by
    rw [isDue_countDown (fun i he => by cases he)]
    unfold State.isDue
    rw [hagenda, hs]
    rfl
  have hfr := frame_countDown (tickScanned sc s)
  rw [tickStart_eq]
  generalize countDown (tickScanned sc s) = w at hnone hfr ⊢
  have ho : w.outer = (tickScanned sc s).outer := congrArg Frame.outer hfr
  simp only [State.outer, Prod.mk.injEq] at ho
  obtain ⟨-, hclock, hschedule, -⟩ := ho
  have hsch' : w.schedule = s.schedule := hschedule.trans hsch
  have hck' : w.clock = s.clock + 1 := hclock.trans hck
  have hmark : (markAppointments w).isDue .appointments =
      s.schedule.head?.any (Appointment.expired (s.clock + 1)) := by
    unfold markAppointments
    rw [hsch', hck']
    split
    · next h => rw [isDue_makeDue, h]; simp
    · next h => rw [hnone, Bool.eq_false_iff.mpr h]
  rw [(markSamples_spec _).2 _ (fun p he => by cases he), hmark]
  simp [Option.any_eq_true, Appointment.expired]

end Start

/-! ### The supply controller's part and the end of the tick -/

/-- A part behind the supply controller's work `v` of an event that began in `u`, the samples of a tick, and the order of
what is due. -/
structure State.Settled (u v t : State) : Prop where
  fixed : { t.fixed with due := [] } = { v.fixed with due := [] }
  dev : t.dev = v.dev
  mark : t.meter.mark = v.meter.mark
  slots : t.slots = (finishEvent u v).slots
  due : ∀ ev : Event, (∀ p, ev ≠ .sample p) →
    (t.isDue ev = true ↔ (finishEvent u v).isDue ev = true ∨ ev = .apportion ∧ v.meter.now ≠ .clear)

theorem settled (late : List Port) (u v : State) :
    State.Settled u v (orderAgenda (allPorts.foldl (lateSample late) (finishEvent u v))) := by
  have hl := late_samples late (finishEvent u v)
  have hf := frame_finishEvent u v
  generalize allPorts.foldl (lateSample late) (finishEvent u v) = w at hl
  have hfix : w.fixed = v.fixed := hl.fixed.trans (fixed_finishEvent u v)
  refine ⟨?_, hl.dev.trans (congrArg Frame.dev hf), ?_, hl.slots, fun ev hev => ?_⟩
  · exact congrArg (fun f : Fixed => { f with due := [] }) hfix
  · exact congrArg Meter.mark (hl.meter.trans (congrArg Frame.meter hf))
  · rw [isDue_orderAgenda, hl.due ev hev, show w.meter.now = v.meter.now from congrArg Fixed.now hfix]

end Sys2Proof.Machine
end

section
/-! A tick as a whole: its fixed part, the supply controller and what it makes due (R29 to R36, R65, R66, R75, R149). -/

namespace Sys2Proof.Machine

open Sys2Proof

/-- The part as the supply controller's share of a tick meets it. -/
def tickCharged (sc : Scan) (o : TickOrder) (s : State) : State :=
  o.mid.foldl takePart (event (debitPass sc) (o.early.foldl takePart (tickStart sc s)))

/-- A tick is the supply controller's event behind the meter's work, then the samples and the order of what is due (R66). -/
theorem exec_tick {s : State} (hawake : s.inReset = false) (hs : s.agenda.due = []) (sc : Scan) (o : TickOrder) :
    ∃ t, exec (.tick sc o) s = .next t ∧
      State.Settled (tickCharged sc o s) (supplyTick sc (clearNotes (tickCharged sc o s))) t := by
  refine ⟨_, ?_, settled o.late _ _⟩
  show Host.Outcome.next (live (tickWork sc o) s) = _
  rw [live_awake hawake, tickWork_quiet hs]
  rfl

/-- The fixed part as the supply controller's share of a tick meets it (R65, R75, R149). -/
def Fixed.ticked (sc : Scan) (spaces calls : List Port) (mark : ApMark) (f : Fixed) : Fixed :=
  { f with
    scans := fun p => sc.codes[p].toNat
    clock := f.clock + 1
    codes := (sc.bus.toNat, sc.volt.toNat)
    now := if mark = .clear then f.now else mark
    facts := ⟨sc.bias, spaces, calls⟩ }

/-- The part that the supply controller's share of a tick meets, of a tick that began in `s`. -/
def State.Charged (sc : Scan) (s u : State) : Prop :=
  ∃ k, u.fixed = s.fixed.ticked sc (allPorts.filter (s.spaceOn sc)) k s.meter.mark

theorem charged_tickCharged (sc : Scan) (o : TickOrder) (s : State) : s.Charged sc (tickCharged sc o s) := by
  obtain ⟨k, hk⟩ := fixed_tickStart sc s
  refine ⟨k, Eq.trans ?_ hk⟩
  unfold tickCharged
  rw [fixed_foldl _ fixed_takePart, fixed_event (fixed_debitPass sc), fixed_foldl _ fixed_takePart]

section Ticked

variable {sc : Scan} {s u t : State}

/-- The fixed part behind a tick, but for the supply controller and what is due. -/
theorem fixed_ticked (hu : s.Charged sc u) (ht : State.Settled u (supplyTick sc (clearNotes u)) t) :
    ∃ k, { t.fixed with due := [], supply := s.supply } =
      { s.fixed.ticked sc (allPorts.filter (s.spaceOn sc)) k s.meter.mark with due := [], supply := s.supply } := by
  obtain ⟨k, hk⟩ := hu
  have hv := fixed_supplyTick sc (clearNotes u)
  rw [fixed_clearNotes, hk] at hv
  have hf := congrArg (fun f : Fixed => { f with supply := s.supply }) ht.fixed
  rw [hv] at hf
  exact ⟨k, hf⟩

/-- What the supply controller's share of a tick meets of the controller. -/
theorem charged_supply (hs : s.agenda.due = []) (hu : s.Charged sc u) : (clearNotes u).supply = s.supply ∧
    (clearNotes u).cfg = s.cfg ∧ ∀ ev : Event, ev.ofMeter = true → (clearNotes u).isDue ev = false := by
  obtain ⟨k, hk⟩ := hu
  refine ⟨(congrArg Fixed.supply hk :), (congrArg Fixed.cfg hk :), fun ev hev => ?_⟩
  have hdue : (clearNotes u).meterDue = s.meterDue := (congrArg Fixed.due hk :)
  rw [isDue_of_meterDue hev hdue]
  unfold State.isDue
  rw [hs]
  rfl

theorem settled_supply {v : State} (ht : State.Settled u v t) : t.supply = v.supply := (congrArg Fixed.supply ht.fixed :)

/-- An event of the supply controller is due behind a tick where the tick's counts are ripe (R30, R31, R35). -/
theorem isDue_ticked (hs : s.agenda.due = []) (hu : s.Charged sc u)
    (ht : State.Settled u (supplyTick sc (clearNotes u)) t) {ev : Event} (hev : ev.ofSupply = true) :
    t.isDue ev = true ↔ s.supply.ripe sc s.cfg ev := by
  have hmeter : ev.ofMeter = true := by unfold Event.ofMeter; rw [hev]; rfl
  obtain ⟨h1, h2, h3⟩ := charged_supply hs hu
  have hripe := isDue_supplyTick (sc := sc) hmeter (h3 ev hmeter)
  rw [h1, h2, ← isDue_of_fixed hmeter (fixed_finishEvent u _)] at hripe
  rw [ht.due ev (fun p he => by rw [he] at hev; cases hev), hripe]
  exact or_iff_left fun h => by rw [h.1] at hev; cases hev

/-- The apportionment is due behind a tick that took one up (R75). -/
theorem isDue_ticked_apportion (hs : s.agenda.due = []) (hu : s.Charged sc u)
    (ht : State.Settled u (supplyTick sc (clearNotes u)) t) : t.isDue .apportion = true ↔ t.meter.now ≠ .clear := by
  obtain ⟨h1, h2, h3⟩ := charged_supply hs hu
  have hripe := isDue_supplyTick (sc := sc) (ev := .apportion) rfl (h3 _ rfl)
  rw [← isDue_of_fixed rfl (fixed_finishEvent u _)] at hripe
  have hnow : t.meter.now = (supplyTick sc (clearNotes u)).meter.now := (congrArg Fixed.now ht.fixed :)
  rw [ht.due _ (fun p he => by cases he), hripe, hnow]
  exact ⟨fun h => h.elim False.elim And.right, fun h => .inr ⟨rfl, h⟩⟩

/-- The latch's event is due by the third tick of undervoltage (R35). -/
theorem ripe_latch (sc : Scan) (g : Settings) (c : Supply) : c.ripe sc g .latch ↔
    sc.volt.toNat * 50 < g.uvFloor * 100 ∧ 2 ≤ c.uvRun ∧ c.latch = false := by
  unfold Supply.ripe nextUvRun
  dsimp only
  split
  · next h => simp only [h, true_and]; exact and_congr_left' (by omega)
  · next h => simp [h]

/-- The ports of the downstream spaces: those of a sending engine whose sample falls in one (R46). -/
theorem mem_spaces (sc : Scan) (s : State) (p : Port) : p ∈ allPorts.filter (s.spaceOn sc) ↔
    ∃ e g, s.engineOn p = some e ∧ s.engine e = some g ∧ g.phase = .sending ∧
      (e = .a → sc.spaceA = true) ∧ (e = .b → sc.spaceB = true) := by
  rw [List.mem_filter, and_iff_right (show p ∈ allPorts from List.mem_finRange p)]
  unfold State.spaceOn State.sendsOn
  cases ho : s.engineOn p with
  | none => simp
  | some e =>
    cases hg : s.engine e with
    | none => simp [hg]
    | some g => cases e <;> simp [hg]

/-- A tick's evaluation in OUTAGE and CRITICAL (R36, R38). -/
theorem tick_evaluates (hs : s.agenda.due = []) (hu : s.Charged sc u)
    (ht : State.Settled u (supplyTick sc (clearNotes u)) t) {q0 : Nat}
    (hm : s.supply.mode = .outage ∨ s.supply.mode = .critical) (hl : ¬s.supply.ripe sc s.cfg .latch)
    (hr : ¬s.supply.ripe sc s.cfg .returnDebounce) (hq0 : s.supply.q = some q0) :
    let m := selectMode (q0 - 20 * sc.bus.toNat) s.cfg.holdBack s.cfg.cutoff s.supply.latch
    t.supply.mode = m ∧ (m = s.supply.mode → t.supply.returnCount = (s.supply.counted sc s.cfg).returnCount) ∧
      (m ≠ s.supply.mode → t.supply.returnCount = 0 ∧ t.dev.mode = true ∧ t.meter.mark ≠ .clear) := by
  intro m
  obtain ⟨h1, h2, h3⟩ := charged_supply hs hu
  have hc := supply_supplyCounts sc (clearNotes u)
  have he := supplyTick_evaluates (sc := sc) (s := clearNotes u)
    (fun ev hev => h3 ev (by unfold Event.ofMeter; rw [hev]; rfl)) (by rw [h1]; exact hm) (by rw [h1, h2]; exact hl)
    (by rw [h1, h2]; exact hr) (by rw [h1]; exact hq0)
  rw [h1, h2] at he hc
  rw [settled_supply ht, ht.dev, ht.mark, he]
  by_cases hsel : m = s.supply.mode
  · rw [if_pos hsel, hc]
    exact ⟨hsel.symm, fun _ => rfl, fun hn => absurd hsel hn⟩
  · have hne : m ≠ .mains := selectMode_ne_mains _ _ _ _
    obtain ⟨hdev, hmark, -⟩ := enterMode_raises hne (supplyCounts sc (clearNotes u))
    rw [if_neg hsel, supply_enterMode hne]
    exact ⟨rfl, fun h => absurd h hsel, fun _ => ⟨rfl, hdev, hmark⟩⟩

end Ticked

end Sys2Proof.Machine
end

section
/-! A tick seen from one record: its debit, its countdown and the schedule's expiry (R10, R68, R156), and the obligation on
the tick. -/

namespace Sys2Proof.Machine

open Sys2Proof

/-- The supply controller's share of a tick leaves what each record has left. -/
theorem worth_supplyTick (sc : Scan) (s : State) (i : Idx) :
    ((supplyTick sc s).rec? i).map Record.worth = (s.rec? i).map Record.worth := by
  have hc : (supplyCounts sc s).rec? i = s.rec? i := by
    obtain ⟨d, hd⟩ := supplyCounts_parts sc s
    rw [hd]
    rfl
  obtain h | ⟨m, hm, -, h⟩ := supplyTick_cases sc s
  · rw [h, hc]
  · rw [h, (enterMode_raises hm _).2.2.1 i, hc]

theorem isDue_supplyTick_appointments (sc : Scan) (s : State) :
    (supplyTick sc s).isDue .appointments = s.isDue .appointments := by
  have hc : (supplyCounts sc s).isDue .appointments = s.isDue .appointments := by
    rw [Bool.eq_iff_iff, isDue_supplyCounts]
    exact or_iff_left id
  obtain h | ⟨m, hm, -, h⟩ := supplyTick_cases sc s
  · rw [h, hc]
  · rw [h, (enterMode_raises hm _).2.2.2, hc]

theorem worths_finishEvent (u v : State) (i : Idx) :
    ((finishEvent u v).rec? i).map Record.worth = (v.rec? i).map Record.worth :=
  congrArg Prod.fst (purse_of_frame (i := i) (frame_finishEvent u v))

/-- The part behind the debit pass's event, in a tick that takes no other event ahead of it. -/
def tickBilled (sc : Scan) (s : State) : State :=
  finishEvent (tickStart sc s) (debitPass sc (clearNotes (tickStart sc s)))

theorem tickCharged_plain {o : TickOrder} (he : o.early = []) (hm : o.mid = []) (sc : Scan) (s : State) :
    tickCharged sc o s = tickBilled sc s := by
  simp only [tickCharged, he, hm, List.foldl_nil]
  rfl

section Plain

variable {sc : Scan} {s t : State} {i : Idx} {r : Record} {p : Port}

/-- The debit of a FED record, in a tick that takes no other event ahead of a step (R68). -/
theorem tick_debits (hs : s.agenda.due = []) (hb : s.boundAt p = some i) (hr : s.rec? i = some r) (hst : r.st = .fed)
    (hd : s.cells[p].drive = .ramp ∨ s.cells[p].drive = .feed) (hn : sc.codes[p].toNat < r.allowance)
    (ht : State.Settled (tickBilled sc s) (supplyTick sc (clearNotes (tickBilled sc s))) t) :
    ∃ q, t.rec? i = some q ∧ q.allowance = r.allowance - sc.codes[p].toNat := by
  obtain ⟨hrec, -⟩ := tickStart_rec hs hr sc
  obtain ⟨-, hdrive⟩ := tickStart_keeps sc s
  obtain ⟨k, hk⟩ := fixed_tickStart sc s
  unfold tickBilled at ht
  generalize tickStart sc s = w at *
  have hbound : (clearNotes w).boundAt p = some i := (boundAt_of_roster (congrArg Fixed.roster hk :) p).trans hb
  have hdeb := rec?_debitPass_fed (sc := sc) (s := clearNotes w) hbound hrec hst (by
    rw [show (clearNotes w).cells[p].drive = _ from hdrive p]; exact hd) hn
  generalize debitPass sc (clearNotes w) = d at *
  have hw : (t.rec? i).map Record.worth = (d.rec? i).map Record.worth := by
    rw [rec?_congr ht.slots, worths_finishEvent, worth_supplyTick]
    exact worths_finishEvent w d i
  rw [hdeb] at hw
  obtain ⟨q, hq, hqw⟩ := Option.map_eq_some_iff.mp hw
  exact ⟨q, hq, (congrArg (fun x => x.2.2) hqw :)⟩

/-- The schedule's expiry, in a tick that takes no other event ahead of a step (R156). -/
theorem tick_appointments (hs : s.agenda.due = [])
    (ht : State.Settled (tickBilled sc s) (supplyTick sc (clearNotes (tickBilled sc s))) t) :
    (∃ a, s.schedule.head? = some a ∧ (s.clock + 1 - a.due).toNat < 2147483648) ↔ t.isDue .appointments = true := by
  have hne : ∀ w : State, w.agenda.decision = true → ∀ j ∈ w.arbiter.queue, Event.appointments ≠ .expiry j :=
    fun w _ j _ he => by cases he
  have hstart := isDue_tickStart_appointments hs sc
  unfold tickBilled at ht
  generalize tickStart sc s = w at *
  have hdeb := isDue_debitPass_appointments sc (clearNotes w)
  rw [← hstart, ht.due _ (fun p he => by cases he),
    isDue_finishEvent ofTick_appointments (hne _), isDue_supplyTick_appointments,
    show ∀ w : State, (clearNotes w).isDue .appointments = w.isDue .appointments from fun _ => rfl,
    isDue_finishEvent ofTick_appointments (hne _), hdeb]
  exact ⟨.inl, fun h => h.resolve_right fun h => by cases h.1⟩

/-- What a tick that takes no other event ahead of a step leaves of a record that is neither FED nor waits: all but its
countdown, its pending exchange and its expiry (R10, R149). -/
theorem tick_leaves (hs : s.agenda.due = []) (hr : s.rec? i = some r) (hst : r.st ≠ .fed) (hq : i ∉ s.arbiter.queue)
    (ht : State.Settled (tickBilled sc s) (supplyTick sc (clearNotes (tickBilled sc s))) t)
    (hmode : t.supply.mode = (clearNotes (tickBilled sc s)).supply.mode) :
    (t.rec? i).map Record.unpended = some (Record.unpended { r with cd := r.cd.counted }) ∧
      t.isDue (.expiry i) = r.cd.expires := by
  obtain ⟨hrec, hexp⟩ := tickStart_rec hs hr sc
  have harb := (tickStart_keeps sc s).1
  unfold tickBilled at ht hmode
  generalize tickStart sc s = w at *
  obtain ⟨h1, h2, h3⟩ := debitPass_leaves (s := clearNotes w) hrec hst
    (by rw [show (clearNotes w).arbiter = _ from harb]; exact hq) sc
  generalize debitPass sc (clearNotes w) = d at *
  have hfirst := (steady_finishEvent (t := d) (i := i) (fun _ => .inl h2) w).slot
  have hdue : (finishEvent w d).isDue (.expiry i) = r.cd.expires := by
    rw [isDue_finishEvent (ofTick_expiry i) (fun _ j hj he => h2 (by cases he; exact hj)), h3]
    exact hexp
  generalize finishEvent w d = u at *
  -- the mode has not changed, so the supply controller's share was its counts alone
  have hcounts : supplyTick sc (clearNotes u) = supplyCounts sc (clearNotes u) := by
    obtain h | ⟨m, hm, hne, h⟩ := supplyTick_cases sc (clearNotes u)
    · exact h
    · rw [settled_supply ht, h, supply_enterMode hm] at hmode
      exact absurd hmode hne
  obtain ⟨e, he⟩ := supplyCounts_parts sc (clearNotes u)
  have hcalm : (supplyCounts sc (clearNotes u)).agenda.decision = false := by rw [he]; rfl
  have hslot : (supplyCounts sc (clearNotes u)).rec? i = u.rec? i := by rw [he]; rfl
  have hcdue : (supplyCounts sc (clearNotes u)).isDue (.expiry i) = u.isDue (.expiry i) := by
    rw [Bool.eq_iff_iff, isDue_supplyCounts]
    exact or_iff_left id
  rw [hcounts] at ht
  generalize supplyCounts sc (clearNotes u) = v at *
  have hno : ∀ {P : Prop}, v.agenda.decision = true → P := fun h => by rw [hcalm] at h; cases h
  have hsecond := (steady_finishEvent (t := v) (i := i) hno u).slot
  refine ⟨?_, ?_⟩
  · rw [rec?_congr ht.slots, hsecond, hslot, hfirst, h1]
    rfl
  · have hdd : (finishEvent u v).isDue (.expiry i) = r.cd.expires := by
      rw [isDue_finishEvent (ofTick_expiry i) hno, hcdue, hdue]
    rw [Bool.eq_iff_iff, ht.due _ (fun p he => by cases he), hdd]
    exact or_iff_left fun h => by cases h.1

end Plain

/-! ### The obligation -/

/-- A tick of the countdowns, in the words of R10. -/
theorem counted_eq (c : Countdown) : c.counted =
    if c.running = false then c
    else if 1 < c.remaining then { c with remaining := c.remaining - 1 }
    else if c.repeats = true then { c with remaining := c.reload }
    else { c with remaining := 0, running := false } := by
  unfold Countdown.counted
  cases c.running with
  | false => rfl
  | true =>
    by_cases h : c.remaining ≤ 1
    · simp only [if_true, if_pos h, if_neg (Nat.not_lt.mpr h), Bool.true_eq_false, if_false]; rfl
    · simp only [if_true, if_neg h, if_pos (Nat.lt_of_not_le h), Bool.true_eq_false, if_false]

theorem expires_iff (c : Countdown) : c.expires = true ↔ c.running = true ∧ c.remaining ≤ 1 := by
  unfold Countdown.expires
  rw [Bool.and_eq_true, decide_eq_true_iff]

/-- Settles O52. -/
theorem tick : Obligations.Tick := by
  unfold Obligations.Tick
  refine ⟨fun s i r hr => ?_, fun sc o s hawake hagenda => ?_⟩
  · have hexp : r.cd.expires = decide (r.cd.running = true ∧ r.cd.remaining ≤ 1) := by
      rw [Bool.eq_iff_iff, decide_eq_true_iff]; exact expires_iff r.cd
    have h := countDown_at hr
    rw [counted_eq, hexp] at h
    exact h
  intro now low latches returned counted
  have hs : s.agenda.due = [] := congrArg Agenda.due hagenda
  obtain ⟨t, hexec, ht⟩ := exec_tick hawake hs sc o
  have hu := charged_tickCharged sc o s
  have hplain : o.early = [] → o.mid = [] → tickCharged sc o s = tickBilled sc s := fun he hm => tickCharged_plain he hm sc s
  generalize tickCharged sc o s = u at *
  obtain ⟨hsup, hcfg, hnone⟩ := charged_supply hs hu
  obtain ⟨k, hf⟩ := fixed_ticked hu ht
  have hts := settled_supply ht
  obtain ⟨hmains, hlatch, hq, huv⟩ := supply_supplyTick sc (clearNotes u)
  have hstays := supplyTick_stays (sc := sc) (s := clearNotes u)
  rw [hsup, hcfg] at hq huv hstays
  rw [hsup] at hlatch
  rw [← hts] at hmains hlatch hq huv hstays
  have hdue := fun (ev : Event) (hev : ev.ofSupply = true) => isDue_ticked hs hu ht hev
  have happortion := isDue_ticked_apportion hs hu ht
  have hnow : t.meter.now = now := (congrArg Fixed.now hf :)
  have hlatches := (hdue .latch rfl).trans (ripe_latch sc s.cfg s.supply)
  have hreturned : t.isDue .returnDebounce = true ↔ returned := hdue .returnDebounce rfl
  refine ⟨t, hexec, (congrArg Fixed.clock hf :), (congrArg (fun f => f.codes.1) hf :), (congrArg (fun f => f.codes.2) hf :),
    fun p => (congrFun (congrArg Fixed.scans hf) p :), (congrArg (fun f => f.facts.bias) hf :), fun p => ?_, hnow, ?_,
    (congrArg Fixed.cfg hf :), (congrArg Fixed.host hf :), (congrArg Fixed.inReset hf :), (congrArg Fixed.pending hf :),
    hmains, hlatch, hq, huv, hlatches, hreturned, fun hm => ?_, fun hm hr => ?_, fun hm => ?_, fun q0 hm hl hr hq0 => ?_,
    fun he hm p i r hb hr hst hd hn => ?_, fun he hm => ?_⟩
  · rw [← mem_spaces sc s p]
    exact Iff.of_eq (congrArg (p ∈ ·) (congrArg (fun f => f.facts.spaces) hf :))
  · rw [happortion, hnow]
  · have hc := hstays (.inr (.inl hm))
    have hfail := hdue .failDebounce rfl
    rw [hc]
    refine ⟨hm, fun hp => ?_, fun hp => ⟨?_, ?_⟩⟩
    · simp [Supply.counted, hm, hp]
    · simp [Supply.counted, hm, hp]
    · rw [hfail]
      simp [Supply.ripe, hm, hp]
  · have hc := hstays (.inl (hr.elim (fun h => ⟨.latch, rfl, (ripe_latch ..).mpr h⟩) fun h => ⟨.returnDebounce, rfl, h⟩))
    rw [hc]
    exact ⟨rfl, if_neg hm⟩
  · have hc := hstays (.inr (.inr hm))
    rw [hc]
    exact ⟨hm, if_neg (by rw [hm]; decide)⟩
  · have hne : s.supply.mode ≠ .mains := by rcases hm with h | h <;> rw [h] <;> decide
    have h := tick_evaluates hs hu ht hm (fun h => hl ((ripe_latch ..).mp h)) hr hq0
    rw [show (s.supply.counted sc s.cfg).returnCount = counted from if_neg hne] at h
    exact h
  · rw [hplain he hm] at ht
    exact tick_debits hs hb hr hst hd hn ht
  · have hp := hplain he hm
    rw [hp] at ht hsup
    refine ⟨tick_appointments hs ht, fun i r hr hq hfed hwait hmode => ?_⟩
    have haside : i ∉ s.arbiter.queue := fun h => by
      have hx := (hq.2 i).mp h
      rw [stOf_rec hr] at hx
      exact hwait (Option.some.inj hx)
    obtain ⟨hslot, hexp⟩ := tick_leaves hs hr hfed haside ht (hmode.trans (congrArg Supply.mode hsup.symm))
    obtain ⟨x, hx, hxr⟩ := Option.map_eq_some_iff.mp hslot
    refine ⟨x, hx, ?_, (congrArg Record.st hxr :), (congrArg Record.allowance hxr :), ?_⟩
    · rw [(countDown_at hr).1]
      exact congrArg some (congrArg Record.cd hxr.symm :)
    · rw [hexp]
      exact expires_iff r.cd

end Sys2Proof.Machine
end

section
/-! SET of H and of K (R33). -/

namespace Sys2Proof.Machine

open Sys2Proof

/-- Settles O32: the owner of H lowers K to the lesser of the two, the owner of K clamps it to H, and neither touches the
supply controller. -/
theorem setHoldBackAndCutoff : Obligations.SetHoldBackAndCutoff := by
  unfold Obligations.SetHoldBackAndCutoff
  intro fr v s h hf
  have setH := request_plain (owner := holdBackOwner v.toNat) (r := setReply v.toNat v.toNat) h hf rfl h.2.1
  have setK := request_plain (owner := cutoffOwner v.toNat) (r := setReply v.toNat (clampTo 0 s.cfg.holdBack v.toNat))
    h hf rfl h.2.1
  rw [setReply_clamped (Nat.zero_le _)] at setK
  refine ⟨congrArg Host.Outcome.next ?_, fun hv => congrArg Host.Outcome.next ?_, fun hv => congrArg Host.Outcome.next ?_⟩
  · have hmin : min s.cfg.cutoff v.toNat = if v.toNat < s.cfg.cutoff then v.toNat else s.cfg.cutoff := by
      split <;> omega
    rw [setH, ← hmin]
    simp only [setReply, doneOr, ne_eq, not_true_eq_false, decide_false]
    rfl
  · rw [setK, clampTo_of_mem _ _ _ (Nat.zero_le _) hv, if_pos ⟨Nat.zero_le _, hv⟩]
    rfl
  · have hc : clampTo 0 s.cfg.holdBack v.toNat = s.cfg.holdBack := by
      unfold clampTo
      omega
    rw [setK, hc, if_neg fun hn => Nat.not_le_of_lt hv hn.2]
    rfl

end Sys2Proof.Machine
end

section
/-! A pass of a mode entry over the table, seen from one slot: the steps of the other records keep the slot, so the slot ends
as its own step makes it. -/

namespace Sys2Proof.Machine

open Sys2Proof

/-! ### What another record's step keeps -/

/-- Work that leaves the record of a slot, what the engines carry, and the outer part. -/
structure State.KeepsSlot (i : Idx) (s t : State) : Prop where
  slot : t.rec? i = s.rec? i
  cargo : t.ties.cargo = s.ties.cargo
  outer : t.outer = s.outer

/-- The record of a state entry reads the clock, the mode and the class policies alone. -/
theorem enteredRec_of_outer {s t : State} (h : t.outer = s.outer) (st : RState) (r : Record) :
    enteredRec false st t r = enteredRec false st s r := by
  unfold enteredRec
  rw [show t.clock = s.clock from congrArg (fun o => o.2.1) h, supply_of_outer h, cfg_of_outer h]

/-- The slot holds the record, up to its pending exchange. -/
def State.Shows (i : Idx) (s : State) (r : Record) : Prop := ∃ y, s.rec? i = some { r with pend := y }

section Slot

variable {s t u : State} {i j : Idx} {r : Record}

namespace State.KeepsSlot

theorem refl (i : Idx) (s : State) : s.KeepsSlot i s := ⟨rfl, rfl, rfl⟩

theorem trans (h : s.KeepsSlot i t) (k : t.KeepsSlot i u) : s.KeepsSlot i u :=
  ⟨k.slot.trans h.slot, k.cargo.trans h.cargo, k.outer.trans h.outer⟩

theorem holds (h : s.KeepsSlot i t) {k : ExKind} {n : Nat} (hk : s.Holds i k n) : t.Holds i k n := by
  rw [holds_iff] at hk ⊢
  rwa [h.slot, h.cargo]

theorem holdsQuery (h : s.KeepsSlot i t) (hq : s.HoldsQuery i) : t.HoldsQuery i :=
  hq.imp h.holds fun ⟨n, hn⟩ => ⟨n, h.holds hn⟩

theorem shows (h : s.KeepsSlot i t) (hs : s.Shows i r) : t.Shows i r := by
  obtain ⟨y, hy⟩ := hs
  exact ⟨y, h.slot.trans hy⟩

theorem mode (h : s.KeepsSlot i t) : t.supply.mode = s.supply.mode := by rw [supply_of_outer h.outer]

theorem enter (h : i ≠ j) {st : RState} (hst : st ≠ .faulted) (s : State) : s.KeepsSlot i (Machine.enter st j s) :=
  ⟨rec?_enterState_other h false st, congrArg Ties.cargo (ties_enter hst j s), outer_enter ..⟩

theorem ask (h : i ≠ j) (x : Exchange) (s : State) : s.KeepsSlot i (Machine.ask j x s) :=
  ⟨rec?_ask_other h x s, cargo_ask .., outer_ask ..⟩

theorem updRec (h : i ≠ j) (f : Record → Record) (s : State) : s.KeepsSlot i (Machine.updRec j f s) :=
  ⟨(rec?_updRec j i f s).trans (if_neg h), congrArg Ties.cargo (ties_updRec ..), outer_updRec ..⟩

theorem setCountdown (h : i ≠ j) (f : Countdown → Countdown) (s : State) : s.KeepsSlot i (Machine.setCountdown j f s) :=
  (updRec h (fun r => { r with cd := f r.cd }) s).trans ⟨rfl, rfl, rfl⟩

theorem releaseFeed (h : i ≠ j) (s : State) : s.KeepsSlot i (Machine.releaseFeed j s) :=
  (updRec h (fun r => { r with admitted := none }) s).trans ⟨rfl, rfl, rfl⟩

theorem orderAt (i : Idx) (p : Option Port) (n : Nat) (l : Drive) (s : State) : s.KeepsSlot i (Machine.orderAt p n l s) :=
  ⟨rec?_congr (slots_orderAt ..) i, congrArg Ties.cargo (ties_orderAt ..), by
    cases p with
    | none => rfl
    | some p => exact outer_orderLevel ..⟩

end State.KeepsSlot

/-- A pass that does not come to the slot keeps it. -/
theorem foldl_keepsSlot {f : State → Idx → State} (hf : ∀ (s : State) i j, i ≠ j → s.KeepsSlot i (f s j)) {l : List Idx}
    (hi : i ∉ l) (s : State) : s.KeepsSlot i (l.foldl f s) := by
  induction l generalizing s with
  | nil => exact .refl i s
  | cons j l ih =>
    obtain ⟨hij, hil⟩ := not_or.mp (mt List.mem_cons.mpr hi)
    exact (hf s i j hij).trans (ih hil _)

/-- A pass that comes to the slot once makes of it what its own step does. -/
theorem foldl_visits {f : State → Idx → State} (hf : ∀ (s : State) i j, i ≠ j → s.KeepsSlot i (f s j)) {l : List Idx}
    (hn : l.Nodup) (hi : i ∈ l) (s : State) : ∃ v, s.KeepsSlot i v ∧ (f v i).KeepsSlot i (l.foldl f s) := by
  induction l generalizing s with
  | nil => cases hi
  | cons j l ih =>
    obtain ⟨hjl, hnl⟩ := List.nodup_cons.mp hn
    by_cases hij : i = j
    · subst hij
      exact ⟨s, .refl i s, foldl_keepsSlot hf hjl _⟩
    · obtain ⟨v, hv, he⟩ := ih hnl ((List.mem_cons.mp hi).resolve_left hij) (f s j)
      exact ⟨v, (hf s i j hij).trans hv, he⟩

/-- The pass in class order comes to every occupied slot. -/
theorem classOrder_visits {f : State → Idx → State} (hf : ∀ (s : State) i j, i ≠ j → s.KeepsSlot i (f s j))
    (hr : s.rec? i = some r) : ∃ v, s.KeepsSlot i v ∧ (f v i).KeepsSlot i (s.classOrder.foldl f s) :=
  foldl_visits hf (nodup_classOrder s) (mem_classOrder.mpr (by rw [hr]; exact Option.some_ne_none r)) s

/-- A state entry of the slot's own record. -/
theorem shows_enter (hr : s.rec? i = some r) {st : RState} (hne : r.st ≠ st) (hst : st ≠ .faulted) :
    (enter st i s).rec? i = some (enteredRec false st s r) := rec?_enterState hr false hne hst

/-! ### The QUERY wave (R40) -/

theorem keepsSlot_waveRecord (s : State) (i j : Idx) (h : i ≠ j) : s.KeepsSlot i (waveRecord s j) := by
  unfold waveRecord
  split
  · exact (State.KeepsSlot.enter h (by decide) s).trans (.ask h ..)
  · exact .refl i s

/-- The wave passes an unbound record by; a bound one becomes CARRYING and holds a QUERY. -/
theorem queryWave_slot (hr : s.rec? i = some r) (hst : r.st ≠ .carrying) :
    (r.port = none → s.KeepsSlot i (queryWave s)) ∧
    (r.port ≠ none → (queryWave s).Shows i (enteredRec false .carrying s r) ∧ (queryWave s).HoldsQuery i) := by
  obtain ⟨v, hv, hw⟩ := classOrder_visits keepsSlot_waveRecord hr
  have hvr : v.rec? i = some r := hv.slot.trans hr
  have hport : v.portOf i = r.port := by simp [State.portOf, hvr]
  refine ⟨fun hp => ?_, fun hp => ?_⟩
  · have he : waveRecord v i = v := by rw [waveRecord, hport, hp]
    rw [he] at hw
    exact hv.trans hw
  · obtain ⟨p, hp⟩ := Option.ne_none_iff_exists'.mp hp
    have he : waveRecord v i = order .query i (enter .carrying i v) := by rw [waveRecord, hport, hp]
    have hc := shows_enter hvr hst (by decide)
    rw [enteredRec_of_outer hv.outer] at hc
    rw [he] at hw
    exact ⟨hw.shows (rec?_ask hc _), hw.holdsQuery (holdsQuery_ask hc)⟩

/-! ### CRITICAL entry (R41) -/

/-- A record whose feed is released. -/
def Record.unfed (r : Record) : Record := { r with admitted := none }

/-- The record that the first pass of CRITICAL entry leaves. -/
def releasedRec (s : State) (r : Record) : Record :=
  if r.cls = .lifeline then r
  else
    match r.st with
    | .fed => enteredRec false .carrying s r.unfed
    | .waiting => enteredRec false .carrying s r
    | .testing => enteredRec false .carrying s (r.tested .abandoned)
    | _ => r

theorem keepsSlot_criticalRelease (s : State) (i j : Idx) (h : i ≠ j) : s.KeepsSlot i (criticalRelease s j) := by
  have hleave : s.KeepsSlot i (leaveQueue j s) := ⟨rfl, rfl, rfl⟩
  unfold criticalRelease
  split
  · exact .refl i s
  · split
    · exact (State.KeepsSlot.releaseFeed h s).trans (.enter h (by decide) _)
    · exact hleave.trans (.enter h (by decide) _)
    · exact (State.KeepsSlot.updRec h _ s).trans (.enter h (by decide) _)
    · exact .refl i s

theorem keepsSlot_criticalRest (s : State) (i j : Idx) (h : i ≠ j) : s.KeepsSlot i (criticalRest s j) := by
  unfold criticalRest
  split
  · exact .refl i s
  · split
    · exact .ask h ..
    · exact .ask h ..
    · exact .refl i s

theorem lifeline_rec (hr : s.rec? i = some r) : s.lifeline i = decide (r.cls = .lifeline) := by
  simp [State.lifeline, State.ofClass, hr]

theorem raise_cls (f : RecFlag) (r : Record) : (r.raise f).cls = r.cls := by
  unfold Record.raise
  split <;> rfl

theorem releasedRec_cls (s : State) (r : Record) : (releasedRec s r).cls = r.cls := by
  unfold releasedRec
  split
  · rfl
  · split
    · rfl
    · rfl
    · exact raise_cls .tested r
    · rfl

theorem tested_st (o : TestOutcome) (r : Record) : (r.tested o).st = r.st := by
  unfold Record.tested Record.raise
  split <;> rfl

theorem rec?_criticalRelease (hr : s.rec? i = some r) : (criticalRelease s i).rec? i = some (releasedRec s r) := by
  unfold criticalRelease releasedRec
  rw [lifeline_rec hr, stOf_rec hr]
  by_cases hl : r.cls = .lifeline
  · simpa [hl] using hr
  · simp only [hl, decide_false, Bool.false_eq_true, if_false]
    cases hst : r.st with
    | fed =>
      have hx : (releaseFeed i s).rec? i = some r.unfed := by
        refine (rec?_updRec_self i (fun r => { r with admitted := none }) s).trans ?_
        rw [hr]
        rfl
      refine (shows_enter hx (st := .carrying) ?_ (by decide)).trans ?_
      · rw [show r.unfed.st = .fed from hst]; decide
      · rw [enteredRec_of_outer (outer_releaseFeed i s)]
    | waiting => exact shows_enter (s := leaveQueue i s) hr (by simp [hst]) (by decide)
    | testing =>
      have hx : (setTested i .abandoned s).rec? i = some (r.tested .abandoned) := by
        rw [setTested, rec?_updRec_self, hr]
        rfl
      refine (shows_enter hx (st := .carrying) ?_ (by decide)).trans ?_
      · rw [tested_st, hst]; decide
      · rw [enteredRec_of_outer (outer_setTested i .abandoned s)]
    | _ => exact hr

/-- The second pass gives a REST to a non-LIFELINE record in CARRYING or LAPSED, and leaves the others. -/
theorem criticalRest_cases (hr : s.rec? i = some r) :
    (r.cls ≠ .lifeline ∧ (r.st = .carrying ∨ r.st = .lapsed) ∧ criticalRest s i = order .rest i s) ∨
    ((r.cls = .lifeline ∨ r.st ≠ .carrying ∧ r.st ≠ .lapsed) ∧ criticalRest s i = s) := by
  unfold criticalRest
  rw [lifeline_rec hr, stOf_rec hr]
  by_cases hl : r.cls = .lifeline
  · exact .inr ⟨.inl hl, by simp [hl]⟩
  · simp only [hl, decide_false, Bool.false_eq_true, if_false]
    cases hst : r.st with
    | carrying => exact .inl ⟨hl, .inl rfl, rfl⟩
    | lapsed => exact .inl ⟨hl, .inr rfl, rfl⟩
    | _ => exact .inr ⟨.inr ⟨by decide, by decide⟩, rfl⟩

theorem cargo_criticalRelease (s : State) (i : Idx) : (criticalRelease s i).ties.cargo = s.ties.cargo := by
  have he : ∀ t : State, (enter .carrying i t).ties.cargo = t.ties.cargo := fun t =>
    congrArg Ties.cargo (ties_enter (by decide) i t)
  unfold criticalRelease
  split
  · rfl
  · split
    · rw [he, ties_releaseFeed]
    · rw [he]; rfl
    · rw [he, ties_setTested]
    · rfl

/-- The two passes of CRITICAL entry at one slot: its record is released, and gets a REST if it is then in CARRYING or
LAPSED and not LIFELINE. -/
theorem criticalOrders_slot (hr : s.rec? i = some r) :
    (criticalOrders s).Shows i (releasedRec s r) ∧
    (r.cls = .lifeline → s.KeepsSlot i (criticalOrders s)) ∧
    (r.cls ≠ .lifeline → (releasedRec s r).st = .carrying ∨ (releasedRec s r).st = .lapsed →
      (criticalOrders s).Holds i .rest 0) := by
  obtain ⟨v, hv, hw⟩ := classOrder_visits keepsSlot_criticalRelease hr
  have hvr := hv.slot.trans hr
  have hrel := rec?_criticalRelease hvr
  have hx : releasedRec v r = releasedRec s r := by
    unfold releasedRec
    simp only [enteredRec_of_outer hv.outer]
  rw [hx] at hrel
  have hcls := releasedRec_cls s r
  unfold criticalOrders
  dsimp only
  generalize s.classOrder.foldl criticalRelease s = w at hw ⊢
  have hwr := hw.slot.trans hrel
  obtain ⟨v', hv', hw'⟩ := classOrder_visits keepsSlot_criticalRest hwr
  have hvr' := hv'.slot.trans hwr
  obtain ⟨hl, hst, he⟩ | ⟨hn, he⟩ := criticalRest_cases hvr'
  · rw [he] at hw'
    rw [hcls] at hl
    exact ⟨hw'.shows (rec?_ask hvr' _), fun h => absurd h hl,
      fun _ _ => hw'.holds (holds_ask (x := ⟨.rest, 0, .policy⟩) hvr' (by decide))⟩
  · rw [he] at hw'
    have hk := hv'.trans hw'
    rw [hcls] at hn
    refine ⟨hk.shows ⟨_, hwr⟩, fun h => ?_, fun h hs => ?_⟩
    · have hid : criticalRelease v i = v := by rw [criticalRelease, lifeline_rec hvr, h]; rfl
      rw [hid] at hw
      exact (hv.trans hw).trans hk
    · rcases hn with hn | ⟨h1, h2⟩
      · exact absurd hn h
      · exact absurd hs (not_or.mpr ⟨h1, h2⟩)

/-! ### Leaving DEPLETED (R44) -/

/-- The step of a SILENT record that is not woken: its cell takes its level, its countdown its load, and a REST is asked
for. -/
theorem leaveDepletedRecord_rests (hr : s.rec? i = some r) (hst : r.st = .silent)
    (hn : ¬(s.supply.mode = .outage ∨ r.cls = .lifeline)) : leaveDepletedRecord s i =
      order .rest i (setCountdown i (fun c => c.forEntry s.supply.mode (s.cfg.policy r.cls) false .silent)
        (orderAt r.port 0 .sense s)) := by
  have ho := (State.KeepsSlot.orderAt i r.port 0 .sense s).outer
  have hm := supply_of_outer ho
  have hc := cfg_of_outer ho
  unfold leaveDepletedRecord
  rw [hr]
  dsimp only
  rw [if_pos hst, if_neg hn, ← hm, ← hc]
  cases r.port with
  | none => rfl
  | some p => rfl

theorem leaveDepletedRecord_wakes (hr : s.rec? i = some r) (hst : r.st = .silent)
    (hw : s.supply.mode = .outage ∨ r.cls = .lifeline) : leaveDepletedRecord s i = order .wake i (enter .waking i s) := by
  simp only [leaveDepletedRecord, hr, hst, if_true, hw]

theorem leaveDepletedRecord_stays (hn : ∀ r, s.rec? i = some r → r.st ≠ .silent) : leaveDepletedRecord s i = s := by
  unfold leaveDepletedRecord
  split
  · rfl
  · next r hr => rw [if_neg (hn r hr)]

theorem keepsSlot_leaveDepletedRecord (s : State) (i j : Idx) (h : i ≠ j) : s.KeepsSlot i (leaveDepletedRecord s j) := by
  cases hr : s.rec? j with
  | none => rw [leaveDepletedRecord_stays fun r h => by rw [hr] at h; cases h]; exact .refl i s
  | some r =>
    by_cases hst : r.st = .silent
    · by_cases hw : s.supply.mode = .outage ∨ r.cls = .lifeline
      · rw [leaveDepletedRecord_wakes hr hst hw]
        exact (State.KeepsSlot.enter h (by decide) s).trans (.ask h ..)
      · rw [leaveDepletedRecord_rests hr hst hw]
        exact ((State.KeepsSlot.orderAt i ..).trans (.setCountdown h ..)).trans (.ask h ..)
    · rw [leaveDepletedRecord_stays fun q hq => by cases hr.symm.trans hq; exact hst]
      exact .refl i s

/-- A SILENT record whose countdown is loaded for the mode entered (R9, R44). -/
def reloadedRec (s : State) (r : Record) : Record :=
  { r with cd := r.cd.forEntry s.supply.mode (s.cfg.policy r.cls) false .silent }

/-- The pass on leaving DEPLETED at one slot: a SILENT record is woken, or gets its load and a REST; others are left. -/
theorem leaveDepletedOrders_slot (hr : s.rec? i = some r) :
    (r.st ≠ .silent → s.KeepsSlot i (leaveDepletedOrders s)) ∧
    (r.st = .silent → s.supply.mode = .outage ∨ r.cls = .lifeline →
      (leaveDepletedOrders s).Shows i (enteredRec false .waking s r) ∧ (leaveDepletedOrders s).Holds i .wake 0) ∧
    (r.st = .silent → ¬(s.supply.mode = .outage ∨ r.cls = .lifeline) →
      (leaveDepletedOrders s).Shows i (reloadedRec s r) ∧ (leaveDepletedOrders s).Holds i .rest 0) := by
  obtain ⟨v, hv, hw⟩ := classOrder_visits keepsSlot_leaveDepletedRecord hr
  have hvr := hv.slot.trans hr
  change (leaveDepletedRecord v i).KeepsSlot i (leaveDepletedOrders s) at hw
  rw [← hv.mode]
  refine ⟨fun hst => ?_, fun hst hm => ?_, fun hst hm => ?_⟩
  · rw [leaveDepletedRecord_stays fun q hq => by cases hvr.symm.trans hq; exact hst] at hw
    exact hv.trans hw
  · rw [leaveDepletedRecord_wakes hvr hst hm] at hw
    have hc := shows_enter hvr (st := .waking) (by rw [hst]; decide) (by decide)
    rw [enteredRec_of_outer hv.outer] at hc
    exact ⟨hw.shows (rec?_ask hc _), hw.holds (holds_ask (x := ⟨.wake, 0, .policy⟩) hc (by decide))⟩
  · rw [leaveDepletedRecord_rests hvr hst hm, hv.mode, cfg_of_outer hv.outer] at hw
    have ho := (State.KeepsSlot.orderAt i r.port 0 .sense v).slot.trans hvr
    have hc : (setCountdown i (fun c => c.forEntry s.supply.mode (s.cfg.policy r.cls) false .silent)
        (orderAt r.port 0 .sense v)).rec? i = some (reloadedRec s r) := by
      refine (rec?_updRec_self i _ (orderAt r.port 0 .sense v)).trans ?_
      rw [ho]
      rfl
    exact ⟨hw.shows (rec?_ask hc _), hw.holds (holds_ask (x := ⟨.rest, 0, .policy⟩) hc (by decide))⟩

end Slot

end Sys2Proof.Machine
end

section
/-! The entries into MAINS and DEPLETED (R43, R45): every cell OFF, every exchange dropped, all feed released, every test
abandoned, and each record retired into IDLE or SILENT with its countdown at rest. -/

namespace Sys2Proof.Machine

open Sys2Proof

/-! ### What no order of these entries changes -/

/-- The device flags, the meter, and each port's fault count and scan code. -/
def State.gauges (s : State) : DevFlags × Meter × (Port → Nat × Nat) := (s.dev, s.meter, s.portMarks)

theorem gauges_eq_iff {s t : State} :
    t.gauges = s.gauges ↔ t.dev = s.dev ∧ t.meter = s.meter ∧ t.portMarks = s.portMarks := by
  simp only [State.gauges, Prod.mk.injEq]

theorem gauges_of_frame {s t : State} (h : t.frame = s.frame) : t.gauges = s.gauges := by
  unfold State.gauges
  rw [show t.dev = s.dev from congrArg Frame.dev h, show t.meter = s.meter from congrArg Frame.meter h,
    show t.portMarks = s.portMarks from congrArg Frame.marks h]

@[simp] theorem gauges_updRec (i : Idx) (f : Record → Record) (s : State) : (updRec i f s).gauges = s.gauges := by
  unfold updRec
  split <;> rfl

@[simp] theorem gauges_setLine (e : Engine) (l : List LineLevel) (s : State) : (setLine e l s).gauges = s.gauges := by
  cases e <;> rfl

@[simp] theorem gauges_abortEngine (o : ExOutcome) (e : Engine) (s : State) : (abortEngine o e s).gauges = s.gauges := by
  have hcut : (cutLine e s).gauges = s.gauges := by
    have hs := gauges_of_frame (frame_sendPart e s)
    unfold cutLine
    dsimp only
    split
    · split
      · rw [gauges_setLine, hs]
      · exact hs
    · exact hs
  unfold abortEngine
  split
  · rfl
  · unfold noteSent
    split
    · rw [gauges_updRec, gauges_of_frame (frame_freeEngine ..), hcut]
    · rw [gauges_of_frame (frame_freeEngine ..), hcut]

theorem gauges_foldl {α : Type} {f : State → α → State} (hf : ∀ s a, (f s a).gauges = s.gauges) (l : List α) (s : State) :
    (l.foldl f s).gauges = s.gauges := foldl_keeps (Q := fun t => t.gauges = s.gauges) (fun t a ht => (hf t a).trans ht) l rfl

theorem ties_foldl {α : Type} {f : State → α → State} (hf : ∀ s a, (f s a).ties = s.ties) (l : List α) (s : State) :
    (l.foldl f s).ties = s.ties := foldl_keeps (Q := fun t => t.ties = s.ties) (fun t a ht => (hf t a).trans ht) l rfl

/-- A pass whose step changes its own slot by `g` changes every slot by `g`. -/
theorem rec?_foldl_all {f : State → Idx → State} {g : Record → Record}
    (hf : ∀ (s : State) i j, (f s i).rec? j = if j = i then (s.rec? i).map g else s.rec? j) (s : State) (i : Idx) :
    (allIdx.foldl f s).rec? i = (s.rec? i).map g := by
  have hl : ∀ (l : List Idx) (s : State), l.Nodup →
      (l.foldl f s).rec? i = if i ∈ l then (s.rec? i).map g else s.rec? i := fun l => by
    induction l with
    | nil => intro s _; simp
    | cons j l ih =>
      intro s hn
      obtain ⟨hjl, hnl⟩ := List.nodup_cons.mp hn
      rw [List.foldl_cons, ih _ hnl, hf]
      by_cases hij : i = j
      · subst hij; simp [hjl]
      · simp [hij]
  rw [hl allIdx s (List.nodup_finRange 64), if_pos (show i ∈ allIdx from List.mem_finRange i)]

/-! ### The table stripped, slot by slot and cell by cell -/

theorem slots_offCell (z : Bool) (s : State) (p : Port) : (offCell z s p).slots = s.slots := slots_sendPartOn p s

theorem slots_allCellsOff (z : Bool) (s : State) : (allCellsOff z s).slots = s.slots := by
  rw [allCellsOff_eq]
  exact foldl_keeps (Q := fun t => t.slots = s.slots) (fun t p ht => (slots_offCell z t p).trans ht) allPorts rfl

/-- A cell turned OFF keeps its scan code, and its fault count unless that is zeroed; the other cells keep both. -/
theorem offCell_faults (z : Bool) (s : State) (p q : Port) : (offCell z s p).cells[q].faultCount =
    if z = true ∧ q = p then 0 else s.cells[q].faultCount := by
  have hs : ∀ q : Port, (sendPartOn p s).cells[q].faultCount = s.cells[q].faultCount := fun q =>
    congrArg Prod.fst (congrFun (congrArg Frame.marks (frame_sendPartOn p s)) q)
  unfold offCell
  rw [cells_updCell]
  by_cases hq : q = p
  · subst hq
    cases z with
    | false =>
      simp only [if_true, Bool.false_eq_true, false_and, if_false]
      exact (toLevel_marks 0 .off _).1.trans (hs q)
    | true => simp only [if_true, and_self]
  · rw [if_neg hq, if_neg fun h => hq h.2]
    exact hs q

theorem allCellsOff_faults (z : Bool) (s : State) (p : Port) : (allCellsOff z s).cells[p].faultCount =
    if z = true then 0 else s.cells[p].faultCount := by
  rw [allCellsOff_eq]
  cases z with
  | false =>
    exact foldl_keeps (Q := fun t => t.cells[p].faultCount = s.cells[p].faultCount)
      (fun t q ht => (offCell_faults false t q p).trans ((if_neg fun h => Bool.false_ne_true h.1).trans ht)) allPorts rfl
  | true =>
    exact foldl_each (P := fun (p : Port) (t : State) => t.cells[p].faultCount = 0)
      (fun t p => (offCell_faults true t p p).trans (if_pos ⟨rfl, rfl⟩))
      (fun t p q hq => by rw [offCell_faults]; split; exacts [rfl, hq]) allPorts s p (List.mem_finRange p)

theorem gauges_allCellsOff (z : Bool) (s : State) :
    (allCellsOff z s).dev = s.dev ∧ (allCellsOff z s).meter = s.meter := by
  rw [allCellsOff_eq]
  generalize allPorts = l
  exact foldl_keeps (f := offCell z) (Q := fun t => t.dev = s.dev ∧ t.meter = s.meter)
    (fun t p ht => ⟨(congrArg Frame.dev (frame_sendPartOn p t)).trans ht.1,
      (congrArg Frame.meter (frame_sendPartOn p t)).trans ht.2⟩) l ⟨rfl, rfl⟩

@[simp] theorem gauges_dropAllExchanges (s : State) : (dropAllExchanges s).gauges = s.gauges := by
  have hl : ∀ (l : Link) (t : State), ({ t with link := l } : State).gauges = t.gauges := fun _ _ => rfl
  unfold dropAllExchanges
  rw [hl, gauges_foldl fun t i => gauges_updRec i (fun r => { r with pend := none }) t, gauges_abortEngine,
    gauges_abortEngine]

@[simp] theorem gauges_releaseAll (s : State) : (releaseAll s).gauges = s.gauges := by
  have ha : ∀ (a : Arbiter) (t : State), (callDecision { t with arbiter := a }).gauges = t.gauges := fun _ _ => rfl
  unfold releaseAll
  rw [ha, gauges_foldl fun t i => gauges_updRec i (fun r => { r with admitted := none }) t]

/-- A record whose running test is abandoned. -/
def Record.abandoned (r : Record) : Record := if r.st = .testing then r.tested .abandoned else r

theorem rec?_abandonTest (s : State) (i j : Idx) :
    (abandonTest i s).rec? j = if j = i then (s.rec? i).map Record.abandoned else s.rec? j := by
  unfold abandonTest Record.abandoned
  cases hr : s.rec? i with
  | none =>
    have hs : s.stOf i = none := by simp [State.stOf, hr]
    rw [hs]
    dsimp only
    split
    · next hj => rw [hj, hr]; rfl
    · rfl
  | some r =>
    rw [stOf_rec hr]
    split
    · next ht =>
      rw [setTested, rec?_updRec, hr]
      simp [Option.some.inj ht]
    · next hn =>
      split
      · next hj =>
        subst hj
        rw [hr, Option.map_some, if_neg fun he => hn (congrArg some he)]
      · rfl

@[simp] theorem gauges_abandonAllTests (s : State) : (abandonAllTests s).gauges = s.gauges :=
  gauges_foldl (fun t i => by
    unfold abandonTest
    split
    · exact gauges_updRec ..
    · rfl) allIdx s

@[simp] theorem ties_abandonAllTests (s : State) : (abandonAllTests s).ties = s.ties :=
  ties_foldl (fun t i => by
    unfold abandonTest
    split
    · exact ties_setTested ..
    · rfl) allIdx s

/-- Stripping the table keeps the device flags and the meter, and the fault counts where they are not zeroed. -/
theorem stripTable_gauges (z : Bool) (s : State) :
    (stripTable z s).dev = s.dev ∧ (stripTable z s).meter = s.meter ∧
    ∀ p : Port, (stripTable z s).cells[p].drive = .off ∧
      (stripTable z s).cells[p].faultCount = if z = true then 0 else s.cells[p].faultCount := by
  have hg : (stripTable z s).gauges = (allCellsOff z s).gauges := by simp [stripTable]
  have hd : (stripTable z s).service.drive = (allCellsOff z s).service.drive := by
    unfold stripTable
    rw [service_abandonAllTests, service_releaseAll, service_dropAllExchanges]
  obtain ⟨h1, h2⟩ := gauges_allCellsOff z s
  have hoff := fun p => (allCellsOff_cells z s p).1
  have hfaults := allCellsOff_faults z s
  generalize stripTable z s = t at *
  generalize allCellsOff z s = u at *
  obtain ⟨hdev, hmeter, hmarks⟩ := gauges_eq_iff.mp hg
  exact ⟨hdev.trans h1, hmeter.trans h2, fun p =>
    ⟨(congrFun hd p).trans (hoff p), (congrArg Prod.fst (congrFun hmarks p)).trans (hfaults p)⟩⟩

/-- A stripped table has no exchange in flight or in the queue, and empty collections. -/
theorem ties_stripTable (z : Bool) (s : State) :
    (stripTable z s).ties.queue = [] ∧ (stripTable z s).ties.arbiter = ⟨[], []⟩ := by
  have hr : ∀ t : State, (releaseAll t).ties.queue = t.ties.queue ∧ (releaseAll t).ties.arbiter = ⟨[], []⟩ := fun t => by
    have hf := ties_foldl (fun u i => ties_updRec i (fun r => { r with admitted := none }) u) allIdx t
    unfold releaseAll
    dsimp only
    generalize allIdx.foldl _ t = u at hf ⊢
    exact ⟨(congrArg Ties.queue hf :), rfl⟩
  have hd : ∀ t : State, (dropAllExchanges t).ties.queue = [] := fun t => by
    unfold dropAllExchanges
    dsimp only
    generalize allIdx.foldl _ _ = u
    rfl
  unfold stripTable
  rw [ties_abandonAllTests]
  exact ⟨(hr _).1.trans (hd _), (hr _).2⟩

/-- What stripping the table makes of a record. -/
structure Record.Stripped (r q : Record) : Prop where
  st : q.st = r.st
  port : q.port = r.port
  entered : q.entered = r.entered
  allowance : q.allowance = r.allowance
  pend : q.pend = none
  admitted : q.admitted = none
  tested : r.st = .testing → q.has .tested = true ∧ q.testOutcome = some .abandoned

theorem stripped_abandoned {r : Record} (f : BitVec 8) (b : Bool) (y : Option (ExKind × ExOutcome)) :
    r.Stripped (Record.abandoned { r with flags := f, rep := b, lastOutcome := y, pend := none, admitted := none }) := by
  have hkept : ∀ x : Record, (x.tested .abandoned).st = x.st ∧ (x.tested .abandoned).port = x.port ∧
      (x.tested .abandoned).entered = x.entered ∧ (x.tested .abandoned).allowance = x.allowance ∧
      (x.tested .abandoned).pend = x.pend ∧ (x.tested .abandoned).admitted = x.admitted := fun x => by
    unfold Record.tested Record.raise
    split <;> exact ⟨rfl, rfl, rfl, rfl, rfl, rfl⟩
  unfold Record.abandoned
  split
  · obtain ⟨h1, h2, h3, h4, h5, h6⟩ :=
      hkept { r with flags := f, rep := b, lastOutcome := y, pend := none, admitted := none }
    exact ⟨h1, h2, h3, h4, h5, h6, fun _ => ⟨has_raise .tested _, rfl⟩⟩
  · next hn => exact ⟨rfl, rfl, rfl, rfl, rfl, rfl, fun h => absurd h hn⟩

/-- An abort notes SENT and the last outcome of a record at most (R125, R131). -/
theorem rec?_abortEngine {s : State} {i : Idx} {r : Record} (hr : s.rec? i = some r) (o : ExOutcome) (e : Engine) :
    ∃ f b y, (abortEngine o e s).rec? i = some { r with flags := f, rep := b, lastOutcome := y } := by
  unfold abortEngine
  cases hg : s.engine e with
  | none => exact ⟨r.flags, r.rep, r.lastOutcome, hr⟩
  | some g =>
    have hu : (freeEngine e (cutLine e s)).rec? i = some r := by
      rw [rec?_congr ((slots_freeEngine ..).trans (slots_cutLine e s)), hr]
    dsimp only
    unfold noteSent
    split
    · rw [rec?_updRec]
      split
      · next hi =>
        rw [← hi, hu, Option.map_some]
        unfold Record.sentWith Record.raise
        split
        · exact ⟨_, _, _, rfl⟩
        · exact ⟨_, _, _, rfl⟩
      · exact ⟨r.flags, r.rep, r.lastOutcome, hu⟩
    · exact ⟨r.flags, r.rep, r.lastOutcome, hu⟩

theorem rec?_stripTable {s : State} {i : Idx} {r : Record} (hr : s.rec? i = some r) (z : Bool) :
    ∃ q, (stripTable z s).rec? i = some q ∧ r.Stripped q := by
  obtain ⟨f, b, y, ha⟩ := rec?_abortEngine ((rec?_congr (slots_allCellsOff z s) i).trans hr) .aborted .a
  obtain ⟨f', b', y', hb⟩ := rec?_abortEngine ha .aborted .b
  have hdrop : ∀ t : State, (dropAllExchanges t).rec? i =
      ((abortEngine .aborted .b (abortEngine .aborted .a t)).rec? i).map fun r => { r with pend := none } := fun t => by
    rw [← rec?_foldl_all fun u k j => rec?_updRec k j (fun r => { r with pend := none }) u]
    unfold dropAllExchanges
    dsimp only
    generalize allIdx.foldl _ _ = u
    rfl
  have hrel : ∀ t : State, (releaseAll t).rec? i = (t.rec? i).map fun r => { r with admitted := none } := fun t => by
    rw [← rec?_foldl_all fun u k j => rec?_updRec k j (fun r => { r with admitted := none }) u]
    unfold releaseAll
    dsimp only
    generalize allIdx.foldl _ _ = u
    rfl
  refine ⟨_, ?_, stripped_abandoned f' b' y'⟩
  rw [stripTable, abandonAllTests, rec?_foldl_all rec?_abandonTest, hrel, hdrop, hb]
  rfl

/-! ### A record retired -/

/-- The record's step of both entries: it enters the state, and its countdown stops. -/
def standDown (st : RState) (i : Idx) (s : State) : State := setCountdown i Countdown.stop (enter st i s)

section Retire

variable {s : State} {st : RState} {i j : Idx} {r : Record}

theorem frame_standDown (st : RState) (i : Idx) (s : State) : (standDown st i s).frame = s.frame :=
  (frame_setCountdown ..).trans (frame_enter ..)

theorem ties_standDown (h : st ≠ .faulted) (i : Idx) (s : State) : (standDown st i s).ties = s.ties :=
  (ties_setCountdown ..).trans (ties_enter h i s)

theorem keepsSlot_standDown (hst : st ≠ .faulted) (s : State) (i j : Idx) (h : i ≠ j) : s.KeepsSlot i (standDown st j s) :=
  (State.KeepsSlot.enter h hst s).trans (.setCountdown h ..)

/-- The record of a retirement. -/
theorem rec?_standDown (hr : s.rec? i = some r) (hst : st ≠ .faulted) : (standDown st i s).rec? i =
    some { (if r.st = st then r else enteredRec false st s r) with cd := (if r.st = st then r else enteredRec false st s r).cd.stop } := by
  have he : (enter st i s).rec? i = some (if r.st = st then r else enteredRec false st s r) := by
    split
    · next h => rw [enter, enterState_same hr h, hr]
    · next h => exact shows_enter hr h hst
  refine (rec?_updRec_self i (fun r => { r with cd := r.cd.stop }) (enter st i s)).trans ?_
  rw [he]
  rfl

end Retire

end Sys2Proof.Machine
end

section
/-! What the orders of MAINS and DEPLETED leave of the part (R43, R45), and the end of their event. -/

namespace Sys2Proof.Machine

open Sys2Proof

/-! ### The part shut down -/

/-- What both entries leave outside the records: every cell OFF, nothing in flight or in a queue, no feed. -/
structure State.ShutDown (z : Bool) (s t : State) : Prop where
  dev : t.dev = s.dev
  meter : t.meter = s.meter
  outer : t.outer = s.outer
  cells : ∀ p : Port, t.cells[p].drive = .off ∧ t.cells[p].faultCount = if z = true then 0 else s.cells[p].faultCount
  queue : t.link.queue = []
  arbiter : t.arbiter = ⟨[], []⟩
  engA : t.link.engA = none
  engB : t.link.engB = none

theorem outer_stripTable (z : Bool) (s : State) : (stripTable z s).outer = s.outer := by
  have hoff : (allCellsOff z s).outer = s.outer := by
    rw [allCellsOff_eq]
    exact outer_foldl (offCell z) (fun t p => (outer_updCell p _ _).trans (outer_sendPartOn p t)) allPorts s
  have hdrop : ∀ t : State, (dropAllExchanges t).outer = t.outer := fun t => by
    have hl : ∀ (l : Link) (u : State), ({ u with link := l } : State).outer = u.outer := fun _ _ => rfl
    unfold dropAllExchanges
    rw [hl, outer_foldl _ fun u i => outer_updRec i (fun r => { r with pend := none }) u, outer_abortEngine, outer_abortEngine]
  have hrel : ∀ t : State, (releaseAll t).outer = t.outer := fun t => by
    have hl : ∀ (a : Arbiter) (u : State), (callDecision { u with arbiter := a }).outer = u.outer := fun _ _ => rfl
    unfold releaseAll
    rw [hl, outer_foldl _ fun u i => outer_updRec i (fun r => { r with admitted := none }) u]
  unfold stripTable abandonAllTests
  rw [outer_foldl _ fun u i => outer_abandonTest i u, hrel, hdrop, hoff]

section Records

variable {s : State} {z : Bool} {st : RState} {f : State → Idx → State} {i : Idx} {r : Record}

/-- A pass that retires records from a stripped table leaves the part shut down. -/
theorem shutDown_records (hst : st ≠ .faulted) (hf : ∀ s i, f s i = s ∨ f s i = standDown st i s)
    (hd : driveFor s.supply.mode st = .off) (z : Bool) : s.ShutDown z (allIdx.foldl f (stripTable z s)) := by
  obtain ⟨hdev, hmeter, hcells⟩ := stripTable_gauges z s
  obtain ⟨hqueue, harb⟩ := ties_stripTable z s
  have hE := emptied_stripTable z s
  have ho := outer_stripTable z s
  generalize stripTable z s = B at *
  obtain ⟨hframe, hties, hoff⟩ := foldl_keeps (f := f) (Q := fun u => u.frame = B.frame ∧ u.ties = B.ties ∧
      ∀ p, u.service.drive p = .off) (fun u i hu => by
    obtain ⟨hframe, hties, hoff⟩ := hu
    obtain he | he := hf u i
    · rw [he]; exact ⟨hframe, hties, hoff⟩
    · have hm : u.supply.mode = s.supply.mode := by rw [supply_of_outer ((congrArg Frame.outer hframe).trans ho)]
      rw [he]
      refine ⟨(frame_standDown ..).trans hframe, (ties_standDown hst i u).trans hties, fun p => ?_⟩
      rw [standDown, service_setCountdown]
      exact off_enterState hoff (by rw [hm]; exact hd) false p) allIdx (s := B) ⟨rfl, rfl, fun p => (hcells p).1⟩
  generalize allIdx.foldl f B = t at *
  have heng : ∀ e, t.engine e = none := fun e => by
    have hb : B.engine e = none := by
      cases e
      · exact hE.engA
      · exact hE.engB
    have hc : (t.engine e).map Engagement.cargo = (B.engine e).map Engagement.cargo := congrFun (congrArg Ties.cargo hties) e
    rw [hb] at hc
    exact Option.map_eq_none_iff.mp hc
  exact ⟨(congrArg Frame.dev hframe).trans hdev, (congrArg Frame.meter hframe).trans hmeter,
    (congrArg Frame.outer hframe).trans ho,
    fun p => ⟨hoff p, (congrArg Prod.fst (congrFun (congrArg Frame.marks hframe) p)).trans (hcells p).2⟩,
    (congrArg Ties.queue hties).trans hqueue, (congrArg Ties.arbiter hties).trans harb, heng .a, heng .b⟩

/-- Each slot of a stripped table ends as its own step of the pass makes it. -/
theorem records_visit (hf : ∀ (s : State) i j, i ≠ j → s.KeepsSlot i (f s j)) (hr : s.rec? i = some r) (z : Bool) :
    ∃ v q, v.rec? i = some q ∧ r.Stripped q ∧ v.outer = s.outer ∧
      (f v i).KeepsSlot i (allIdx.foldl f (stripTable z s)) := by
  obtain ⟨q, hq, hstrip⟩ := rec?_stripTable hr z
  obtain ⟨v, hv, hw⟩ := foldl_visits hf (List.nodup_finRange 64) (List.mem_finRange i) (stripTable z s)
  exact ⟨v, q, hv.slot.trans hq, hstrip, hv.outer.trans (outer_stripTable z s), hw⟩

/-- A retired record: its state, its countdown at rest, and the stamp of the entry where it made one. -/
theorem standDown_stripped {v : State} {q : Record} (hq : v.rec? i = some q) (h : r.Stripped q) (hst : st ≠ .faulted)
    (hd : r.st = .testing → st ≠ .testing) :
    ∃ x, (standDown st i v).rec? i = some x ∧ x.st = st ∧ x.cd.running = false ∧ x.cd.remaining = 0 ∧
      x.entered = (if r.st = st then r.entered else v.clock) ∧ x.allowance = r.allowance ∧ x.pend = none ∧
      x.admitted = none ∧ (r.st = .testing → x.has .tested = true ∧ x.testOutcome = some .abandoned) := by
  refine ⟨_, rec?_standDown hq hst, ?_⟩
  rw [← h.st, ← h.entered, ← h.allowance]
  by_cases hs : q.st = st
  · rw [if_pos hs, if_pos hs]
    exact ⟨hs, rfl, rfl, rfl, rfl, h.pend, h.admitted, fun ht => absurd ((h.st ▸ hs).symm.trans (h.st ▸ ht)) (hd (h.st ▸ ht))⟩
  · rw [if_neg hs, if_neg hs]
    exact ⟨rfl, rfl, rfl, rfl, rfl, h.pend, h.admitted, fun ht => h.tested (h.st ▸ ht)⟩

end Records

end Sys2Proof.Machine
end

section
/-! The orders of each mode entry, as the end of its event leaves them (R39 to R44). -/

namespace Sys2Proof.Machine

open Sys2Proof

/-! ### A mode entry and its orders -/

/-- The part as the orders of an entry find it (R29, R38). -/
def State.entering (m : Mode) (s : State) : State :=
  { s with
    supply := { s.supply with mode := m, failCount := 0, returnCount := 0, held := false }
    dev := { s.dev with mode := true } }

theorem enterMode_eq {m : Mode} (hm : m ≠ .mains) (s : State) :
    enterMode m s = callDecision (markApportion (entryOrders s.supply.mode m (s.entering m))) := by
  unfold enterMode
  dsimp only
  rw [if_neg hm]
  rfl

/-- The mark changes the meter alone. -/
theorem markApportion_parts (s : State) : (markApportion s).slots = s.slots ∧ (markApportion s).cells = s.cells ∧
    (markApportion s).link = s.link ∧ (markApportion s).arbiter = s.arbiter ∧ (markApportion s).outer = s.outer := by
  unfold markApportion
  split <;> exact ⟨rfl, rfl, rfl, rfl, rfl⟩

theorem ties_cargo_of_link {s t : State} (h : t.link = s.link) : t.ties.cargo = s.ties.cargo := by
  have he : t.engine = s.engine := funext fun e => by
    cases e
    · exact congrArg Link.engA h
    · exact congrArg Link.engB h
  unfold State.ties
  rw [he]

theorem enterMode_keepsOrders {m : Mode} (hm : m ≠ .mains) (s : State) (i : Idx) :
    (entryOrders s.supply.mode m (s.entering m)).KeepsSlot i (enterMode m s) := by
  rw [enterMode_eq hm]
  generalize entryOrders s.supply.mode m (s.entering m) = w
  obtain ⟨hslots, -, hlink, -, houter⟩ := markApportion_parts w
  exact ⟨rec?_congr hslots i, ties_cargo_of_link hlink, houter⟩

/-- With no decision to admit and nothing in the exchange queue, an event ends as its work left it. -/
theorem finishEvent_idle {t : State} (hm : t.supply.mode = .mains ∨ t.supply.mode = .depleted) (hq : t.link.queue = [])
    (b : State) : finishEvent b t = clearNotes t := by
  have hd : decided t = t := by
    unfold decided
    rw [decideAdmission_closed t hm, ite_self]
  have hp : ∀ e, pickFor e t = t := fun e => by
    obtain h | ⟨i, -, hi, -⟩ := pickFor_cases e t
    · exact h
    · rw [hq] at hi; cases hi
  obtain he | he := finishEvent_cases b t
  · rw [he, hd]
  · rw [he, hd, pickBoth, hp, hp]

/-! ### DEPLETED (R43) -/

theorem depletedRecord_step (s : State) (i : Idx) : depletedRecord s i = s ∨ depletedRecord s i = standDown .silent i s := by
  obtain ⟨h, -⟩ | ⟨r, -, -, h⟩ := depletedRecord_cases s i
  · exact .inl h
  · exact .inr h

theorem keepsSlot_depletedRecord (s : State) (i j : Idx) (h : i ≠ j) : s.KeepsSlot i (depletedRecord s j) := by
  obtain he | he := depletedRecord_step s j
  · rw [he]; exact .refl i s
  · rw [he]; exact keepsSlot_standDown (by decide) s i j h

theorem depletedRecord_stays {s : State} {i : Idx} {r : Record} (hr : s.rec? i = some r)
    (h : r.port = none ∨ r.st = .faulted) : depletedRecord s i = s := by
  unfold depletedRecord
  rw [hr]
  refine if_neg fun hc => ?_
  rcases h with h | h
  · rw [h] at hc; cases hc.1
  · exact hc.2 h

theorem depletedRecord_stands {s : State} {i : Idx} {r : Record} (hr : s.rec? i = some r) (hp : r.port ≠ none)
    (hf : r.st ≠ .faulted) : depletedRecord s i = standDown .silent i s := by
  unfold depletedRecord
  rw [hr]
  exact if_pos ⟨Option.isSome_iff_ne_none.mpr hp, hf⟩

theorem depletedGiven_enterMode (s b : State) : s.DepletedGiven (finishEvent b (enterMode .depleted s)) := by
  have horders : entryOrders s.supply.mode .depleted (s.entering .depleted) = depletedOrders (s.entering .depleted) := by
    unfold entryOrders
    cases s.supply.mode <;> rfl
  have hS : (s.entering .depleted).ShutDown false (depletedOrders (s.entering .depleted)) :=
    shutDown_records (by decide) depletedRecord_step rfl false
  have hvisit := fun i r (hr : s.rec? i = some r) =>
    records_visit (s := s.entering .depleted) keepsSlot_depletedRecord hr false
  have hu := enterMode_eq (m := .depleted) (by decide) s
  have he : depletedOrders (s.entering .depleted) =
      allIdx.foldl depletedRecord (stripTable false (s.entering .depleted)) := rfl
  rw [horders] at hu
  rw [← he] at hvisit
  generalize depletedOrders (s.entering .depleted) = w at *
  obtain ⟨hslots, hcells, hlink, harb, houter⟩ := markApportion_parts w
  have hm : (enterMode .depleted s).supply.mode = .depleted := by rw [supply_enterMode (by decide)]
  have hend : finishEvent b (enterMode .depleted s) = clearNotes (callDecision (markApportion w)) := by
    rw [finishEvent_idle (.inr hm) (by rw [hu]; exact (congrArg Link.queue hlink).trans hS.queue), hu]
  rw [hend]
  have hrec : ∀ i, (clearNotes (callDecision (markApportion w))).rec? i = w.rec? i := fun i => rec?_congr hslots i
  refine ⟨fun p => ?_, (congrArg Link.engA hlink).trans hS.engA, (congrArg Link.engB hlink).trans hS.engB,
    (congrArg Link.queue hlink).trans hS.queue, harb.trans hS.arbiter, fun i r hr => ?_⟩
  · have hp := hS.cells p
    simp only [clearNotes_cells, callDecision_cells, hcells]
    exact hp
  · obtain ⟨v, q, hq, hstrip, hvo, hw⟩ := hvisit i r hr
    rw [hrec]
    by_cases hout : r.port = none ∨ r.st = .faulted
    · rw [depletedRecord_stays hq (by rw [hstrip.port, hstrip.st]; exact hout)] at hw
      refine ⟨q, hw.slot.trans hq, hstrip.allowance, hstrip.pend, hstrip.admitted, hstrip.tested, fun _ => hstrip.st,
        fun hp hf => absurd hout (not_or.mpr ⟨hp, hf⟩)⟩
    · obtain ⟨hp, hf⟩ := not_or.mp hout
      rw [depletedRecord_stands hq (by rw [hstrip.port]; exact hp) (by rw [hstrip.st]; exact hf)] at hw
      obtain ⟨x, hx, hst, hrun, hrem, hent, hall, hpend, hadm, htest⟩ :=
        standDown_stripped (st := .silent) (i := i) hq hstrip (by decide) fun _ => by decide
      exact ⟨x, hw.slot.trans hx, hall, hpend, hadm, htest, fun h => absurd h hout,
        fun _ _ => ⟨hst, hrun, hrem, hent.trans (by rw [show v.clock = s.clock from congrArg (fun o => o.2.1) hvo])⟩⟩

/-! ### The end of the event -/

section Concluded

variable {w t s : State} {m : Mode} {i : Idx} {r : Record}

/-- What the end of a mode entry's event leaves of the table that its orders made. -/
structure State.Concluded (w t : State) : Prop where
  law : t.service.Law False ∅ ∅
  mode : t.supply.mode = w.supply.mode
  steady : ∀ i r, w.Shows i r → r.st ≠ .waiting → w.Steady i t
  waits : ∀ i r, w.rec? i = some r → r.st = .waiting →
    ∃ q, t.rec? i = some q ∧ q.allowance = r.allowance ∧ (q.st = .waiting ∨ q.st = .fed)

theorem concluded_enterMode (h : s.FeedLaw) (hm : m ≠ .mains) (hne : m ≠ s.supply.mode) (b : State) :
    (entryOrders s.supply.mode m (s.entering m)).Concluded (finishEvent b (enterMode m s)) := by
  have hL : (enterMode m s).service.Law False ∅ ∅ :=
    law_enterMode ((law_iff False s).mpr ⟨h, False.elim⟩) hne False.elim
  have hk := enterMode_keepsOrders hm s
  generalize enterMode m s = u at *
  generalize entryOrders s.supply.mode m (s.entering m) = w at *
  refine ⟨law_finishEvent hL b, ?_, fun i r hs hw => ?_, fun i r hr hw => ?_⟩
  · rw [show (finishEvent b u).supply = u.supply from congrArg Fixed.supply (fixed_finishEvent b u), (hk 0).mode]
  · obtain ⟨y, hy⟩ := (hk i).shows hs
    have haside : i ∉ u.arbiter.queue := fun hq => by
      obtain ⟨-, a, ha, hst⟩ := (hL.queue i).mp hq
      cases ha.symm.trans (seat_of_rec hy)
      exact hw hst
    have hst := steady_finishEvent (t := u) (fun _ => .inl haside) b
    exact ⟨hst.slot.trans (congrArg _ (hk i).slot), fun k n hh => hst.holds k n ((hk i).holds hh)⟩
  · have hu := (hk i).slot.trans hr
    obtain ⟨q, hq, ht⟩ := terms_finishEvent hu b
    exact ⟨q, hq, (congrArg Record.allowance ht :), waiting_finishEvent hu hw b hq⟩

namespace State.Concluded

variable (C : w.Concluded t)
include C

/-- A record that does not wait is shown as the orders left it. -/
theorem shows (hs : w.Shows i r) (hw : r.st ≠ .waiting) : t.Shows i r := by
  obtain ⟨y, hy⟩ := hs
  have hslot := (C.steady i r ⟨y, hy⟩ hw).slot
  rw [hy] at hslot
  obtain ⟨q, hq, he⟩ := Option.map_eq_some_iff.mp hslot
  refine ⟨q.pend, hq.trans (congrArg some ?_)⟩
  have hr : r.unpended = q.unpended := he.symm
  calc q = { q.unpended with pend := q.pend } := rfl
    _ = { r.unpended with pend := q.pend } := by rw [hr]

/-- A record that the orders leave ends in its state, or is admitted if it waits. -/
theorem kept (hr : w.rec? i = some r) :
    ∃ q, t.rec? i = some q ∧ q.allowance = r.allowance ∧ (q.st = r.st ∨ r.st = .waiting ∧ q.st = .fed) ∧
      (r.st ≠ .waiting → q.entered = r.entered) := by
  by_cases hw : r.st = .waiting
  · obtain ⟨q, hq, hall, hst⟩ := C.waits i r hr hw
    exact ⟨q, hq, hall, hst.imp (fun h => h.trans hw.symm) fun h => ⟨hw, h⟩, fun h => absurd hw h⟩
  · obtain ⟨y, hy⟩ := C.shows ⟨r.pend, hr⟩ hw
    exact ⟨_, hy, rfl, .inl rfl, fun _ => rfl⟩

/-- A record that is neither FED nor WAITING holds nothing of the arbiter's. -/
theorem unserved {q : Record} (hq : t.rec? i = some q) (hf : q.st ≠ .fed) (hw : q.st ≠ .waiting) :
    q.admitted = none ∧ i ∉ t.arbiter.queue ∧ i ∉ t.arbiter.feedList := by
  have hseat := seat_of_rec hq
  have hmem : ∀ st, (∃ a, t.service.seats i = some a ∧ a.st = st) → q.st = st := fun st ⟨a, ha, hst⟩ => by
    cases ha.symm.trans hseat
    exact hst
  refine ⟨?_, fun h => hw (hmem _ ((C.law.queue i).mp h).2), fun h => hf (hmem _ ((C.law.feed i).mp h).2)⟩
  cases ha : q.admitted with
  | none => rfl
  | some n => exact absurd ((C.law.admitted i q.seat hseat).mp (by simp [Record.seat, ha])).2 hf

/-- A bound record's cell stands at the level of its state. -/
theorem level {q : Record} {p : Port} (hq : t.rec? i = some q) (hf : q.st ≠ .fed) (hp : q.port = some p) :
    t.cells[p].drive = driveFor t.supply.mode q.st := by
  have h := C.law.level i q.seat p (seat_of_rec hq) (Set.notMem_empty i) hp
  rwa [if_neg (show q.seat.st ≠ .fed from hf)] at h

end State.Concluded

end Concluded

/-! ### Leaving MAINS (R40, R41) -/

section Given

variable {s t w u : State} {i : Idx} {r : Record}

/-- A record that is not FED, WAITING or TESTING is not released by CRITICAL entry. -/
theorem releasedRec_stays (s : State) (h : r.cls = .lifeline ∨ ¬r.st.serving) : releasedRec s r = r := by
  unfold releasedRec
  split
  · rfl
  · next hl =>
    have hs := h.resolve_left hl
    split
    · next hst => exact absurd (.inl hst) hs
    · next hst => exact absurd (.inr (.inl hst)) hs
    · next hst => exact absurd (.inr (.inr hst)) hs
    · rfl

/-- A record in service that is not LIFELINE is released into CARRYING (R41). -/
theorem releasedRec_moves (s : State) (hl : r.cls ≠ .lifeline) (h : r.st.serving) :
    ∃ x, releasedRec s r = enteredRec false .carrying s x ∧ x.allowance = r.allowance ∧
      (r.st = .testing → x.has .tested = true ∧ x.testOutcome = some .abandoned) := by
  unfold releasedRec
  rw [if_neg hl]
  rcases h with hst | hst | hst <;> rw [hst]
  · exact ⟨_, rfl, rfl, nofun⟩
  · exact ⟨_, rfl, rfl, nofun⟩
  · exact ⟨_, rfl, congrArg (fun w => w.2.2) (raise_worth .tested r), fun _ => ⟨has_raise .tested r, rfl⟩⟩

/-- The wave's records behind CRITICAL entry: a LIFELINE record keeps its QUERY, the others hold a REST. -/
theorem criticalOrders_shown (hs : s.Shows i r) (h : ¬r.st.serving) :
    (criticalOrders s).Shows i r ∧ (r.cls = .lifeline → s.HoldsQuery i → (criticalOrders s).HoldsQuery i) ∧
    (r.cls ≠ .lifeline → r.st = .carrying → (criticalOrders s).Holds i .rest 0) := by
  obtain ⟨y, hy⟩ := hs
  obtain ⟨hshow, hkeep, hrest⟩ := criticalOrders_slot hy
  have he := releasedRec_stays s (r := { r with pend := y }) (.inr h)
  rw [he] at hshow hrest
  exact ⟨hshow, fun hl => (hkeep hl).holdsQuery, fun hl hst => hrest hl (.inl hst)⟩

/-- Leaving MAINS for OUTAGE or CRITICAL gives the QUERY wave, and in CRITICAL the REST of the others. -/
theorem waveGiven (C : w.Concluded t) (hclock : u.clock = s.clock) (hrec : ∀ i, u.rec? i = s.rec? i)
    (hidle : ∀ i r, s.rec? i = some r → r.st = .idle)
    (hw : w.supply.mode = .outage ∧ w = queryWave u ∨ w.supply.mode = .critical ∧ w = criticalOrders (queryWave u)) :
    s.WaveGiven t := by
  intro i r hr
  have hur := (hrec i).trans hr
  have hst := hidle i r hr
  obtain ⟨hfree, hbound⟩ := queryWave_slot hur (by rw [hst]; decide)
  by_cases hp : r.port = none
  · have hq : (queryWave u).Shows i r := ⟨r.pend, (hfree hp).slot.trans hur⟩
    have hshow : w.Shows i r := by
      obtain ⟨-, he⟩ | ⟨-, he⟩ := hw <;> rw [he]
      · exact hq
      · exact (criticalOrders_shown hq (by rw [hst]; simp [RState.serving])).1
    obtain ⟨y, hy⟩ := C.shows hshow (by rw [hst]; decide)
    exact ⟨_, hy, rfl, fun _ => hst, fun h => absurd hp h⟩
  · obtain ⟨hq, hquery⟩ := hbound hp
    have hcrit := criticalOrders_shown hq (by simp [enteredRec, RState.serving])
    have hshow : w.Shows i (enteredRec false .carrying u r) := by
      obtain ⟨-, he⟩ | ⟨-, he⟩ := hw <;> rw [he]
      · exact hq
      · exact hcrit.1
    have hsteady := C.steady i _ hshow nofun
    obtain ⟨y, hy⟩ := C.shows hshow nofun
    refine ⟨_, hy, rfl, fun h => absurd h hp, fun _ => ⟨rfl, hclock, fun hm hl => ?_, fun hm => ?_⟩⟩
    · refine hsteady.holds _ _ ?_
      rw [C.mode] at hm
      obtain ⟨ho, -⟩ | ⟨-, he⟩ := hw
      · rw [ho] at hm; cases hm
      · rw [he]; exact hcrit.2.2 hl rfl
    · refine hsteady.holdsQuery ?_
      rw [C.mode] at hm
      obtain ⟨-, he⟩ | ⟨hc, he⟩ := hw
      · rw [he]; exact hquery
      · rw [he]
        refine hcrit.2.1 (hm.resolve_left fun ho => ?_) hquery
        rw [hc] at ho; cases ho

/-! ### OUTAGE and CRITICAL (R41, R42) -/

/-- CRITICAL entry from OUTAGE gives the orders of its two passes. -/
theorem criticalGiven (C : (criticalOrders u).Concluded t) (hclock : u.clock = s.clock)
    (hrec : ∀ i, u.rec? i = s.rec? i) : s.CriticalGiven t := by
  intro i r hr
  obtain ⟨hshow, hkeep, hrest⟩ := criticalOrders_slot ((hrec i).trans hr)
  by_cases hl : r.cls = .lifeline
  · obtain ⟨q, hq, hall, hst, -⟩ := C.kept ((hkeep hl).slot.trans ((hrec i).trans hr))
    exact ⟨q, hq, hall, fun _ => hst, fun hn => absurd hl hn⟩
  · by_cases hserv : r.st.serving
    · obtain ⟨x, hx, hall, htest⟩ := releasedRec_moves u hl hserv
      rw [hx] at hshow hrest
      have hsteady := C.steady i _ hshow nofun
      obtain ⟨y, hy⟩ := C.shows hshow nofun
      obtain ⟨hadm, hqueue, hfeed⟩ := C.unserved hy nofun nofun
      refine ⟨_, hy, hall, fun h => absurd h hl, fun _ => ⟨fun _ => ⟨rfl, hclock, hadm, rfl, hqueue, hfeed,
        hsteady.holds _ _ (hrest hl (.inl rfl))⟩, htest, fun h => ?_, fun h => ?_⟩⟩
      · rcases hserv with hs | hs | hs <;> rw [hs] at h <;> simp at h
      · rcases hserv with hs | hs | hs <;> rw [hs] at h <;> simp at h
    · rw [releasedRec_stays u (.inr hserv)] at hshow hrest
      have hw : r.st ≠ .waiting := fun h => hserv (.inr (.inl h))
      have hsteady := C.steady i _ hshow hw
      obtain ⟨y, hy⟩ := C.shows hshow hw
      exact ⟨_, hy, rfl, fun h => absurd h hl, fun _ => ⟨fun h => absurd h hserv, fun h => absurd (.inr (.inr h)) hserv,
        fun h => ⟨rfl, rfl, hsteady.holds _ _ (hrest hl h)⟩, fun _ => ⟨rfl, rfl⟩⟩⟩

/-! ### Leaving DEPLETED (R44) -/

theorem load_zero_or (c : Countdown) (n : Nat) : (c.load n false).repeats = false ∧ (c.load n false).remaining = n ∧
    ((c.load n false).running = true ↔ 0 < n) := by
  unfold Countdown.load
  split
  · next h => exact ⟨rfl, h.symm, by rw [h]; exact ⟨nofun, nofun⟩⟩
  · next h => exact ⟨rfl, rfl, fun _ => Nat.pos_of_ne_zero h, fun _ => rfl⟩

/-- Leaving DEPLETED gives the orders of R44, record by record. -/
theorem depletedLeft (C : (leaveDepletedOrders u).Concluded t) (hclock : u.clock = s.clock) (hcfg : u.cfg = s.cfg)
    (hrec : ∀ i, u.rec? i = s.rec? i) (hm : (leaveDepletedOrders u).supply.mode = u.supply.mode)
    (hmode : u.supply.mode = .outage ∨ u.supply.mode = .critical) : s.DepletedLeft t := by
  intro i r hr
  have htm : t.supply.mode = u.supply.mode := C.mode.trans hm
  have hnd : u.supply.mode ≠ .depleted := by rcases hmode with h | h <;> rw [h] <;> decide
  obtain ⟨hstays, hwakes, hrests⟩ := leaveDepletedOrders_slot ((hrec i).trans hr)
  by_cases hst : r.st = .silent
  · by_cases hw : u.supply.mode = .outage ∨ r.cls = .lifeline
    · obtain ⟨hshow, hholds⟩ := hwakes hst hw
      have hsteady := C.steady i _ hshow nofun
      obtain ⟨y, hy⟩ := C.shows hshow nofun
      refine ⟨_, hy, rfl, fun _ => ⟨fun p hp => C.level hy nofun hp, fun _ => ⟨rfl, hclock, rfl, hsteady.holds _ _ hholds⟩,
        fun hc hl => ?_⟩, fun h => absurd hst h⟩
      rw [htm] at hc
      rcases hw with h | h
      · rw [h] at hc; cases hc
      · exact absurd h hl
    · obtain ⟨hshow, hholds⟩ := hrests hst hw
      have hqst : (reloadedRec u r).st = .silent := hst
      have hsteady := C.steady i _ hshow (by rw [hqst]; decide)
      obtain ⟨y, hy⟩ := C.shows hshow (by rw [hqst]; decide)
      have hload : (reloadedRec u r).cd = r.cd.load ((s.cfg.policy r.cls).wakePeriod * 10) false := by
        rw [← hcfg]
        show r.cd.load (if u.supply.mode = .depleted then 0 else _) false = _
        rw [if_neg hnd]
      obtain ⟨hrep, hrem, hrun⟩ := load_zero_or r.cd ((s.cfg.policy r.cls).wakePeriod * 10)
      rw [← hload] at hrep hrem hrun
      refine ⟨_, hy, rfl, fun _ => ⟨fun p hp => ?_, fun hc => ?_, fun _ _ => ⟨hst, rfl, hsteady.holds _ _ hholds, hrep, hrem,
        hrun.trans (by omega)⟩⟩, fun h => absurd hst h⟩
      · rw [C.level hy (show r.st ≠ .fed by rw [hst]; decide) hp, htm, show Record.st _ = .silent from hqst]
        exact if_neg hnd
      · rw [htm] at hc
        exact absurd hc hw
  · obtain ⟨q, hq, hall, hqst, -⟩ := C.kept ((hstays hst).slot.trans ((hrec i).trans hr))
    exact ⟨q, hq, hall, fun h => absurd h hst, fun _ hw => hqst.resolve_right fun h => hw h.1⟩

/-! ### Every entry other than into MAINS -/

/-- What an entry into another mode than MAINS gives, at the end of its event (R38 to R44). -/
theorem ordersGiven_enterMode {m : Mode} (h : s.FeedLaw) (hm : m ≠ .mains) (hne : m ≠ s.supply.mode) (b : State) :
    s.OrdersGiven (finishEvent b (enterMode m s)) := by
  obtain ⟨hdev, hmark, -, -⟩ := enterMode_raises hm s
  have C := concluded_enterMode h hm hne b
  have hwm : (entryOrders s.supply.mode m (s.entering m)).supply.mode = m :=
    congrArg (fun f : Fixed => f.supply.mode) (fixed_entryOrders s.supply.mode hm (s.entering m))
  have htm := C.mode.trans hwm
  have hframe := frame_finishEvent b (enterMode m s)
  refine ⟨?_, ?_, fun hd => ?_, fun ho => ⟨fun hs => ?_, fun hs => ?_⟩, fun hs hc => ?_, fun hs ho => ?_⟩
  · rw [show (finishEvent b (enterMode m s)).dev = _ from congrArg Frame.dev hframe]
    exact hdev
  · rw [show (finishEvent b (enterMode m s)).meter = _ from congrArg Frame.meter hframe]
    exact hmark
  · rw [htm] at hd
    subst hd
    exact depletedGiven_enterMode s b
  · rw [htm] at ho
    rw [hs] at C hwm
    have hidle : ∀ i r, s.rec? i = some r → r.st = .idle := fun i r hr => by
      obtain ⟨-, -, -, -, -, -, hidle, -⟩ := h
      have := hidle i r hr
      rwa [if_pos hs] at this
    refine waveGiven (u := s.entering m) C rfl (fun _ => rfl) hidle ?_
    rcases ho with rfl | rfl
    · exact .inl ⟨hwm, rfl⟩
    · exact .inr ⟨hwm, rfl⟩
  · rw [htm] at ho
    have hw : entryOrders s.supply.mode m (s.entering m) = leaveDepletedOrders (s.entering m) := by
      rw [hs]
      rcases ho with rfl | rfl <;> rfl
    rw [hw] at C hwm
    exact depletedLeft (u := s.entering m) C rfl rfl (fun _ => rfl) hwm ho
  · rw [htm] at hc
    subst hc
    rw [hs] at C
    exact criticalGiven (u := s.entering .critical) C rfl fun _ => rfl
  · rw [htm] at ho
    subst ho
    rw [hs] at C
    intro i r hr
    obtain ⟨q, hq, -, hst, -⟩ := C.kept (i := i) (r := r) hr
    exact ⟨q, hq, hst⟩

end Given

end Sys2Proof.Machine
end

section
/-! MAINS entry (R45), and the supply controller's events (R30, R31, R35, R36). -/

namespace Sys2Proof.Machine

open Sys2Proof

/-! ### MAINS (R45) -/

/-- What MAINS entry makes of the part (R45). -/
structure State.MainsGiven (s t : State) : Prop where
  supply : t.supply = s.supply.entered .mains
  mode : t.dev.mode = true
  meter : t.meter = s.meter
  arbiter : t.arbiter = ⟨[], []⟩
  queue : t.link.queue = []
  engA : t.link.engA = none
  engB : t.link.engB = none
  schedule : t.schedule = s.schedule
  cells : ∀ p : Port, t.cells[p].drive = .off ∧ t.cells[p].faultCount = 0
  records : ∀ i r, s.rec? i = some r → ∃ u, t.rec? i = some u ∧ u.st = .idle ∧ u.cd.running = false ∧
    u.admitted = none ∧ u.pend = none ∧ u.allowance = r.allowance ∧
    (r.st = .testing → u.has .tested = true ∧ u.testOutcome = some .abandoned)

/-- The part with the undervoltage latch and its run cleared (R32, R45). -/
def State.unlatched (s : State) : State := { s with supply := { s.supply with latch := false, uvRun := 0 } }

theorem mainsOrders_eq (s : State) : mainsOrders s = (allIdx.foldl mainsRecord (stripTable true s)).unlatched := by
  unfold mainsOrders stripTable State.unlatched
  dsimp only

theorem enterMode_mains (s : State) : enterMode .mains s =
    callDecision (allIdx.foldl mainsRecord (stripTable true (s.entering .mains))).unlatched := by
  have horders : ∀ before u, entryOrders before .mains u = mainsOrders u := fun before u => by
    unfold entryOrders
    cases before <;> rfl
  unfold enterMode
  dsimp only
  rw [horders, if_pos rfl, mainsOrders_eq]
  rfl

theorem supply_of_fixed {t : State} {f : Fixed} (h : t.fixed = f) : t.supply = f.supply := congrArg Fixed.supply h

theorem mainsGiven_enterMode (s b : State) : s.MainsGiven (finishEvent b (enterMode .mains s)) := by
  have hS : (s.entering .mains).ShutDown true (allIdx.foldl mainsRecord (stripTable true (s.entering .mains))) :=
    shutDown_records (by decide) (fun _ _ => .inr rfl) rfl true
  have hvisit := fun i r (hr : s.rec? i = some r) =>
    records_visit (s := s.entering .mains) (keepsSlot_standDown (st := .idle) (by decide)) hr true
  have hsupply : (enterMode .mains s).supply = s.supply.entered .mains := supply_of_fixed (fixed_enterMode .mains s)
  have hu := enterMode_mains s
  change ∀ i r, s.rec? i = some r → ∃ v q, v.rec? i = some q ∧ r.Stripped q ∧ v.outer = (s.entering .mains).outer ∧
    (standDown .idle i v).KeepsSlot i (allIdx.foldl mainsRecord (stripTable true (s.entering .mains))) at hvisit
  generalize allIdx.foldl mainsRecord (stripTable true (s.entering .mains)) = w at *
  generalize enterMode .mains s = v at *
  subst hu
  have hend := finishEvent_idle (t := callDecision w.unlatched) (.inl (by rw [hsupply]; rfl)) hS.queue b
  rw [hend]
  have houter : w.schedule = s.schedule := congrArg (fun o => o.2.2.1) hS.outer
  refine ⟨hsupply, congrArg DevFlags.mode hS.dev, hS.meter, hS.arbiter, hS.queue, hS.engA, hS.engB, houter,
    fun p => hS.cells p, fun i r hr => ?_⟩
  obtain ⟨x, q, hq, hstrip, -, hw⟩ := hvisit i r hr
  obtain ⟨y, hy, hst, hrun, -, -, hall, hpend, hadm, htest⟩ :=
    standDown_stripped (st := .idle) (i := i) hq hstrip (by decide) fun _ => by decide
  exact ⟨y, hw.slot.trans hy, hst, hrun, hadm, hpend, hall, htest⟩

/-! ### The events of the supply controller -/

/-- The state in which the work of a due event begins. -/
def State.atEvent (ev : Event) (s : State) : State := dropDue ev (clearNotes s)

theorem feedLaw_of_service {s t : State} (h : t.service = s.service) (hs : s.FeedLaw) : t.FeedLaw := by
  have := (law_iff False s).mpr ⟨hs, False.elim⟩
  rw [← h] at this
  exact ((law_iff False t).mp this).1

section Events

variable {s : State}

/-- A supply controller's event that is due, taken by its row. -/
theorem live_takeEvent {ev : Event} {f : State → State} (hr : s.inReset = false) (hd : s.isDue ev = true)
    (hf : eventWork ev s = event (fun t => f (dropDue ev t)) s) :
    live (takeEvent ev) s = finishEvent s (f (s.atEvent ev)) := by
  rw [live_free _ _ hr, takeEvent_due _ _ hd, hf]
  rfl

theorem atEvent_notDue {ev e : Event} (h : s.isDue e = false) : (s.atEvent ev).isDue e = false := by
  rw [State.atEvent, isDue_dropDue]
  exact Bool.and_eq_false_imp.mpr fun hd => absurd (h.symm.trans hd) Bool.false_ne_true

theorem setLatch_notDue (h : s.isDue .latch = false) : setLatch s = s := by
  unfold setLatch
  rw [h]
  rfl

/-- The part with the undervoltage latch set (R35). -/
def State.latched (s : State) : State := { s with supply := { s.supply with latch := true } }

/-- The work of the latch, with no debounce completed (R35, R36). -/
theorem latchWork_evaluates (hf : s.isDue .failDebounce = false) (hr : s.isDue .returnDebounce = false) :
    latchWork s = evaluateTick s.latched := by
  have hf' : s.latched.isDue .failDebounce = false := hf
  have hr' : s.latched.isDue .returnDebounce = false := hr
  unfold latchWork
  change (if s.latched.isDue .failDebounce || s.latched.isDue .returnDebounce then s.latched else evaluateTick s.latched) = _
  rw [hf', hr']
  rfl

/-- A latched evaluation selects DEPLETED (R36). -/
theorem selectMode_latched (q h k : Nat) : selectMode q h k true = .depleted := if_pos (.inr rfl)

/-- With the latch set, an evaluation enters DEPLETED from OUTAGE and CRITICAL where Q is set, and otherwise leaves the part
(R36). -/
theorem evaluateTick_latched (hl : s.supply.latch = true) :
    (evaluateTick s = s ∧ (s.supply.mode = .outage ∨ s.supply.mode = .critical → s.supply.q = none)) ∨
    ((s.supply.mode = .outage ∨ s.supply.mode = .critical) ∧ evaluateTick s = enterMode .depleted s) := by
  by_cases hm : s.supply.mode = .outage ∨ s.supply.mode = .critical
  · cases hq : s.supply.q with
    | none =>
      refine .inl ⟨?_, fun _ => rfl⟩
      obtain he | ⟨q, hsome, -⟩ := evaluateTick_cases s
      · exact he
      · rw [hq] at hsome; cases hsome
    | some q =>
      have hne : Mode.depleted ≠ s.supply.mode := by rcases hm with h | h <;> rw [h] <;> decide
      refine .inr ⟨hm, ?_⟩
      rw [evaluateTick_selects hm hq, hl, selectMode_latched, if_neg hne]
  · refine .inl ⟨evaluateTick_stays ?_, fun h => absurd h hm⟩
    cases h : s.supply.mode <;> simp [h] at hm ⊢

end Events

theorem supply_finishEvent (b t : State) : (finishEvent b t).supply = t.supply :=
  supply_of_fixed (fixed_finishEvent b t)

/-- The latch sets its bit, and sends OUTAGE and CRITICAL to DEPLETED (R35, R36, R43). -/
theorem latchEvent {s : State} (hr : s.inReset = false) (hd : s.isDue .latch = true)
    (hfail : s.isDue .failDebounce = false) (hret : s.isDue .returnDebounce = false) :
    ∃ t, exec .undervoltageLatch s = .next t ∧ t.supply.latch = true ∧ t.supply.q = s.supply.q ∧
      (s.supply.mode = .mains ∨ s.supply.mode = .depleted → t.supply = { s.supply with latch := true }) ∧
      (s.supply.mode = .outage ∨ s.supply.mode = .critical → s.supply.q ≠ none →
        t.supply.mode = .depleted ∧ (s.FeedLaw → s.OrdersGiven t)) := by
  refine ⟨_, congrArg Host.Outcome.next (live_takeEvent (f := latchWork) hr hd rfl), ?_⟩
  rw [latchWork_evaluates (atEvent_notDue hfail) (atEvent_notDue hret), supply_finishEvent]
  have hsup : (s.atEvent .latch).latched.supply = { s.supply with latch := true } := rfl
  have hlaw : s.FeedLaw → (s.atEvent .latch).latched.FeedLaw := feedLaw_of_service rfl
  have hgiven : ∀ t, (s.atEvent .latch).latched.OrdersGiven t → s.OrdersGiven t := fun _ => id
  generalize (s.atEvent .latch).latched = u at *
  have hmode : u.supply.mode = s.supply.mode := by rw [hsup]
  obtain ⟨he, hnone⟩ | ⟨hm, he⟩ := evaluateTick_latched (s := u) (by rw [hsup])
  · rw [he]
    refine ⟨by rw [hsup], by rw [hsup], fun _ => hsup, fun hm hq => absurd ?_ hq⟩
    rw [hmode] at hnone
    exact (by rw [hsup] : s.supply.q = u.supply.q).trans (hnone hm)
  · rw [he, supply_enterMode (by decide)]
    have hne : Mode.depleted ≠ u.supply.mode := by rcases hm with h | h <;> rw [h] <;> decide
    refine ⟨by rw [hsup], by rw [hsup], fun h => ?_, fun _ _ => ⟨rfl, fun h =>
      hgiven _ (ordersGiven_enterMode (hlaw h) (by decide) hne s)⟩⟩
    rw [hmode] at hm
    rcases hm with hm | hm <;> rw [hm] at h <;> simp at h

/-- The mains-fail debounce enters the selected mode, or holds the outage while Q is unset (R30, R36). -/
theorem failEvent {s : State} (hr : s.inReset = false) (hd : s.isDue .failDebounce = true)
    (hlatch : s.isDue .latch = false) (hm : s.supply.mode = .mains) :
    (s.supply.q = none → ∃ t, exec .mainsFailDebounce s = .next t ∧ t.slots = s.slots ∧ t.cells = s.cells ∧
      t.supply = { s.supply with held := true } ∧ t.dev = { s.dev with outagePending := true }) ∧
    ∀ q, s.supply.q = some q → ∃ t, exec .mainsFailDebounce s = .next t ∧
      t.supply = { s.supply with
        mode := selectMode q s.cfg.holdBack s.cfg.cutoff s.supply.latch
        failCount := 0, returnCount := 0, held := false } ∧ (s.FeedLaw → s.OrdersGiven t) := by
  have hex : exec .mainsFailDebounce s = .next (finishEvent s (failWork (s.atEvent .failDebounce))) :=
    congrArg Host.Outcome.next (live_takeEvent (f := failWork) hr hd rfl)
  have hwork : failWork (s.atEvent .failDebounce) = match s.supply.q with
      | some _ => enterSelected (s.atEvent .failDebounce)
      | none => { s.atEvent .failDebounce with
          supply := { s.supply with held := true }, dev := { s.dev with outagePending := true } } := by
    unfold failWork
    rw [setLatch_notDue (atEvent_notDue hlatch)]
    exact if_pos hm
  refine ⟨fun hq => ⟨_, hex, ?_⟩, fun q hq => ⟨_, hex, ?_⟩⟩
  · rw [hwork, hq]
    dsimp only
    rw [finishEvent_none s _ rfl rfl fun i => ?_]
    · exact ⟨rfl, rfl, rfl, rfl⟩
    · have hdue : ∀ ev : Event, ev ≠ .failDebounce → (s.atEvent .failDebounce).isDue ev = s.isDue ev :=
        fun ev hev => isDue_dropDue_other hev (clearNotes s)
      have hexp := hdue (.expiry i) nofun
      have happ := hdue .appointments nofun
      unfold State.held
      rw [← hexp, ← happ]
      rfl
  · have hne : selectMode q s.cfg.holdBack s.cfg.cutoff s.supply.latch ≠ s.supply.mode := by
      rw [hm]; exact selectMode_ne_mains _ _ _ _
    have hsel : enterSelected (s.atEvent .failDebounce) =
        enterMode (selectMode q s.cfg.holdBack s.cfg.cutoff s.supply.latch) (s.atEvent .failDebounce) := by
      have hq' : (s.atEvent .failDebounce).supply.q = some q := hq
      unfold enterSelected
      rw [hq']
      exact if_neg hne
    rw [hwork, hq]
    dsimp only
    rw [hsel, supply_finishEvent, supply_enterMode (selectMode_ne_mains _ _ _ _)]
    exact ⟨rfl, fun h => ordersGiven_enterMode (s := s.atEvent .failDebounce) (feedLaw_of_service rfl h)
      (selectMode_ne_mains _ _ _ _) hne s⟩

/-- The mains-return debounce enters MAINS (R31, R45). -/
theorem returnEvent {s : State} (hr : s.inReset = false) (hd : s.isDue .returnDebounce = true)
    (hlatch : s.isDue .latch = false) (hm : s.supply.mode ≠ .mains) :
    ∃ t, exec .mainsReturnDebounce s = .next t ∧ s.MainsGiven t := by
  refine ⟨_, congrArg Host.Outcome.next (live_takeEvent (f := returnWork) hr hd rfl), ?_⟩
  have hwork : returnWork (s.atEvent .returnDebounce) = enterMode .mains (s.atEvent .returnDebounce) := by
    unfold returnWork
    rw [setLatch_notDue (atEvent_notDue hlatch)]
    exact if_neg hm
  rw [hwork]
  obtain ⟨h1, h2, h3, h4, h5, h6, h7, h8, h9, h10⟩ := mainsGiven_enterMode (s.atEvent .returnDebounce) s
  exact ⟨h1, h2, h3, h4, h5, h6, h7, h8, h9, h10⟩

/-- Settles O54: each event's work is a mode entry, whose orders stand at the end of the event, or leaves the mode. -/
theorem supplyEvents : Obligations.SupplyEvents := by
  unfold Obligations.SupplyEvents
  intro s hr
  refine ⟨latchEvent hr, failEvent hr, fun hd hlatch hm => ?_⟩
  obtain ⟨t, hex, h⟩ := returnEvent hr hd hlatch hm
  exact ⟨t, hex, h.supply, h.mode, h.meter, h.arbiter, h.queue, h.engA, h.engB, h.schedule, h.cells, h.records⟩

/-! ### RESERVE (R32, R37) -/

theorem evaluateReserve_eq (s : State) : evaluateReserve s =
    if s.supply.mode = .mains ∧ s.supply.held = false then s else enterSelected s := by
  unfold evaluateReserve
  cases s.supply.mode <;> cases s.supply.held <;> rfl

/-- The part with Q set by the host, and the latch and its run cleared (R32). -/
def State.reserved (q : Nat) (s : State) : State :=
  { s with supply := { s.supply with q := some q, latch := false, uvRun := 0 } }

/-- A RESERVE stays in the mode, or enters another than MAINS by its orders (R37). -/
theorem reserveWork_cases (q : Nat) (s : State) {after : Mode}
    (ha : after = if s.supply.mode = .mains ∧ s.supply.held = false then .mains
      else selectMode q s.cfg.holdBack s.cfg.cutoff false) :
    (after = s.supply.mode → reserveWork q s = s.reserved q) ∧
    (after ≠ s.supply.mode → after ≠ .mains ∧ reserveWork q s = enterMode after (s.reserved q)) := by
  have hw : reserveWork q s = if s.supply.mode = .mains ∧ s.supply.held = false then s.reserved q
      else enterSelected (s.reserved q) := evaluateReserve_eq (s.reserved q)
  have hs : enterSelected (s.reserved q) = if selectMode q s.cfg.holdBack s.cfg.cutoff false = s.supply.mode
      then s.reserved q else enterMode (selectMode q s.cfg.holdBack s.cfg.cutoff false) (s.reserved q) := rfl
  rw [hw, hs, ha]
  by_cases hh : s.supply.mode = .mains ∧ s.supply.held = false
  · simp only [if_pos hh]
    exact ⟨fun _ => trivial, fun hn => absurd hh.1.symm hn⟩
  · simp only [if_neg hh]
    exact ⟨fun he => if_pos he, fun hn => ⟨selectMode_ne_mains _ _ _ _, if_neg hn⟩⟩

/-- An entry into another mode than MAINS leaves the clock, the settings, the host port and the schedule. -/
theorem outer_entryOrders (before : Mode) {after : Mode} (h : after ≠ .mains) (s : State) :
    (entryOrders before after s).outer = s.outer := by
  have hwave : ∀ s : State, (queryWave s).outer = s.outer := fun s => outer_foldl _ (fun t i => by
    unfold waveRecord
    split
    · exact (outer_ask ..).trans (outer_enter ..)
    · rfl) _ s
  have hcritical : ∀ s : State, (criticalOrders s).outer = s.outer := fun s => by
    unfold criticalOrders
    dsimp only
    rw [outer_foldl criticalRest, outer_foldl criticalRelease]
    · intro t i
      unfold criticalRelease
      split
      · rfl
      · split <;> simp
    · intro t i
      unfold criticalRest
      split
      · rfl
      · split <;> simp
  have hleave : ∀ s : State, (leaveDepletedOrders s).outer = s.outer := fun s => outer_foldl _ (fun t i => by
    unfold leaveDepletedRecord
    split
    · rfl
    · split
      · split
        · exact (outer_ask ..).trans (outer_enter ..)
        · dsimp only
          split <;> simp [order]
      · rfl) _ s
  have hdepleted : ∀ s : State, (depletedOrders s).outer = s.outer := fun s =>
    (outer_foldl depletedRecord (fun t i => by
      obtain he | he := depletedRecord_step t i
      · rw [he]
      · rw [he]; exact (outer_setCountdown ..).trans (outer_enter ..)) _ _).trans (outer_stripTable false s)
  cases after with
  | mains => exact absurd rfl h
  | depleted => cases before <;> exact hdepleted s
  | outage =>
    cases before with
    | mains => exact hwave s
    | depleted => exact hleave s
    | outage => rfl
    | critical => rfl
  | critical =>
    cases before with
    | mains => exact (hcritical _).trans (hwave s)
    | depleted => exact hleave s
    | outage => exact hcritical s
    | critical => exact hcritical s

theorem parts_of_outer {s t : State} (h : t.outer = s.outer) :
    t.clock = s.clock ∧ t.schedule = s.schedule ∧ t.cfg = s.cfg ∧ t.host = s.host := by
  simp only [State.outer, Prod.mk.injEq] at h
  obtain ⟨-, hclock, hschedule, hcfg, hhost, -⟩ := h
  exact ⟨hclock, hschedule, hcfg, hhost⟩

theorem outer_enterMode {m : Mode} (hm : m ≠ .mains) (s : State) : (enterMode m s).outer = (s.entering m).outer :=
  (enterMode_keepsOrders hm s 0).outer.trans (outer_entryOrders _ hm _)

/-- An accepted request whose reply is read off the state behind its event. -/
theorem exec_answers {c : Instr} {s t : State} {fr : Framing} {n : Nat} {owner : State → Answer} {f : State → Reply}
    (hc : requestOf c = some (fr, n, owner)) (h : s.Quiet) (hf : fr.fits n = true)
    (ho : owner s.taken = ⟨t, some f⟩) (hh : t.host = s.taken.host) :
    ∃ b, b.agenda.due = [] ∧ exec c s = .next (s.served b t (f (finishEvent b t))) := by
  refine ⟨takeRequest (shiftOut s.statusBits s), congrArg Agenda.due h.2.1, ?_⟩
  have hq : owner (clearNotes (takeRequest (shiftOut s.statusBits s))) = ⟨t, some f⟩ := by
    rw [quiet_taken h]; exact ho
  have hho : (finishEvent (takeRequest (shiftOut s.statusBits s)) t).host = s.taken.host :=
    (congrArg Fixed.host (fixed_finishEvent _ t)).trans hh
  rw [exec_request hc, request_fits h hf]
  unfold runOwner State.served
  rw [hq]
  refine congrArg Host.Outcome.next ?_
  dsimp only
  generalize finishEvent (takeRequest (shiftOut s.statusBits s)) t = u at hho
  unfold completeRequest
  rw [hho]
  rfl

/-- An event that calls for nothing, with nothing due, ends as its work left it. -/
theorem finishEvent_quiet {b t : State} (hb : b.agenda.due = []) (ht : t.agenda = ⟨[], false, false⟩) :
    finishEvent b t = t := by
  rw [finishEvent_none b t (by rw [ht]) (by rw [ht]) fun i => by rw [held_quiet b hb, held_quiet t (by rw [ht])]]
  cases t
  simp_all [clearNotes]

/-- Settles O31: with the latch cleared the evaluation selects by Q alone, and its entry gives the orders of its mode. -/
theorem reserve : Obligations.Reserve := by
  unfold Obligations.Reserve
  intro fr v s h hf selected after
  have hsel : selected = selectMode v.toNat s.cfg.holdBack s.cfg.cutoff false := by
    simp only [selected, selectMode, Bool.false_eq_true, or_false]
  have hafter : after = if s.taken.supply.mode = .mains ∧ s.taken.supply.held = false then .mains
      else selectMode v.toNat s.taken.cfg.holdBack s.taken.cfg.cutoff false := by
    rw [show selectMode v.toNat s.taken.cfg.holdBack s.taken.cfg.cutoff false = selected from hsel.symm]
    rfl
  clear_value after
  obtain ⟨hstay, henter⟩ := reserveWork_cases v.toNat s.taken hafter
  have hmode : s.taken.supply.mode = s.supply.mode := rfl
  rw [hmode] at hstay henter
  refine ⟨fun he => ?_, fun hne => ?_⟩
  · have hw := hstay he
    obtain ⟨b, hb, hex⟩ := exec_answers (c := .reserve fr v) (owner := reserveOwner v.toNat) rfl h hf rfl (by rw [hw]; rfl)
    have hend : finishEvent b (s.taken.reserved v.toNat) = s.taken.reserved v.toNat := finishEvent_quiet hb h.2.1
    rw [hw, State.served, hend] at hex
    rw [hex, he]
    rfl
  · obtain ⟨hm, hw⟩ := henter hne
    have houter := outer_enterMode hm (s.taken.reserved v.toNat)
    have hsupply := supply_enterMode hm (s.taken.reserved v.toNat)
    have hhost := (parts_of_outer houter).2.2.2
    have ho : reserveOwner v.toNat s.taken =
        ⟨enterMode after (s.taken.reserved v.toNat), some fun t => ⟨.done, [t.supply.mode.byte]⟩⟩ := by
      rw [reserveOwner, hw]
    have hlaw : s.FeedLaw → (s.taken.reserved v.toNat).FeedLaw := feedLaw_of_service rfl
    have hgiven := fun b hs => ordersGiven_enterMode (hlaw hs) hm hne b
    obtain ⟨hdev, hmark, -, -⟩ := enterMode_raises hm (s.taken.reserved v.toNat)
    generalize enterMode after (s.taken.reserved v.toNat) = w at *
    obtain ⟨b, -, hex⟩ := exec_answers (c := .reserve fr v) (owner := reserveOwner v.toNat) rfl h hf ho hhost
    have hfin := (outer_finishEvent b w).trans houter
    have hframe := frame_finishEvent b w
    have hgiven := hgiven b
    have hsup := (supply_finishEvent b w).trans hsupply
    rw [hsup] at hex
    unfold State.served at hex
    generalize finishEvent b w = u at *
    obtain ⟨hclock, hschedule, hcfg, -⟩ := parts_of_outer hfin
    exact ⟨_, hex, hsup, (congrArg (fun f => f.dev.mode) hframe).trans hdev,
      fun hc => hmark ((congrArg (fun f => f.meter.mark) hframe).symm.trans hc), rfl, hclock, hcfg, hschedule, hgiven⟩

end Sys2Proof.Machine
end

section
/-! The ranges of R46 as a law that every operation keeps: the levels, the counts of a sample, the works of the cells,
the exchanges, the meter, REPORTs, expiries and appointments. -/

namespace Sys2Proof.Machine

open Sys2Proof

/-! ### The operations of one cell -/

/-- The presence count of a sample (R57). -/
def Cell.readBy (x : Option Reading) (c : Cell) : Cell :=
  match x with
  | some x => presenceStep x c
  | none => c

/-- The counts of a sample by the drive level: the call detector, the RAMP count, the FEED counts (R46). -/
def Cell.countedIn (d : Drive) (engaged : Bool) (n v : Nat) (c : Cell) : Cell :=
  match d with
  | .off => c
  | .sense => callStep engaged v c
  | .ramp => { c with rampCount := c.rampCount - 1 }
  | .feed => { overStep n v c with feedRun := min 600 (c.feedRun + 1) }

/-- The counts of a sample are those of its reading, and then those of its level (R46). -/
theorem sampledCell_eq (d : Drive) (x : Option Reading) (engaged : Bool) (n v : Nat) (c : Cell) :
    sampledCell d x engaged n v c = (c.readBy x).countedIn d engaged n v := by
  cases d <;> cases x <;> rfl

namespace Cell.InRange

variable {c : Cell}

theorem toOff (h : c.InRange) : c.toOff.InRange := by
  obtain ⟨-, -, hf, -⟩ := h
  simp [Cell.InRange, Cell.toOff, hf]

/-- A level under the bias is not armed (R47). -/
theorem toSense (h : c.InRange) : c.toSense.InRange := by
  obtain ⟨h1, h2, h3, h4, h5, -, htrip, hpres⟩ := h
  unfold Cell.toSense
  split
  · next hd => simp_all [Cell.InRange, Cell.clearCall]
  · simp [Cell.InRange, Cell.clearCall, h2, h3, hpres]

theorem toRamp (h : c.InRange) (n : Nat) : (c.toRamp n).InRange := by
  obtain ⟨-, h2, h3, h4, h5, -, -, hpres⟩ := h
  simp [Cell.InRange, Cell.toRamp, Cell.clearCall, h2, h3, h4, h5, hpres]

theorem toFeed (h : c.InRange) (n : Nat) : (c.toFeed n).InRange := by
  obtain ⟨-, h2, h3, -, -, h6, -, hpres⟩ := h
  simp [Cell.InRange, Cell.toFeed, h2, h3, h6, hpres]

/-- A change of level arms the trip level exactly in RAMP and FEED (R47, R49). -/
theorem toLevel (h : c.InRange) (n : Nat) (l : Drive) : (c.toLevel n l).InRange := by
  unfold Cell.toLevel
  split
  · exact h
  · cases l with
    | off => exact h.toOff
    | sense => exact h.toSense
    | ramp =>
      dsimp only
      split
      · exact h.toRamp n
      · exact h.toSense.toRamp n
    | feed => exact h.toFeed n

theorem clearCall (h : c.InRange) : c.clearCall.InRange := by
  obtain ⟨h1, h2, h3, h4, h5, -, htrip, hpres⟩ := h
  exact ⟨h1, h2, h3, h4, h5, Nat.zero_le _, htrip, hpres⟩

theorem withFaults (h : c.InRange) {n : Nat} (hn : n ≤ 4) : ({ c with faultCount := n } : Cell).InRange := by
  obtain ⟨h1, h2, -, h4, h5, h6, htrip, hpres⟩ := h
  exact ⟨h1, h2, hn, h4, h5, h6, htrip, hpres⟩

theorem withScan (h : c.InRange) (n : Nat) : ({ c with lastScan := n } : Cell).InRange := h

theorem abandon (h : c.InRange) : c.abandon.InRange := (h.toLevel 0 .off).withFaults (by decide)

/-- A settled presence is known, and stamped (R57). -/
theorem settled (h : c.InRange) (x : Reading) (now : Stamp) :
    ({ c with presence := x.settled, stamp := some now, cand := none, presRun := 0 } : Cell).InRange := by
  obtain ⟨h1, -, h3, h4, h5, h6, htrip, -⟩ := h
  exact ⟨h1, Nat.zero_le _, h3, h4, h5, h6, htrip, by cases x <;> simp [Reading.settled]⟩

theorem presenceStep (h : c.InRange) (x : Reading) : (presenceStep x c).InRange := by
  have run : ∀ (y : Option Reading) (n : Nat), n ≤ 3 → ({ c with cand := y, presRun := n } : Cell).InRange :=
      fun y n hn => by
    obtain ⟨h1, -, h3, h4, h5, h6, htrip, hpres⟩ := h
    exact ⟨h1, hn, h3, h4, h5, h6, htrip, hpres⟩
  unfold Machine.presenceStep
  split
  · exact run _ _ (by decide)
  · split
    · exact run c.cand _ (Nat.min_le_left ..)
    · exact run _ _ (by decide)

theorem callStep (h : c.InRange) (engaged : Bool) (v : Nat) : (callStep engaged v c).InRange := by
  have call : ∀ (b : Option Nat) (n : Nat) (x : Bool), n ≤ 2 →
      ({ c with callBase := b, callRun := n, callHeld := x } : Cell).InRange := fun b n x hn => by
    obtain ⟨h1, h2, h3, h4, h5, -, htrip, hpres⟩ := h
    exact ⟨h1, h2, h3, h4, h5, hn, htrip, hpres⟩
  have hrun : c.callRun ≤ 2 := by
    obtain ⟨-, -, -, -, -, hrun, -⟩ := h
    exact hrun
  unfold Machine.callStep
  split
  · exact h.clearCall
  · split
    · exact call _ _ c.callHeld hrun
    · split
      · split
        · exact h
        · split
          · exact call c.callBase _ _ (by decide)
          · exact call c.callBase _ c.callHeld (by decide)
      · exact call _ _ _ (by decide)

/-- The counts of a sample in FEED (R54, R63). -/
theorem fed (h : c.InRange) (n v : Nat) :
    ({ overStep n v c with feedRun := min 600 (c.feedRun + 1) } : Cell).InRange := by
  have runs : ∀ m k : Nat, m ≤ 600 → k ≤ 3 → ({ c with overRun := k, feedRun := m } : Cell).InRange :=
      fun m k hm hk => by
    obtain ⟨h1, h2, h3, -, -, h6, htrip, hpres⟩ := h
    exact ⟨h1, h2, h3, hm, hk, h6, htrip, hpres⟩
  unfold overStep
  split
  · exact runs _ _ (Nat.min_le_left ..) (Nat.min_le_left ..)
  · exact runs _ _ (Nat.min_le_left ..) (Nat.zero_le _)

theorem ramped (h : c.InRange) : ({ c with rampCount := c.rampCount - 1 } : Cell).InRange := by
  obtain ⟨h1, h⟩ := h
  exact ⟨(Nat.sub_le ..).trans h1, h⟩

theorem readBy (h : c.InRange) (x : Option Reading) : (c.readBy x).InRange := by
  cases x with
  | none => exact h
  | some x => exact h.presenceStep x

theorem countedIn (h : c.InRange) (d : Drive) (engaged : Bool) (n v : Nat) : (c.countedIn d engaged n v).InRange := by
  cases d with
  | off => exact h
  | sense => exact h.callStep engaged v
  | ramp => exact h.ramped
  | feed => exact h.fed n v

theorem sampledCell (h : c.InRange) (d : Drive) (x : Option Reading) (engaged : Bool) (n v : Nat) :
    (sampledCell d x engaged n v c).InRange := by
  rw [sampledCell_eq]
  exact (h.readBy x).countedIn d engaged n v

theorem cleared (c : Cell) : c.cleared.InRange := cell_reset_inRange.withScan c.lastScan

end Cell.InRange

/-! ### What leaves the cells alone -/

@[simp] theorem cells_updRec (i : Idx) (f : Record → Record) (s : State) : (updRec i f s).cells = s.cells := by
  unfold updRec; split <;> rfl

@[simp] theorem cells_raiseFlag (i : Idx) (f : RecFlag) (s : State) : (raiseFlag i f s).cells = s.cells :=
  cells_updRec ..
@[simp] theorem cells_setTested (i : Idx) (o : TestOutcome) (s : State) : (setTested i o s).cells = s.cells :=
  cells_updRec ..
@[simp] theorem cells_setCountdown (i : Idx) (f : Countdown → Countdown) (s : State) :
    (setCountdown i f s).cells = s.cells := cells_updRec ..
@[simp] theorem cells_dropPending (i : Idx) (s : State) : (dropPending i s).cells = s.cells := cells_updRec ..
@[simp] theorem cells_releaseFeed (i : Idx) (s : State) : (releaseFeed i s).cells = s.cells := cells_updRec ..
@[simp] theorem cells_seenNow (i : Idx) (s : State) : (seenNow i s).cells = s.cells := cells_updRec ..

@[simp] theorem cells_leaveService (i : Idx) (s : State) : (leaveService i s).cells = s.cells := by
  unfold leaveService; split <;> simp

@[simp] theorem cells_abandonTest (i : Idx) (s : State) : (abandonTest i s).cells = s.cells := by
  unfold abandonTest; split <;> simp

@[simp] theorem cells_noteSent (i : Idx) (x : Exchange) (o : ExOutcome) (s : State) :
    (noteSent i x o s).cells = s.cells := by
  unfold noteSent; split <;> simp

@[simp] theorem cells_sendPart (e : Engine) (s : State) : (sendPart e s).cells = s.cells := by
  obtain h | ⟨g, n, -, -, -, h⟩ := sendPart_cases e s
  · rw [h]
  · rw [h]; exact setEngine_cells ..

@[simp] theorem cells_sendPartOn (p : Port) (s : State) : (sendPartOn p s).cells = s.cells := by
  unfold sendPartOn; split <;> simp

@[simp] theorem cells_cutLine (e : Engine) (s : State) : (cutLine e s).cells = s.cells := by
  unfold cutLine
  dsimp only
  split
  · split <;> simp
  · simp

@[simp] theorem cells_takeBaseline (e : Engine) (s : State) : (takeBaseline e s).cells = s.cells := by
  unfold takeBaseline
  split
  · exact setEngine_cells ..
  · rfl

@[simp] theorem cells_failAttempt (e : Engine) (o : ExOutcome) (s : State) : (failAttempt e o s).cells = s.cells := by
  unfold failAttempt
  split
  · split <;> simp
  · rfl

@[simp] theorem cells_linkAtLevelChange (p : Port) (l : Drive) (s : State) :
    (linkAtLevelChange p l s).cells = s.cells := by
  unfold linkAtLevelChange
  split
  · rfl
  · split
    · rfl
    · dsimp only; split <;> simp

theorem cells_enterSlot (b : Bool) (st : RState) (i : Idx) (r : Record) (s : State) :
    (enterSlot b st i r s).cells = s.cells := by
  unfold enterSlot
  dsimp only
  split
  · exact cells_dropPending ..
  · rfl

theorem cells_foldl {α : Type} {f : State → α → State} (hf : ∀ s a, (f s a).cells = s.cells) (l : List α) (s : State) :
    (l.foldl f s).cells = s.cells :=
  List.foldlRecOn (motive := fun t => t.cells = s.cells) l f rfl fun t ht a _ => (hf t a).trans ht

/-! ### The operations of the state -/

namespace State.CellsInRange

variable {s t : State}

theorem congr (h : s.CellsInRange) (ht : t.cells = s.cells) : t.CellsInRange := fun p => by
  simp only [ht]
  exact h p

theorem updRec (h : s.CellsInRange) {i : Idx} {f : Record → Record} : (Machine.updRec i f s).CellsInRange :=
  h.congr (cells_updRec ..)

theorem withMeter (h : s.CellsInRange) {m : Meter} : ({ s with meter := m } : State).CellsInRange := h.congr rfl

theorem updCell (h : s.CellsInRange) (p : Port) {f : Cell → Cell} (hf : ∀ c : Cell, c.InRange → (f c).InRange) :
    (Machine.updCell p f s).CellsInRange := fun q => by
  rw [cells_updCell]
  split
  · exact hf _ (h p)
  · exact h q

theorem orderLevel (h : s.CellsInRange) {p : Port} {n : Nat} {l : Drive} :
    (Machine.orderLevel p n l s).CellsInRange := by
  unfold Machine.orderLevel
  split
  · exact h
  · exact ((h.congr (cells_sendPartOn ..)).updCell p fun c hc => hc.toLevel n l).congr (cells_linkAtLevelChange ..)

theorem restartCall (h : s.CellsInRange) {p : Option Port} : (Machine.restartCall p s).CellsInRange := by
  cases p with
  | none => exact h
  | some p => exact h.updCell p fun c hc => hc.clearCall

theorem freeEngine (h : s.CellsInRange) {e : Engine} : (Machine.freeEngine e s).CellsInRange := by
  unfold Machine.freeEngine
  split
  · exact h
  · next g _ =>
    have hd : (dropDue (.complete e) (setEngine e none s)).CellsInRange := h.congr (setEngine_cells ..)
    exact (hd.restartCall (p := g.port)).congr rfl

theorem ask (h : s.CellsInRange) {i : Idx} {x : Exchange} : (Machine.ask i x s).CellsInRange := h.congr (cells_ask ..)

theorem abortEngine (h : s.CellsInRange) {o : ExOutcome} {e : Engine} : (Machine.abortEngine o e s).CellsInRange := by
  unfold Machine.abortEngine
  split
  · exact h
  · exact (h.congr (cells_cutLine ..)).freeEngine.congr (cells_noteSent ..)

theorem abortInFlight (h : s.CellsInRange) {o : ExOutcome} {i : Idx} : (Machine.abortInFlight o i s).CellsInRange := by
  unfold Machine.abortInFlight
  split
  · exact h
  · exact h.abortEngine

theorem engage (h : s.CellsInRange) {e : Engine} {i : Idx} : (Machine.engage e i s).CellsInRange := by
  obtain he | ⟨r, x, -, -, he⟩ := engage_cases e i s
  · rw [he]; exact h
  · rw [he]
    have hd := (h.congr (cells_dropPending i s)).restartCall (p := r.port)
    exact hd.congr ((cells_takeBaseline ..).trans (setEngine_cells ..))

theorem pickFor (h : s.CellsInRange) {e : Engine} : (Machine.pickFor e s).CellsInRange := by
  obtain he | ⟨i, -, -, he⟩ := pickFor_cases e s
  · rw [he]; exact h
  · rw [he]; exact h.engage

theorem pickBoth (h : s.CellsInRange) : (Machine.pickBoth s).CellsInRange := h.pickFor.pickFor

theorem enterState (h : s.CellsInRange) {b : Bool} {st : RState} {i : Idx} :
    (Machine.enterState b st i s).CellsInRange := by
  obtain he | ⟨r, -, -, he⟩ := enterState_steps b st i s
  · rw [he]; exact h
  · rw [he]
    have hs := h.congr (cells_enterSlot b st i r s)
    cases r.port with
    | none => exact hs
    | some p => exact hs.orderLevel

theorem enter (h : s.CellsInRange) {st : RState} {i : Idx} : (Machine.enter st i s).CellsInRange := h.enterState

theorem admitMember (h : s.CellsInRange) {i : Idx} : (Machine.admitMember i s).CellsInRange := by
  have he := (h.congr (cells_admitSlot i s)).enter (st := .fed) (i := i)
  obtain ⟨-, hm⟩ | ⟨r, -, hm | ⟨x, -, hm⟩⟩ := admitMember_cases i s
  · rw [hm]; exact h
  · rw [hm]; exact he
  · rw [hm]; exact he.ask

theorem decideAdmission (h : s.CellsInRange) : (Machine.decideAdmission s).CellsInRange :=
  decide_keeps (fun _ _ _ ht => ht.admitMember) h

theorem finishEvent (h : t.CellsInRange) (s : State) : (Machine.finishEvent s t).CellsInRange := by
  have hd : (decided t).CellsInRange := by
    unfold decided
    split
    · exact h.decideAdmission
    · exact h
  obtain he | he := finishEvent_cases s t
  · rw [he]; exact hd
  · rw [he]; exact hd.pickBoth

theorem event (h : s.CellsInRange) {f : State → State} (hf : ∀ t : State, t.CellsInRange → (f t).CellsInRange) :
    (Machine.event f s).CellsInRange := (hf (clearNotes s) (h.congr rfl)).finishEvent s

/-! ### Lapses, grants, tests -/

theorem leaveService (h : s.CellsInRange) {i : Idx} : (Machine.leaveService i s).CellsInRange :=
  h.congr (cells_leaveService ..)

theorem leaveLapsed (h : s.CellsInRange) {i : Idx} : (Machine.leaveLapsed i s).CellsInRange := by
  unfold Machine.leaveLapsed
  split
  · exact h
  · split
    · split
      · exact h.enter
      · split
        · exact h.enter
        · exact h.enter
      · exact h
      · exact h
    · exact h

theorem grantTo (h : s.CellsInRange) {i : Idx} {n : Nat} : (Machine.grantTo i n s).CellsInRange := by
  cases hr : s.rec? i with
  | none => simpa [Machine.grantTo, hr] using h
  | some r =>
    rw [grantTo_record i n s r hr]
    exact h.withMeter.updRec.leaveLapsed

theorem topUp (h : s.CellsInRange) {i : Idx} : (Machine.topUp i s).CellsInRange := by
  unfold Machine.topUp
  split
  · exact h
  · dsimp only
    split
    · exact h
    · split
      · exact h
      · exact h.grantTo

theorem lapse (h : s.CellsInRange) {i : Idx} : (Machine.lapse i s).CellsInRange :=
  ((h.leaveService.enter).congr (cells_raiseFlag ..)).topUp

theorem wantFeed (h : s.CellsInRange) {i : Idx} : (Machine.wantFeed i s).CellsInRange := by
  unfold Machine.wantFeed
  split
  · exact h
  · split
    · exact h.enter
    · exact h.lapse

theorem enterTest (h : s.CellsInRange) {i : Idx} : (Machine.enterTest i s).CellsInRange :=
  (h.leaveService.enter).ask

theorem abandonForCall (h : s.CellsInRange) {i : Idx} : (Machine.abandonForCall i s).CellsInRange := by
  have ht := h.congr (cells_setTested i .abandoned s)
  unfold Machine.abandonForCall
  dsimp only
  split
  · split
    · exact (ht.congr (cells_dropPending ..)).wantFeed
    · exact ht.wantFeed
  · exact ht.wantFeed

/-! ### Samples and trips -/

theorem sampled (h : s.CellsInRange) {p : Port} : (s.sampled p).InRange := by
  unfold State.sampled
  split
  · exact h p
  · exact (h p).sampledCell ..

theorem presenceLoss (h : s.CellsInRange) {i : Idx} : (Machine.presenceLoss i s).CellsInRange := by
  have hr := h.congr (cells_raiseFlag i .presence s)
  have hl : (presenceLoss.lost i (raiseFlag i .presence s)).CellsInRange :=
    ((hr.abortInFlight.congr (cells_dropPending ..)).leaveService.congr (cells_abandonTest ..)).enter
  unfold Machine.presenceLoss
  dsimp only
  split
  · exact hl
  · exact hl
  · exact hl
  · exact hl
  · exact hl
  · exact hl
  · exact hr

theorem presenceGain (h : s.CellsInRange) {i : Idx} : (Machine.presenceGain i s).CellsInRange := by
  have hs := h.congr ((cells_seenNow i _).trans (cells_raiseFlag i .presence s))
  unfold Machine.presenceGain
  dsimp only
  split
  · exact (hs.ask).enter
  · exact hs

theorem settleEffect (h : s.CellsInRange) {b : Presence} {x : Reading} {i : Idx} :
    (Machine.settleEffect b x i s).CellsInRange := by
  unfold Machine.settleEffect
  split
  · exact h.presenceLoss
  · exact h.presenceLoss
  · exact h.presenceGain
  · exact h.congr (cells_seenNow ..)
  · exact h
  · exact h

theorem callEffect (h : s.CellsInRange) {i : Idx} : (Machine.callEffect i s).CellsInRange := by
  have hr := h.congr (cells_raiseFlag i .call s)
  unfold Machine.callEffect
  dsimp only
  split
  · exact (hr.enter).ask
  · exact hr.ask
  · exact hr.ask
  · exact hr.ask
  · exact (hr.enter).ask
  · split
    · exact hr.abandonForCall
    · exact hr
  · exact hr

theorem cellWork (h : s.CellsInRange) {p : Port} {w : CellWork} : (Machine.cellWork p w s).CellsInRange := by
  cases w with
  | settle =>
    simp only [Machine.cellWork, settleWork]
    split
    · exact h
    · next x _ =>
      split
      · have hu := h.updCell p fun c hc => hc.settled x s.clock
        split
        · exact hu.settleEffect
        · exact hu
      · exact h
  | call =>
    simp only [Machine.cellWork, callWork]
    split
    · exact h
    · exact h.callEffect
  | overCeiling =>
    simp only [Machine.cellWork, overWork]
    split
    · split
      · exact h
      · split
        · exact h
        · split
          · exact h
          · exact h.ask
    · exact h
  | rampEnd =>
    simp only [Machine.cellWork, rampWork]
    split
    · split
      · exact h.orderLevel
      · exact h
    · exact h
  | feedRun =>
    simp only [Machine.cellWork, feedRunWork]
    split
    · exact h.updCell p fun c hc => hc.withFaults (by decide)
    · exact h

theorem sampleWork (h : s.CellsInRange) {p : Port} : (Machine.sampleWork p s).CellsInRange :=
  foldl_keeps (fun _ _ ht => ht.cellWork) _ (h.updCell p fun _ _ => h.sampled)

theorem tripWork (h : s.CellsInRange) {p : Port} {n : Nat} : (Machine.tripWork p n s).CellsInRange := by
  have hf : ∀ t : State, t.CellsInRange →
      (Machine.updCell p (fun c => { c with faultCount := min 4 (c.faultCount + 1) }) t).CellsInRange := fun t ht =>
    ht.updCell p fun c hc => hc.withFaults (Nat.min_le_left ..)
  have ho := (h.congr (cells_sendPartOn p s)).updCell p fun c hc => hc.toOff
  unfold Machine.tripWork
  split
  · cases s.boundAt p with
    | none => exact hf _ ho
    | some i =>
      have hr := ho.congr ((cells_raiseFlag i .trip _).trans (cells_releaseFeed i _))
      have ha := hf _ (hr.abortInFlight (o := .line) (i := i))
      dsimp only
      split
      · exact (ha.enter).congr (cells_raiseFlag ..)
      · exact (ha.enterState)
  · exact h

/-! ### The meter -/

theorem debitPass (h : s.CellsInRange) (sc : Scan) : (Machine.debitPass sc s).CellsInRange := by
  refine foldl_keeps (fun t p ht => ?_) allPorts h
  unfold debitPort
  split
  · exact ht
  · split
    · dsimp only
      split
      · exact ht.updRec.lapse
      · exact ht.updRec
    · exact ht

theorem apportionWork (h : s.CellsInRange) : (Machine.apportionWork s).CellsInRange := by
  have hl : (allIdx.foldl (fun t i => Machine.updRec i (fun r => { r with allowance := s.shareFor i }) t)
      s).CellsInRange :=
    foldl_keeps (Q := State.CellsInRange) (fun _ _ ht => ht.updRec) allIdx h
  have ha : (assignShares s).CellsInRange := hl.withMeter
  refine foldl_keeps (fun t i ht => ?_) _ ha
  unfold consequence
  split
  · exact ht
  · split
    · split
      · exact ht.lapse
      · exact ht
    · split
      · exact ht.lapse
      · exact ht
    · exact ht.leaveLapsed
    · exact ht

/-! ### REPORTs, expiries and appointments -/

theorem reportCarrying (h : s.CellsInRange) {i : Idx} : (Machine.reportCarrying i s).CellsInRange := by
  unfold Machine.reportCarrying
  split
  · exact h
  · dsimp only
    split
    · exact h.ask
    · split
      · exact h.wantFeed
      · split
        · exact h.wantFeed
        · split
          · exact h.ask
          · exact h

theorem wakeToCarrying (h : s.CellsInRange) {i : Idx} :
    (Machine.wakeToCarrying i s).CellsInRange := h.enter.reportCarrying

theorem reportRule (h : s.CellsInRange) {i : Idx} : (Machine.reportRule i s).CellsInRange := by
  unfold Machine.reportRule
  split
  · exact h.reportCarrying
  · unfold reportFed
    split
    · exact h
    · split
      · exact (h.congr (cells_releaseFeed ..)).enter
      · exact h
  · exact h

theorem testOther (h : s.CellsInRange) {i : Idx} {x : Report} : (Machine.testOther i x s).CellsInRange := by
  unfold Machine.testOther
  split
  · exact h.abandonForCall
  · exact h

theorem gradeTest (h : s.CellsInRange) {i : Idx} {x : Report} {c : TestCtx} :
    (Machine.gradeTest i x c s).CellsInRange := by
  unfold Machine.gradeTest
  split
  · exact h
  · dsimp only
    split
    · exact h.updRec.enter
    · exact h.updRec.wantFeed

theorem testPhaseOk (h : s.CellsInRange) {i : Idx} {x : Report} : (Machine.testPhaseOk i x s).CellsInRange := by
  unfold Machine.testPhaseOk
  split
  · exact h
  · split
    · split
      · exact h.abandonForCall
      · exact h.congr ((cells_setCountdown ..).trans (cells_updRec ..))
    · exact h.testOther
    · split
      · exact h.abandonForCall
      · exact h.gradeTest

theorem linkFail (h : s.CellsInRange) {i : Idx} : (Machine.linkFail i s).CellsInRange := h.congr (cells_raiseFlag ..)

theorem dropUnheard (h : s.CellsInRange) {i : Idx} : (Machine.dropUnheard i s).CellsInRange := by
  unfold Machine.dropUnheard
  split
  · split
    · exact h
    · exact h.congr (cells_dropPending ..)
  · exact h

theorem wakeEffect (h : s.CellsInRange) {i : Idx} {rep : Option Report} :
    (Machine.wakeEffect i rep s).CellsInRange := by
  unfold Machine.wakeEffect
  split
  · exact h.wakeToCarrying
  · exact h.wakeToCarrying
  · exact h.wakeToCarrying
  · exact h.testOther
  · exact h.reportRule
  · exact h.linkFail.enter
  · exact h.linkFail
  · exact h

theorem queryEffect (h : s.CellsInRange) {i : Idx} {o : Origin} {rep : Option Report} :
    (Machine.queryEffect i o rep s).CellsInRange := by
  unfold Machine.queryEffect
  split
  · exact h.wakeToCarrying
  · exact h.wakeToCarrying
  · exact h.wakeToCarrying
  · split
    · exact h.testPhaseOk
    · exact h.testOther
  · exact h
  · exact h
  · exact h.reportRule
  · exact h.linkFail.enter
  · split
    · exact (h.congr (cells_setTested ..)).enter
    · exact h.linkFail
  · exact h.linkFail
  · exact h

theorem restEffect (h : s.CellsInRange) {i : Idx} {rep : Option Report} :
    (Machine.restEffect i rep s).CellsInRange := by
  unfold Machine.restEffect
  split
  · exact h.dropUnheard
  · exact h.dropUnheard
  · exact h
  · exact h
  · exact (h.leaveService.congr (cells_abandonTest ..)).dropUnheard.enter
  · exact h.linkFail
  · exact h

theorem shedEffect (h : s.CellsInRange) {i : Idx} {rep : Option Report} :
    (Machine.shedEffect i rep s).CellsInRange := by
  unfold Machine.shedEffect
  split
  · exact h.testOther
  · exact h
  · exact h.linkFail
  · exact h

theorem kindEffect (h : s.CellsInRange) {i : Idx} {x : Exchange} {rep : Option Report} :
    (Machine.kindEffect i x rep s).CellsInRange := by
  unfold Machine.kindEffect
  split
  · exact h.wakeEffect
  · exact h.queryEffect
  · exact h.restEffect
  · exact h.shedEffect

theorem completeWork (h : s.CellsInRange) {e : Engine} : (Machine.completeWork e s).CellsInRange := by
  unfold Machine.completeWork
  split
  · exact h
  · split
    · exact h
    · dsimp only
      split
      · exact (h.freeEngine.congr (cells_updRec ..)).kindEffect.congr (cells_noteSent ..)
      · exact h.freeEngine.kindEffect.congr (cells_noteSent ..)

theorem expiryEffect (h : s.CellsInRange) {i : Idx} : (Machine.expiryEffect i s).CellsInRange := by
  have hw : (wakePeriodWork i s).CellsInRange := by
    unfold wakePeriodWork
    split
    · exact h.congr (cells_setCountdown ..)
    · exact h.ask.enter
  unfold Machine.expiryEffect
  split
  · exact h.ask
  · exact h.ask
  · exact hw
  · exact hw
  · exact h
  · unfold testWindowWork
    split
    · exact h.updRec.ask
    · exact h
  · exact h

theorem actOn (h : s.CellsInRange) {a : Appointment} : (Machine.actOn a s).CellsInRange := by
  have hmark : (markApportion s).CellsInRange := by
    unfold markApportion
    split
    · exact h
    · exact h
  have act : ∀ {f : State → Idx → State}, (∀ (t : State) i, t.CellsInRange → (f t i).CellsInRange) →
      (if s.supply.mode = .mains ∨ s.supply.mode = .depleted then s else (s.targets a.target).foldl f s).CellsInRange :=
    fun hf => by
      split
      · exact h
      · exact foldl_keeps hf _ h
  unfold Machine.actOn
  split
  · split
    · exact hmark
    · exact h
  · refine act fun t i ht => ?_
    unfold actWake
    split
    · exact ht.ask.enter
    · exact ht
  · refine act fun t i ht => ?_
    unfold actQuery
    split
    · exact ht.ask
    · exact ht
  · refine act fun t i ht => ?_
    unfold actRest
    split
    · exact ht.ask
    · exact ht
  · refine act fun t i ht => ?_
    unfold actTest
    split
    · exact ht.enterTest
    · split
      · exact ht.congr (cells_setTested ..)
      · exact ht

theorem expiryWork (h : s.CellsInRange) : (Machine.expiryWork s).CellsInRange := by
  refine foldl_keeps (fun t a ht => ?_) _ h
  have hs : ({ t with schedule := t.schedule.erase a } : State).CellsInRange := ht.congr rfl
  have ha := hs.actOn (a := a)
  unfold expireOne
  dsimp only
  split
  · exact ha
  · exact ha

end State.CellsInRange

end Sys2Proof.Machine
end

section
/-! Every step keeps the cells in the ranges of R46: the mode entries, the tick, and the owners of the requests. -/

namespace Sys2Proof.Machine

open Sys2Proof

namespace State.CellsInRange

variable {s t : State}

/-! ### The mode entries -/

theorem allCellsOff (h : s.CellsInRange) {z : Bool} : (Machine.allCellsOff z s).CellsInRange :=
  foldl_keeps (fun t p ht => (ht.congr (cells_sendPartOn p t)).updCell p fun c hc => by
    dsimp only
    split
    · exact (hc.toLevel 0 .off).withFaults (by decide)
    · exact hc.toLevel 0 .off) allPorts h

theorem dropAllExchanges (h : s.CellsInRange) : (Machine.dropAllExchanges s).CellsInRange := by
  have ha := (h.abortEngine (o := .aborted) (e := .a)).abortEngine (o := .aborted) (e := .b)
  have hq : ∀ {t : State}, t.CellsInRange → ({ t with link := { t.link with queue := [] } } : State).CellsInRange :=
    fun ht => ht.congr rfl
  exact hq (foldl_keeps (Q := State.CellsInRange) (fun _ _ ht => ht.updRec) allIdx ha)

theorem releaseAll (h : s.CellsInRange) : (Machine.releaseAll s).CellsInRange := by
  have hq : ∀ {t : State}, t.CellsInRange → (callDecision { t with arbiter := ⟨[], []⟩ }).CellsInRange :=
    fun ht => ht.congr rfl
  exact hq (foldl_keeps (Q := State.CellsInRange) (fun _ _ ht => ht.updRec) allIdx h)

theorem abandonAllTests (h : s.CellsInRange) : (Machine.abandonAllTests s).CellsInRange := by
  unfold Machine.abandonAllTests
  exact foldl_keeps (Q := State.CellsInRange) (fun _ _ ht => ht.congr (cells_abandonTest ..)) allIdx h

/-- The table stripped and its cells OFF, as MAINS and DEPLETED entry begin (R43, R45). -/
theorem stripTable (h : s.CellsInRange) {z : Bool} : (Machine.stripTable z s).CellsInRange :=
  h.allCellsOff.dropAllExchanges.releaseAll.abandonAllTests

theorem standDown (h : s.CellsInRange) {st : RState} {i : Idx} : (Machine.standDown st i s).CellsInRange :=
  h.enter.congr (cells_setCountdown ..)

theorem withSupply (h : s.CellsInRange) {c : Supply} : ({ s with supply := c } : State).CellsInRange := h.congr rfl

theorem mainsOrders (h : s.CellsInRange) : (Machine.mainsOrders s).CellsInRange := by
  rw [mainsOrders_eq]
  exact withSupply (foldl_keeps (Q := State.CellsInRange) (f := mainsRecord) (fun _ _ ht => ht.standDown) allIdx
    h.stripTable)

theorem depletedOrders (h : s.CellsInRange) : (Machine.depletedOrders s).CellsInRange := by
  refine foldl_keeps (Q := State.CellsInRange) (f := depletedRecord) (fun t i ht => ?_) allIdx
    (h.stripTable (z := false))
  obtain he | he := depletedRecord_step t i
  · rw [he]; exact ht
  · rw [he]; exact ht.standDown

theorem queryWave (h : s.CellsInRange) : (Machine.queryWave s).CellsInRange := by
  refine foldl_keeps (fun t i ht => ?_) _ h
  unfold waveRecord
  split
  · exact ht.enter.ask
  · exact ht

theorem criticalOrders (h : s.CellsInRange) : (Machine.criticalOrders s).CellsInRange := by
  refine foldl_keeps (fun t i ht => ?_) _ (foldl_keeps (fun t i ht => ?_) _ h)
  · unfold criticalRest
    split
    · exact ht
    · split
      · exact ht.ask
      · exact ht.ask
      · exact ht
  · unfold criticalRelease
    split
    · exact ht
    · split
      · exact (ht.congr (cells_releaseFeed ..)).enter
      · exact (ht.congr (leaveQueue_cells ..)).enter
      · exact (ht.congr (cells_setTested ..)).enter
      · exact ht

theorem leaveDepletedOrders (h : s.CellsInRange) : (Machine.leaveDepletedOrders s).CellsInRange := by
  refine foldl_keeps (fun t i ht => ?_) _ h
  unfold leaveDepletedRecord
  split
  · exact ht
  · split
    · split
      · exact ht.enter.ask
      · dsimp only
        split
        · exact (ht.orderLevel.congr (cells_setCountdown ..)).ask
        · exact (ht.congr (cells_setCountdown ..)).ask
    · exact ht

theorem entryOrders (h : s.CellsInRange) {before after : Mode} : (Machine.entryOrders before after s).CellsInRange := by
  unfold Machine.entryOrders
  split
  · exact h.mainsOrders
  · exact h.depletedOrders
  · exact h.queryWave
  · exact h.queryWave.criticalOrders
  · exact h.leaveDepletedOrders
  · exact h.criticalOrders
  · exact h.leaveDepletedOrders
  · exact h

theorem enterMode (h : s.CellsInRange) {m : Mode} : (Machine.enterMode m s).CellsInRange := by
  have he : (s.entering m).CellsInRange := h.congr rfl
  have ho := he.entryOrders (before := s.supply.mode) (after := m)
  unfold Machine.enterMode
  change (callDecision (if m = .mains then Machine.entryOrders s.supply.mode m (s.entering m) else
    markApportion (Machine.entryOrders s.supply.mode m (s.entering m)))).CellsInRange
  generalize Machine.entryOrders s.supply.mode m (s.entering m) = u at ho
  split
  · exact ho.congr rfl
  · exact ho.congr (markApportion_parts u).2.1

theorem enterSelected (h : s.CellsInRange) : (Machine.enterSelected s).CellsInRange := by
  unfold Machine.enterSelected
  split
  · exact h
  · dsimp only
    split
    · exact h
    · exact h.enterMode

theorem evaluateTick (h : s.CellsInRange) : (Machine.evaluateTick s).CellsInRange := by
  unfold Machine.evaluateTick
  split
  · exact h.enterSelected
  · exact h.enterSelected
  · exact h
  · exact h

theorem setLatch (h : s.CellsInRange) : (Machine.setLatch s).CellsInRange := by
  unfold Machine.setLatch
  split
  · exact h
  · exact h

theorem latchWork (h : s.CellsInRange) : (Machine.latchWork s).CellsInRange := by
  unfold Machine.latchWork
  dsimp only
  split
  · exact h
  · exact h.withSupply.evaluateTick

theorem failWork (h : s.CellsInRange) : (Machine.failWork s).CellsInRange := by
  unfold Machine.failWork
  dsimp only
  split
  · split
    · exact h.setLatch.enterSelected
    · exact h.setLatch
  · exact h.setLatch

theorem returnWork (h : s.CellsInRange) : (Machine.returnWork s).CellsInRange := by
  unfold Machine.returnWork
  dsimp only
  split
  · exact h.setLatch
  · exact h.setLatch.enterMode

theorem reserveWork (h : s.CellsInRange) (q : Nat) : (Machine.reserveWork q s).CellsInRange := by
  unfold Machine.reserveWork evaluateReserve
  split
  · split
    · exact h.withSupply.enterSelected
    · exact h
  · exact h.withSupply.enterSelected
  · exact h.withSupply.enterSelected
  · exact h.withSupply.enterSelected

/-! ### The events -/

theorem closeSupply (h : s.CellsInRange) : (Machine.closeSupply s).CellsInRange := by
  have one : ∀ (ev : Event) {f : State → State}, (∀ t : State, t.CellsInRange → (f t).CellsInRange) →
      ∀ {t : State}, t.CellsInRange → (if t.isDue ev then Machine.event f (dropDue ev t) else t : State).CellsInRange :=
    fun ev f hf t ht => by
      split
      · exact (ht.congr (dropDue_cells ev t)).event hf
      · exact ht
  unfold Machine.closeSupply
  exact one _ (fun _ h => h.returnWork) (one _ (fun _ h => h.failWork) (one _ (fun _ h => h.latchWork) h))

theorem apportionTick (h : s.CellsInRange) : (Machine.apportionTick s).CellsInRange := by
  have ha : (Machine.event Machine.apportionWork s).CellsInRange := h.event fun _ ht => ht.apportionWork
  unfold Machine.apportionTick
  dsimp only
  split
  · exact ha
  · exact ha

/-- Every event keeps the cells in their ranges. -/
theorem eventWork (h : s.CellsInRange) (ev : Event) : (Machine.eventWork ev s).CellsInRange := by
  have one : ∀ {f : State → State}, (∀ t : State, t.CellsInRange → (f t).CellsInRange) →
      (Machine.event (fun t => f (dropDue ev t)) s).CellsInRange := fun hf =>
    h.event fun t ht => hf _ (ht.congr (dropDue_cells ev t))
  cases ev with
  | expiry i => exact one fun _ ht => ht.expiryEffect
  | appointments => exact one fun _ ht => ht.expiryWork
  | sample p => exact one fun _ ht => ht.sampleWork
  | latch => exact one fun _ ht => ht.latchWork
  | failDebounce => exact one fun _ ht => ht.failWork
  | returnDebounce => exact one fun _ ht => ht.returnWork
  | apportion => exact (h.congr (dropDue_cells .apportion s)).closeSupply.apportionTick
  | complete e => exact one fun _ ht => ht.completeWork

/-! ### The tick -/

theorem countDown (h : s.CellsInRange) : (Machine.countDown s).CellsInRange := by
  refine foldl_keeps (Q := State.CellsInRange) (f := countRecord) (fun t i ht => ?_) allIdx h
  unfold countRecord
  split
  · exact ht
  · dsimp only
    split
    · exact ht
    · exact ht

theorem storeScan (h : s.CellsInRange) (sc : Scan) : (Machine.storeScan sc s).CellsInRange := by
  have hs : ({ s with
      meter := { s.meter with lastBus := sc.bus.toNat, lastVolt := sc.volt.toNat }
      tick := ⟨sc.bias, allPorts.filter (s.spaceOn sc), []⟩ } : State).CellsInRange := h.congr rfl
  unfold Machine.storeScan
  exact foldl_keeps (Q := State.CellsInRange) (fun _ p ht => ht.updCell p fun _ hc => hc.withScan _) allPorts hs

theorem supplyTick (h : s.CellsInRange) (sc : Scan) : (Machine.supplyTick sc s).CellsInRange := by
  have hq : ∀ b : Nat, (debitQ b s).cells = s.cells := fun b => by unfold debitQ; split <;> rfl
  have hu : ∀ (v : Nat) (t : State), (uvTick v t).cells = t.cells := fun v t => by
    unfold uvTick
    dsimp only
    split <;> rfl
  have hm : ∀ (b : Bool) (t : State), (mainsTick b t).cells = t.cells := fun b t => by
    unfold mainsTick
    dsimp only
    split
    · split
      · rfl
      · split <;> rfl
    · split
      · split <;> rfl
      · rfl
  have hc := h.congr (((hm sc.mains _).trans (hu sc.volt.toNat _)).trans (hq sc.bus.toNat))
  unfold Machine.supplyTick
  dsimp only
  split
  · exact hc
  · exact hc.evaluateTick

/-- What the events and the pieces of a tick keep. -/
theorem tickClosed : TickClosed State.CellsInRange where
  agenda _ _ _ h := h.congr rfl
  event ev _ _ h := h.eventWork ev
  trip p n _ h := h.event fun _ ht => ht.tripWork
  advance _ h := h.congr rfl
  mark s h := h.congr (by unfold takeUpMark; split <;> rfl)
  scan sc _ h := h.storeScan sc
  count _ h := h.countDown
  facts _ _ h := h.congr rfl
  due _ _ _ h := h.congr rfl
  debit sc _ h := h.event fun _ ht => ht.debitPass sc
  supply sc _ h := h.event fun _ ht => ht.supplyTick sc
  last _ h := h.congr rfl

/-! ### The owners of the requests -/

theorem enterByMode (h : s.CellsInRange) {i : Idx} : (Machine.enterByMode i s).CellsInRange := by
  unfold Machine.enterByMode
  split
  · exact h
  · exact h.enter.ask
  · exact h.enter.ask
  · exact h.enter

theorem createRecord (h : s.CellsInRange) {i : Idx} {v : Identity} {c : Cls} {p : Option Port} :
    (Machine.createRecord i v c p s).CellsInRange := by
  have hr : (setRec i (some (newRecord s v c p)) s).CellsInRange := h.congr (setRec_cells ..)
  unfold Machine.createRecord
  dsimp only
  split
  · exact hr
  · exact hr.enterByMode

theorem withdraw (h : s.CellsInRange) {i : Idx} : (Machine.withdraw i s).CellsInRange :=
  (h.abortInFlight.congr (cells_dropPending ..)).leaveService

theorem abandon (h : s.CellsInRange) {p : Port} : (Machine.updCell p Cell.abandon s).CellsInRange :=
  h.updCell p fun _ hc => hc.abandon

theorem retireWork (h : s.CellsInRange) {i : Idx} : (Machine.retireWork i s).CellsInRange := by
  have hw : (dropAppointments i (Machine.withdraw i s)).CellsInRange := h.withdraw.congr (dropAppointments_cells ..)
  unfold Machine.retireWork
  dsimp only
  split
  · exact hw
  · split
    · exact hw.withMeter.abandon.congr (setRec_cells ..)
    · exact hw.congr (setRec_cells ..)

theorem amendTerms (h : s.CellsInRange) {l : List AmendChange} {i : Idx} : (Machine.amendTerms l i s).CellsInRange := by
  have hceil : ∀ v, (amendCeilingWork v i s).CellsInRange := fun v => by
    unfold amendCeilingWork
    dsimp only
    split
    · exact h.updRec
    · exact h.updRec
  have hcap : ∀ (c : Option Nat) {t : State}, t.CellsInRange → (amendCapWork c i t).CellsInRange := fun c t ht => by
    unfold amendCapWork
    split
    · exact ht
    · split
      · exact ht
      · split
        · dsimp only
          split
          · exact lapse (withMeter (ht.congr (setRec_cells ..)))
          · exact ht
        · exact ht
  have hcls : ∀ (c : Cls) {t : State}, t.CellsInRange → (amendClassWork c i t).CellsInRange := fun c t ht => by
    have hcrit : ∀ {u : State}, u.CellsInRange → (criticalClassChange i u).CellsInRange := fun {u} hu => by
      unfold criticalClassChange
      split
      · exact (hu.congr (cells_releaseFeed ..)).enter.ask
      · exact (hu.congr (leaveQueue_cells ..)).enter.ask
      · exact (hu.congr (cells_setTested ..)).enter.ask
      · exact hu.ask
      · exact hu.ask
      · exact hu
    unfold amendClassWork
    split
    · exact ht
    · split
      · exact ht
      · dsimp only
        split
        · split
          · exact hcrit ht
          · exact hcrit ht
        · split
          · exact ht
          · exact ht
  unfold Machine.amendTerms
  cases ceilingIn l <;> cases capIn l <;> cases (classIn l).bind clsOf
  · exact h
  · exact hcls _ h
  · exact hcap _ h
  · exact hcls _ (hcap _ h)
  · exact hceil _
  · exact hcls _ (hceil _)
  · exact hcap _ (hceil _)
  · exact hcls _ (hcap _ (hceil _))

theorem unbindWork (h : s.CellsInRange) {i : Idx} : (Machine.unbindWork i s).CellsInRange := by
  unfold Machine.unbindWork
  split
  · exact h
  · exact (h.withdraw.updRec.enter.congr (cells_setCountdown ..)).abandon

theorem amendWork (h : s.CellsInRange) {l : List AmendChange} {i : Idx} : (Machine.amendWork l i s).CellsInRange := by
  have hbind : ∀ (p : Port) {t : State}, t.CellsInRange → (bindWork p i t).CellsInRange := fun p t ht => by
    unfold bindWork
    split
    · exact ht
    · exact ht.unbindWork.updRec.enterByMode
  have hb : (amendBinding l i (Machine.amendTerms l i s)).CellsInRange := by
    unfold amendBinding
    dsimp only
    split
    · split
      · exact (hbind _ h.amendTerms).unbindWork
      · exact h.amendTerms.unbindWork
    · split
      · exact hbind _ h.amendTerms
      · exact h.amendTerms
  rw [amendWork_eq]
  split
  · unfold clearFaultWork
    split
    · exact hb
    · exact (hb.updCell _ fun _ hc => hc.withFaults (by decide)).enterByMode
  · exact hb

/-- The records released for a lowered cap go back to SENSE (R94). -/
theorem capReleases (n : Nat) (l : List Idx) (h : s.CellsInRange) : (Machine.capReleases n l s).1.CellsInRange := by
  induction n generalizing l s with
  | zero => exact h
  | succ n ih =>
    unfold Machine.capReleases
    split
    · exact h
    · split
      · exact h
      · exact ih _ (h.congr (cells_releaseFeed ..)).enter

theorem changeBusCap (h : s.CellsInRange) (n : Nat) : (Machine.changeBusCap n s).CellsInRange := by
  have hc : ({ s with cfg := { s.cfg with busCap := n } } : State).CellsInRange := h.congr rfl
  have hr := capReleases s.arbiter.feedList.length [] hc
  have hj : ∀ (l : List Idx) (t : State), (rejoin l t).cells = t.cells := fun l t => by
    induction l with
    | nil => rfl
    | cons i l ih => exact ih
  unfold Machine.changeBusCap
  dsimp only
  split
  · exact hr.congr (hj _ _)
  · exact hr.congr (hj _ _)

/-- CLEAR leaves a cell its reset values, but for the last scan current (R46, R182). -/
theorem clearWork (h : s.CellsInRange) : (Machine.clearWork s).CellsInRange := by
  have hcut : (cutLine .b (cutLine .a s)).CellsInRange := h.congr ((cells_cutLine ..).trans (cells_cutLine ..))
  unfold Machine.clearWork
  dsimp only
  exact foldl_keeps (Q := State.CellsInRange) (f := fun t p => Machine.updCell p Cell.cleared t)
    (fun _ p ht => ht.updCell p fun c _ => Cell.InRange.cleared c) allPorts (hcut.congr rfl)

theorem sendOwner (h : s.CellsInRange) (k : ExKind) (b x : Byte) : (Machine.sendOwner k b x s).after.CellsInRange := by
  unfold Machine.sendOwner
  split
  · exact h
  · split
    · exact h
    · split
      · exact h
      · split
        · unfold sendWork
          dsimp only
          split
          · exact h.enter.ask
          · exact h.ask
        · exact h

/-- Every owner keeps the cells in their ranges. -/
theorem owner (h : s.CellsInRange) {c : Instr} {fr : Framing} {n : Nat} {o : State → Answer}
    (hr : requestOf c = some (fr, n, o)) : (o s).after.CellsInRange := by
  have same : (o s).after = s → (o s).after.CellsInRange := fun he => by rw [he]; exact h
  have amend : ∀ b l, (amendOwner b l s).after.CellsInRange := fun b l => by
    obtain he | ⟨i, he⟩ := after_amendOwner b l s
    · rw [he]; exact h
    · rw [he]; exact h.amendWork
  cases c <;> cases hr
  case enroll v k p =>
    obtain he | ⟨i, d, q, he⟩ := after_enrollOwner v k p s
    · rw [he]; exact h
    · rw [he]; exact h.createRecord
  case find => exact same (after_findOwner ..)
  case amendCeiling => exact amend _ _
  case amendCap => exact amend _ _
  case amendClass => exact amend _ _
  case amendPort => exact amend _ _
  case unbind => exact amend _ _
  case clearFault => exact amend _ _
  case retire b =>
    obtain he | ⟨i, he⟩ := after_retireOwner b s
    · rw [he]; exact h
    · rw [he]; exact h.retireWork
  case grant =>
    obtain he | ⟨i, he⟩ := after_grantOwner _ _ s
    · rw [he]; exact h
    · rw [he]; exact h.grantTo
  case apportion =>
    unfold apportionOwner
    split
    · exact h
    · exact h
  case book =>
    unfold bookOwner
    split
    · exact h
    · split
      · exact h
      · split
        · exact h
        · exact h
  case cancel =>
    unfold cancelOwner
    split
    · exact h
    · split
      · exact h
      · exact h
  case schedule => exact same (after_scheduleOwner ..)
  case sendWake => exact h.sendOwner _ _ _
  case sendQuery => exact h.sendOwner _ _ _
  case sendRest => exact h.sendOwner _ _ _
  case sendShed => exact h.sendOwner _ _ _
  case test b =>
    unfold testOwner
    split
    · exact h
    · split
      · exact h
      · split
        · exact h.enterTest
        · exact h
  case setBusCap v =>
    show (if _ then s else Machine.changeBusCap _ s : State).CellsInRange
    split
    · exact h
    · exact h.changeBusCap _
  case setClassPolicy =>
    unfold policyOwner
    dsimp only
    split
    · exact h
    · exact h
  case get => exact same (after_getOwner ..)
  case reserve q => exact h.reserveWork q.toNat
  case state => exact same (after_stateOwner ..)
  case port => exact same (after_portOwner ..)
  case next =>
    unfold nextOwner
    split
    · exact h
    · split
      · exact h
      · split
        · exact h
        · exact h.updRec
  case clear => exact h.clearWork
  all_goals exact h.congr rfl

theorem stepClosed : StepClosed (fun _ => True) State.CellsInRange :=
  { tickClosed with
    host := fun _ _ h => h.congr rfl
    queue := fun _ _ h => h.congr rfl
    owner := fun _ _ _ _ s _ hr h => finishEvent ((h.congr (clearNotes_cells s)).owner hr) s
    engine := fun _ _ _ _ _ _ _ _ h => h.congr (setEngine_cells ..)
    line := fun _ _ _ h => h.congr (setLine_cells ..)
    reset := fun _ _ _ _ p => by
      rw [show (powerOn _ _).cells[p] = Cell.reset from cells_reset p]
      exact cell_reset_inRange
    tick := fun sc o _ _ h => tickClosed.tickWork sc o h }

end State.CellsInRange

/-- Settles O11: every operation on a cell keeps its ranges (`Cell.InRange.toLevel`, `Cell.InRange.sampledCell`,
`Cell.InRange.settled`), and the rest of a step changes no cell. -/
theorem cellsKept : Obligations.CellsKept := by
  unfold Obligations.CellsKept
  exact fun s t h he => State.CellsInRange.stepClosed.step h he

end Sys2Proof.Machine
end

section
/-! A record that the admission decision passes by, in the queue or out of it, and what a pick leaves in an engine that
takes an exchange. -/

namespace Sys2Proof.Machine

open Sys2Proof

variable {s t : State} {i j : Idx} {p : Port}

/-! ### The decision -/

/-- No decision admits the record: it waits in no queue, or it is cooling (R89, R93). -/
def State.Skips (i : Idx) (s : State) : Prop :=
  i ∉ s.arbiter.queue ∨ ∃ r, s.rec? i = some r ∧ r.st = .waiting ∧ r.cd.running = true

/-- The candidate of a decision is another record. -/
theorem State.Skips.candidate_ne (h : s.Skips i) (hc : s.candidate = some j) : i ≠ j := by
  rintro rfl
  have hmem : i ∈ s.arbiter.queue := List.mem_of_find?_eq_some hc
  have hcool : s.cooling i = false := by simpa using List.find?_some hc
  obtain hn | ⟨r, hr, hst, hrun⟩ := h
  · exact hn hmem
  · simp [State.cooling, hr, hst, hrun] at hcool

/-- A decision admits one candidate behind the other. -/
theorem decided_keeps {Q : State → Prop} (hQ : ∀ s j, s.candidate = some j → Q s → Q (admitMember j s)) (h : Q t) :
    Q (decided t) := by
  have hl : ∀ n s, Q s → Q (decideLoop n s) := fun n => by
    induction n with
    | zero => exact fun _ h => h
    | succ n ih =>
      intro s hs
      unfold decideLoop
      split
      · exact hs
      · next j hj =>
        split
        · exact ih _ (hQ s j hj hs)
        · exact hs
  unfold decided decideAdmission
  split
  · split
    · exact h
    · exact hl _ _ h
  · exact h

/-- What a decision leaves of a record that it passes by, and of its port `p`: its slot and its places, the cargo of the
engines, and the cell. -/
structure State.Bypassed (i : Idx) (p : Port) (s t : State) : Prop where
  slot : t.rec? i = s.rec? i
  cargo : t.ties.cargo = s.ties.cargo
  waits : i ∈ t.arbiter.queue ↔ i ∈ s.arbiter.queue
  fed : i ∈ t.arbiter.feedList ↔ i ∈ s.arbiter.feedList
  cell : t.cells[p] = s.cells[p]

/-- The admission of another record, on another port. -/
theorem bypassed_admitMember (hij : i ≠ j) (hp : s.portOf j ≠ some p) : s.Bypassed i p (admitMember j s) := by
  have hrec := rec?_admitMember_other hij s
  have hcell := cells_admitMember hp
  obtain ⟨-, he⟩ | ⟨q, -, ht⟩ := ties_admitMember j s
  · rw [he]; exact ⟨rfl, rfl, Iff.rfl, Iff.rfl, rfl⟩
  · have hw : (admitMember j s).arbiter = _ := congrArg Ties.arbiter ht
    exact ⟨hrec, (congrArg Ties.cargo ht :), by rw [hw]; simp [hij], by rw [hw]; simp [hij], hcell⟩

/-- A decision passes by a record that is not its candidate, and the cell that no other record is bound to. -/
theorem bypassed_decided (h : t.Skips i) (hp : ∀ j, j ≠ i → t.portOf j ≠ some p) : t.Bypassed i p (decided t) := by
  refine (decided_keeps (Q := fun u => t.Bypassed i p u ∧ u.roster = t.roster) (fun u j hj ⟨hu, hros⟩ => ?_)
    ⟨⟨rfl, rfl, Iff.rfl, Iff.rfl, rfl⟩, rfl⟩).1
  have hskip : u.Skips i := by
    refine h.imp (fun hn hm => hn (hu.waits.mp hm)) fun ⟨r, hr, hst⟩ => ⟨r, hu.slot.trans hr, hst⟩
  have hij := hskip.candidate_ne hj
  have hport : u.portOf j ≠ some p := by
    rw [portOf_eq, hros, ← portOf_eq]
    exact hp j fun he => hij he.symm
  have ha := bypassed_admitMember hij hport
  exact ⟨⟨ha.slot.trans hu.slot, ha.cargo.trans hu.cargo, ha.waits.trans hu.waits, ha.fed.trans hu.fed,
    ha.cell.trans hu.cell⟩, (roster_of_fixed (fixed_of_frame (frame_admitMember j u))).trans hros⟩

/-! ### The pick -/

/-- An engine as it has just taken an exchange (R122). -/
def Engagement.begun (g : Engagement) : Prop := g.attempts = 1 ∧ g.outcome = none

/-- A pick leaves an engine as it was, or with an exchange just taken. -/
theorem pickFor_engine (e f : Engine) (s : State) :
    (pickFor e s).engine f = s.engine f ∨ ∃ g, (pickFor e s).engine f = some g ∧ g.begun := by
  obtain h | ⟨i, -, -, h⟩ := pickFor_cases e s
  · rw [h]; exact .inl rfl
  · obtain hs | ⟨r, x, hr, hx, hs⟩ := engage_cases e i s
    · rw [h, hs]; exact .inl rfl
    · rw [h, hs]
      unfold takeBaseline
      rw [setEngine_engine]
      dsimp only
      have hread : ∀ (n : Nat) (u : State), ({ u with link := { u.link with readings := n } } : State).engine f =
          u.engine f := fun n u => by cases f <;> rfl
      rw [hread]
      by_cases hf : f = e
      · subst hf
        rw [setEngine_engine]
        exact .inr ⟨_, rfl, rfl, rfl⟩
      · rw [setEngine_other hf, setEngine_other hf]
        refine .inl ?_
        have hdrop : (dropPending i s).engine f = s.engine f := by
          unfold dropPending updRec
          dsimp only
          split <;> cases f <;> rfl
        rw [← hdrop]
        cases r.port <;> rfl

theorem pickBoth_engine (f : Engine) (s : State) :
    (pickBoth s).engine f = s.engine f ∨ ∃ g, (pickBoth s).engine f = some g ∧ g.begun := by
  obtain hb | hb := pickFor_engine .b f (pickFor .a s)
  · unfold pickBoth
    rw [hb]
    exact pickFor_engine .a f s
  · exact .inr hb

/-! ### The end of an event -/

/-- Where no decision admits the record, the end of an event keeps its places and its cell but for the call detector. -/
theorem finishEvent_parts (h : t.Skips i) (hp : ∀ j, j ≠ i → t.portOf j ≠ some p) (b : State) :
    (i ∈ (finishEvent b t).arbiter.queue ↔ i ∈ t.arbiter.queue) ∧
      (i ∈ (finishEvent b t).arbiter.feedList ↔ i ∈ t.arbiter.feedList) ∧
      ((finishEvent b t).cells[p]).clearCall = (t.cells[p]).clearCall := by
  have hd := bypassed_decided h hp
  obtain he | he := finishEvent_cases b t
  · rw [he]
    exact ⟨hd.waits, hd.fed, congrArg Cell.clearCall hd.cell⟩
  · have ha : (clearNotes (pickBoth (decided t))).arbiter = (decided t).arbiter := arbiter_pickBoth _
    rw [he, ha]
    exact ⟨hd.waits, hd.fed, (cells_pickBoth p (decided t)).trans (congrArg Cell.clearCall hd.cell)⟩

/-- An event's end passes the slot by, or takes its pending exchange, where no decision admits the record. -/
theorem finishEvent_slot_skipped (h : t.Skips i) (hp : ∀ j, j ≠ i → t.portOf j ≠ some p) (b : State) :
    t.Passed i (finishEvent b t) ∨ ∃ x, t.Took i x (finishEvent b t) := by
  have hd := bypassed_decided h hp
  have hpass : t.Passed i (decided t) := ⟨hd.slot, fun e q x => by rw [hd.cargo]⟩
  obtain he | he := finishEvent_cases b t
  · rw [he]; exact .inl ⟨hpass.slot, hpass.cargo⟩
  · rw [he]
    obtain hk | ⟨x, hk⟩ := pickBoth_slot i (decided t)
    · have hk' := hpass.trans hk
      exact .inl ⟨hk'.slot, hk'.cargo⟩
    · exact .inr ⟨x, hpass.inFlight ▸ hk.free, hd.slot ▸ hk.slot, hk.cargo⟩

/-- A record that no engine carries and no decision admits keeps its pending exchange, or an engine takes it as it ends
the event (R122). -/
theorem finishEvent_pend {r : Record} (h : t.Skips i) (hp : ∀ j, j ≠ i → t.portOf j ≠ some p) (hr : t.rec? i = some r)
    (hfree : t.inFlight i = none) (b : State) :
    ((finishEvent b t).rec? i = some r ∧ (finishEvent b t).inFlight i = none) ∨
      (finishEvent b t).rec? i = some r.unpended ∧ ∃ e g, (finishEvent b t).inFlight i = some e ∧
        (finishEvent b t).engine e = some g ∧ r.pend = some g.ex ∧ g.begun := by
  obtain hk | ⟨x, hk⟩ := finishEvent_slot_skipped h hp b
  · exact .inl ⟨hk.slot.trans hr, hk.inFlight.trans hfree⟩
  · obtain ⟨q, hq, hx, hu⟩ := hk.slot
    cases Option.some.inj (hq.symm.trans hr)
    obtain ⟨e, g, he, hg, hgx⟩ := hk.carried
    refine .inr ⟨hu, e, g, he, hg, hgx ▸ hx, ?_⟩
    have hidx : (finishEvent b t).carries i e = true := List.find?_some he
    have hno : (decided t).carries i e = false := by
      have := (inFlight_none_iff t i).mp hfree e
      rw [carries_eq] at this ⊢
      rwa [(bypassed_decided h hp).cargo]
    have same : (finishEvent b t).engine e = (decided t).engine e → g.begun := fun hs => by
      unfold State.carries at hidx hno
      rw [hs] at hidx
      rw [hidx] at hno
      cases hno
    obtain hf | hf := finishEvent_cases b t
    · exact same (by rw [hf]; cases e <;> rfl)
    · have hc : (finishEvent b t).engine e = (pickBoth (decided t)).engine e := by rw [hf]; cases e <;> rfl
      obtain hs | ⟨g', hg', hb⟩ := pickBoth_engine e (decided t)
      · exact same (hc.trans hs)
      · rw [hc, hg'] at hg
        cases hg
        exact hb

end Sys2Proof.Machine
end

section
/-! A trip (R50 to R53): the feed released and the cell OFF, the fault counted, and the state entered for it. -/

namespace Sys2Proof.Machine

open Sys2Proof

variable {s t : State} {i : Idx} {p : Port} {r : Record}

/-! ### Flags -/

/-- Setting a flag keeps those that are set. -/
theorem has_raise_of_has {f g : RecFlag} (h : r.has f = true) : (r.raise g).has f = true := by
  unfold Record.raise
  split
  · exact h
  · simp only [Record.has] at h ⊢
    simp [h]

theorem raise_eq (f : RecFlag) (r : Record) : ∃ x b, r.raise f = { r with flags := x, rep := b } := by
  unfold Record.raise
  split
  · exact ⟨_, _, rfl⟩
  · exact ⟨_, _, rfl⟩

/-! ### The comparator -/

/-- A current that does not fire the comparator, or a disarmed comparator, is no trip (R50). -/
theorem tripWork_unfired {n : Nat} (h : s.cells[p].fires n = false) : tripWork p n s = s := by
  unfold tripWork
  rw [if_neg (by rw [h]; decide)]

theorem fires_eq_false {c : Cell} {n : Nat} (h : c.drive = .off ∨ c.drive = .sense ∨ c.trip = none ∨
    ∃ level, c.trip = some level ∧ n ≤ level) : c.fires n = false := by
  unfold Cell.fires
  rcases h with h | h | h | ⟨level, h, hn⟩
  · simp [h]
  · simp [h]
  · simp [h]
  · simp [h, Nat.not_lt.mpr hn]

theorem fires_eq_true {c : Cell} {n level : Nat} (hd : c.drive = .ramp ∨ c.drive = .feed) (ht : c.trip = some level)
    (hn : level < n) : c.fires n = true := by
  simp [Cell.fires, hd, ht, hn]

/-! ### The abort of the exchange in flight -/

/-- The exchange in flight ends with the outcome, and one of a request leaves SENT and the last outcome (R125, R131). -/
theorem abortInFlight_sent {e : Engine} {g : Engagement} (hr : s.rec? i = some r) (he : s.inFlight i = some e)
    (hg : s.engine e = some g) (ho : g.ex.origin = .request) (o : ExOutcome) :
    (abortInFlight o i s).rec? i = some (r.sentWith g.ex.kind o) := by
  have hc : s.carries i e = true := List.find?_some he
  have hi : g.idx = i := by simpa [State.carries, hg] using hc
  have hu : (freeEngine e (cutLine e s)).rec? i = some r := by
    rw [rec?_congr ((slots_freeEngine ..).trans (slots_cutLine e s)), hr]
  simp only [abortInFlight, he, abortEngine, hg, noteSent, ho, if_true, hi, rec?_updRec_self, hu, Option.map_some]

theorem meter_abortInFlight (o : ExOutcome) (i : Idx) (s : State) : (abortInFlight o i s).meter = s.meter := by
  unfold abortInFlight
  split
  · rfl
  · exact congrArg (fun x => x.2.1) (gauges_abortEngine ..)

/-! ### The trip as far as the count of its fault -/

/-- The cell OFF, the feed released, TRIP set (R51). -/
def unfeed (p : Port) (i : Idx) (s : State) : State :=
  raiseFlag i .trip (releaseFeed i (updCell p Cell.toOff (sendPartOn p s)))

/-- The part without its feed, the exchange in flight ended LINE (R51). -/
def disconnect (p : Port) (i : Idx) (s : State) : State := abortInFlight .line i (unfeed p i s)

/-- The fault counted (R52). -/
def countFault (p : Port) (s : State) : State := updCell p (fun c => { c with faultCount := min 4 (c.faultCount + 1) }) s

/-- A trip of a bound port's comparator: what it disconnects, its count, and the state that the count gives (R51 to
R53). -/
theorem tripWork_fired {n : Nat} (hf : s.cells[p].fires n = true) (hb : s.boundAt p = some i) :
    tripWork p n s =
      if (countFault p (disconnect p i s)).cells[p].faultCount = 4 then
        raiseFlag i .faulted (enter .faulted i (countFault p (disconnect p i s)))
      else joinTail i (enterState true .waiting i (countFault p (disconnect p i s))) := by
  unfold tripWork
  rw [if_pos hf, hb]
  rfl

/-- What the disconnection of a FED record leaves of it (R51). -/
structure Record.Tripped (r q : Record) : Prop where
  st : q.st = r.st
  port : q.port = r.port
  admitted : q.admitted = none
  trip : q.has .trip = true
  pend : q.pend = r.pend
  allowance : q.allowance = r.allowance

theorem tripped_raise (r : Record) : r.Tripped (Record.raise .trip { r with admitted := none }) := by
  obtain ⟨x, b, he⟩ := raise_eq .trip { r with admitted := none }
  have ht := has_raise .trip { r with admitted := none }
  rw [he] at ht ⊢
  exact ⟨rfl, rfl, rfl, ht, rfl, rfl⟩

theorem Record.Tripped.sentWith {q : Record} (h : r.Tripped q) (k : ExKind) (o : ExOutcome) :
    r.Tripped (q.sentWith k o) := by
  obtain ⟨h1, h2, h3, h4, h5, h6⟩ := h
  obtain ⟨x, b, he⟩ := raise_eq .sent q
  have ht : (q.raise .sent).has .trip = true := has_raise_of_has h4
  unfold Record.sentWith
  rw [he] at ht ⊢
  exact ⟨h1, h2, h3, ht, h5, h6⟩

/-- The record behind its abort: as it was, or with SENT and the last outcome. -/
theorem rec?_abortInFlight_cases (hr : s.rec? i = some r) (o : ExOutcome) :
    (abortInFlight o i s).rec? i = some r ∨ ∃ k, (abortInFlight o i s).rec? i = some (r.sentWith k o) := by
  cases he : s.inFlight i with
  | none => exact .inl (by simpa [abortInFlight, he] using hr)
  | some e =>
    have hc : s.carries i e = true := List.find?_some he
    cases hg : s.engine e with
    | none => simp [State.carries, hg] at hc
    | some g =>
      by_cases ho : g.ex.origin = .request
      · exact .inr ⟨_, abortInFlight_sent hr he hg ho o⟩
      · refine .inl ?_
        simp only [abortInFlight, he, abortEngine, hg, noteSent, if_neg ho]
        rw [rec?_congr ((slots_freeEngine ..).trans (slots_cutLine e s)), hr]

/-- The part disconnected: the record, its cell, the collections, and what the trip leaves of the rest. -/
structure State.Disconnected (p : Port) (i : Idx) (r : Record) (s t : State) : Prop where
  slot : ∃ q, t.rec? i = some q ∧ r.Tripped q ∧
    ∀ e g, s.inFlight i = some e → s.engine e = some g → g.ex.origin = .request →
      q.has .sent = true ∧ q.lastOutcome = some (g.ex.kind, .line)
  cell : (t.cells[p]).clearCall = { (s.cells[p]).toOff with faultCount := min 4 (s.cells[p].faultCount + 1) }
  arbiter : t.arbiter = { s.arbiter with feedList := s.arbiter.feedList.filter (· ≠ i) }
  within : s.Within i {p} t
  meter : t.meter = s.meter
  free : s.OneEngineEach → ∀ e, t.carries i e = false
  roster : t.roster = s.roster

theorem cargo_carries {e : Engine} (h : t.ties.cargo = s.ties.cargo) : t.carries i e = s.carries i e := by
  rw [carries_eq, carries_eq, h]

theorem oneEngineEach_congr (h : t.ties.cargo = s.ties.cargo) (hs : s.OneEngineEach) : t.OneEngineEach := by
  have get : ∀ e g, t.engine e = some g → ∃ k, s.engine e = some k ∧ k.idx = g.idx := fun e g hg => by
    have hc : (s.engine e).map Engagement.cargo = (t.engine e).map Engagement.cargo := (congrFun h e).symm
    rw [hg] at hc
    obtain ⟨k, hk, hkc⟩ := Option.map_eq_some_iff.mp hc
    exact ⟨k, hk, congrArg Prod.fst hkc⟩
  intro a b ha hb
  obtain ⟨k, hk, hka⟩ := get .a a ha
  obtain ⟨l, hl, hlb⟩ := get .b b hb
  rw [← hka, ← hlb]
  exact hs k l hk hl

/-! The feed released: each thing that the disconnection says of the part, before the abort. -/

theorem rec?_unfeed (hr : s.rec? i = some r) :
    (unfeed p i s).rec? i = some (Record.raise .trip { r with admitted := none }) := by
  have hs : (updCell p Cell.toOff (sendPartOn p s)).rec? i = some r := (rec?_congr (slots_sendPartOn p s) i).trans hr
  have hl : (releaseFeed i (updCell p Cell.toOff (sendPartOn p s))).rec? i = some { r with admitted := none } :=
    (rec?_updRec_self i (fun r => { r with admitted := none }) _).trans (congrArg _ hs)
  exact (rec?_updRec_self ..).trans (congrArg _ hl)

theorem cargo_unfeed (p : Port) (i : Idx) (s : State) : (unfeed p i s).ties.cargo = s.ties.cargo := by
  unfold unfeed
  rw [ties_raiseFlag, ties_releaseFeed, ties_updCell, ties_sendPartOn]

theorem cell_unfeed (p : Port) (i : Idx) (s : State) : (unfeed p i s).cells[p] = (s.cells[p]).toOff := by
  have hcells : (unfeed p i s).cells = (updCell p Cell.toOff (sendPartOn p s)).cells :=
    (cells_raiseFlag ..).trans (cells_releaseFeed ..)
  rw [cell_congr hcells, cells_updCell, if_pos rfl, cell_congr (cells_sendPartOn p s)]

theorem arbiter_unfeed (p : Port) (i : Idx) (s : State) :
    (unfeed p i s).arbiter = { s.arbiter with feedList := s.arbiter.feedList.filter (· ≠ i) } := by
  have ht : (unfeed p i s).ties = _ := (ties_raiseFlag ..).trans (ties_releaseFeed ..)
  have hs : (updCell p Cell.toOff (sendPartOn p s)).arbiter = s.arbiter := congrArg Ties.arbiter (ties_sendPartOn p s)
  rw [hs] at ht
  exact congrArg Ties.arbiter ht

theorem meter_unfeed (p : Port) (i : Idx) (s : State) : (unfeed p i s).meter = s.meter := by
  have hr : (raiseFlag i .trip (releaseFeed i (updCell p Cell.toOff (sendPartOn p s)))).meter = _ :=
    congrArg (fun x => x.2.1) (gauges_updRec i (Record.raise .trip) _)
  have hl : (releaseFeed i (updCell p Cell.toOff (sendPartOn p s))).meter = _ :=
    congrArg Frame.meter (frame_releaseFeed ..)
  have hs : (updCell p Cell.toOff (sendPartOn p s)).meter = s.meter := congrArg Frame.meter (frame_sendPartOn p s)
  exact hr.trans (hl.trans hs)

theorem within_unfeed (p : Port) (i : Idx) (s : State) : s.Within i {p} (unfeed p i s) :=
  (((State.Within.of_frame (frame_sendPartOn p s) (congrArg Ties.cargo (ties_sendPartOn p s))).trans
    (.updCell (Set.mem_singleton p) Cell.toOff _)).trans (.releaseFeed _)).trans (.updRec (Record.raise .trip) _)

theorem roster_unfeed (p : Port) (i : Idx) (s : State) : (unfeed p i s).roster = s.roster := by
  refine roster_of_fixed ?_
  unfold unfeed
  rw [fixed_raiseFlag, fixed_releaseFeed, fixed_updCell rfl, fixed_sendPartOn]

/-! The abort behind it. -/

/-- The record disconnected, and the SENT of an exchange of a request. -/
theorem disconnect_slot (hr : s.rec? i = some r) : ∃ q, (disconnect p i s).rec? i = some q ∧ r.Tripped q ∧
    ∀ e g, s.inFlight i = some e → s.engine e = some g → g.ex.origin = .request →
      q.has .sent = true ∧ q.lastOutcome = some (g.ex.kind, .line) := by
  unfold disconnect
  have hrec := rec?_unfeed (p := p) hr
  have hcargo := cargo_unfeed p i s
  generalize unfeed p i s = u at hrec hcargo
  obtain ⟨q, hq, hqr⟩ : ∃ q, (abortInFlight .line i u).rec? i = some q ∧ r.Tripped q := by
    obtain h | ⟨k, h⟩ := rec?_abortInFlight_cases hrec .line
    · exact ⟨_, h, tripped_raise r⟩
    · exact ⟨_, h, (tripped_raise r).sentWith k .line⟩
  refine ⟨q, hq, hqr, fun e g he hg ho => ?_⟩
  have hmap : (u.engine e).map Engagement.cargo = some g.cargo :=
    (congrFun hcargo e).trans (congrArg (Option.map Engagement.cargo) hg)
  obtain ⟨k, hk, hkc⟩ := Option.map_eq_some_iff.mp hmap
  have hex : k.ex = g.ex := congrArg (fun c => c.2.2) hkc
  have hin : u.inFlight i = some e := by
    have hc : u.carries i = s.carries i := funext fun e => cargo_carries hcargo
    unfold State.inFlight
    rw [hc]
    exact he
  have hsent := abortInFlight_sent hrec hin hk (hex ▸ ho) .line
  rw [hq] at hsent
  cases hsent
  exact ⟨has_raise .sent _, by rw [← hex]; rfl⟩

theorem cell_countFault (p : Port) (s : State) : (countFault p s).cells[p] =
    { s.cells[p] with faultCount := min 4 ((s.cells[p]).faultCount + 1) } := by
  unfold countFault
  rw [cells_updCell, if_pos rfl]

theorem disconnect_cell (p : Port) (i : Idx) (s : State) : ((countFault p (disconnect p i s)).cells[p]).clearCall =
    { (s.cells[p]).toOff with faultCount := min 4 (s.cells[p].faultCount + 1) } := by
  have hc : ((disconnect p i s).cells[p]).clearCall = (s.cells[p]).toOff := by
    unfold disconnect
    rw [(abortInFlight_leaves .line i _).1 p, cell_unfeed]
    rfl
  rw [cell_countFault]
  generalize (disconnect p i s).cells[p] = c at hc
  have hf : c.faultCount = s.cells[p].faultCount := (congrArg Cell.faultCount hc :)
  rw [← hf, ← hc]
  rfl

theorem disconnected (hr : s.rec? i = some r) : s.Disconnected p i r (countFault p (disconnect p i s)) where
  slot := disconnect_slot hr
  cell := disconnect_cell p i s
  arbiter := (abortInFlight_leaves .line i (unfeed p i s)).2.2.trans (arbiter_unfeed p i s)
  within := ((within_unfeed p i s).trans (.abortInFlight .line _)).trans (.updCell (Set.mem_singleton p) _ _)
  meter := (meter_abortInFlight .line i _).trans (meter_unfeed p i s)
  free := fun h e => carries_abortInFlight (oneEngineEach_congr (cargo_unfeed p i s) h) .line e
  roster := (roster_of_fixed (fixed_abortInFlight .line i _)).trans (roster_unfeed p i s)

end Sys2Proof.Machine
end

section
/-! A trip, settled (R50 to R53): what the state behind the count of the fault leaves of the part, and the end of the
event. -/

namespace Sys2Proof.Machine

open Sys2Proof

variable {s t : State} {i : Idx} {p : Port} {r : Record}

/-! ### A drive order at its cell -/

theorem cell_orderLevel {l : Drive} (h : (s.cells[p]).drive ≠ l) (n : Nat) :
    (orderLevel p n l s).cells[p] = Cell.toLevel n l (s.cells[p]) := by
  unfold orderLevel
  rw [if_neg h, cell_congr (cells_linkAtLevelChange ..), cells_updCell, if_pos rfl, cell_congr (cells_sendPartOn p s)]

theorem cell_enterState {st : RState} (hr : s.rec? i = some r) (hp : r.port = some p) (hne : r.st ≠ st)
    (h : (s.cells[p]).drive ≠ driveFor s.supply.mode st) (b : Bool) : (enterState b st i s).cells[p] =
      Cell.toLevel (r.admitted.getD 0) (driveFor s.supply.mode st) (s.cells[p]) := by
  have hc : (enterSlot b st i r s).cells[p] = s.cells[p] := cell_congr (cells_enterSlot b st i r s) p
  rw [enterState_new hr hne, hp]
  show (orderLevel p _ _ (enterSlot b st i r s)).cells[p] = _
  rw [cell_orderLevel (by rw [hc]; exact h), hc]

/-- The order of a level that the cell stands at leaves it (R47). -/
theorem cell_enterState_at {st : RState} (hr : s.rec? i = some r) (hp : r.port = some p)
    (h : (s.cells[p]).drive = driveFor s.supply.mode st) (b : Bool) : (enterState b st i s).cells[p] = s.cells[p] := by
  obtain he | ⟨q, hq, -, he⟩ := enterState_steps b st i s
  · rw [he]
  · have hc : (enterSlot b st i q s).cells[p] = s.cells[p] := cell_congr (cells_enterSlot b st i q s) p
    cases Option.some.inj (hq.symm.trans hr)
    rw [he, hp]
    show (orderLevel p _ _ (enterSlot b st i r s)).cells[p] = _
    unfold orderLevel
    rw [hc, if_pos h, hc]

/-! ### The FAULTED entry -/

/-- The record of a FAULTED entry: its pending exchange is dropped (R9, R52). -/
theorem rec?_enter_faulted (hr : s.rec? i = some r) (hne : r.st ≠ .faulted) :
    (enter .faulted i s).rec? i = some (enteredRec false .faulted s r).unpended := by
  unfold enter
  rw [enterState_new hr hne, rec?_congr (slots_orderAt ..)]
  unfold enterSlot
  dsimp only
  rw [if_pos rfl]
  exact rec?_dropPending (rec?_setRec_self i _ s)

/-- A FAULTED entry leaves the collections and what the engines carry. -/
theorem ties_enter_faulted (i : Idx) (s : State) :
    (enter .faulted i s).arbiter = s.arbiter ∧ (enter .faulted i s).ties.cargo = s.ties.cargo := by
  have h : ∀ v : State, (dropPending i v).arbiter = v.arbiter ∧ (dropPending i v).ties.cargo = v.ties.cargo := fun v =>
    ⟨(congrArg Ties.arbiter (ties_dropPending i v) :), (congrArg Ties.cargo (ties_dropPending i v) :)⟩
  unfold enter
  obtain he | ⟨r, -, -, he⟩ := enterState_steps false .faulted i s
  · rw [he]; exact ⟨rfl, rfl⟩
  · rw [he]
    have ho := ties_orderAt r.port (r.admitted.getD 0) (driveFor s.supply.mode .faulted) (enterSlot false .faulted i r s)
    have hd : enterSlot false .faulted i r s =
        dropPending i (dropDue (.expiry i) (setRec i (some (enteredRec false .faulted s r)) s)) := by
      unfold enterSlot
      exact if_pos rfl
    refine ⟨(congrArg Ties.arbiter ho).trans ?_, (congrArg Ties.cargo ho).trans ?_⟩
    · rw [hd]; exact (h _).1
    · rw [hd]; exact (h _).2

/-! ### The work of a trip and its end -/

/-- What a trip's work leaves of the part: the record `q` that no decision admits, its cell but for the call detector, no
place in the feed list, and the rest. -/
structure State.TripLeaves (p : Port) (i : Idx) (q : Record) (c : Cell) (s t : State) : Prop where
  slot : t.rec? i = some q
  skips : t.Skips i
  alone : ∀ j, j ≠ i → t.portOf j ≠ some p
  fed : i ∉ t.arbiter.feedList
  cell : (t.cells[p]).clearCall = c
  within : s.Within i {p} t
  meter : t.meter = s.meter
  free : s.OneEngineEach → t.inFlight i = none

/-- The end of the event keeps that, but for a pending exchange that an engine takes. -/
theorem State.TripLeaves.finish {q : Record} {c : Cell} (h : s.TripLeaves p i q c t) (hport : s.portOf i = some p)
    (b : State) :
    (∃ x, (finishEvent b t).rec? i = some { q with pend := x } ∧
        (q.pend = none → x = none ∧ (finishEvent b t).inFlight i = t.inFlight i)) ∧
      i ∉ (finishEvent b t).arbiter.feedList ∧ ((finishEvent b t).cells[p]).clearCall = c ∧
      s.RestKept i (finishEvent b t) ∧ (finishEvent b t).meter = s.meter := by
  obtain ⟨-, hfeed, hcell⟩ := finishEvent_parts h.skips h.alone b
  have hkept : s.RestKept i t := h.within.restKept fun x hx => .inl (by rwa [Set.mem_singleton_iff.mp hx])
  refine ⟨?_, fun hm => h.fed (hfeed.mp hm), hcell.trans h.cell, restKept_of_frame (frame_finishEvent b t) hkept,
    (meter_finishEvent b t).trans h.meter⟩
  obtain hk | ⟨x, hk⟩ := finishEvent_slot_skipped h.skips h.alone b
  · exact ⟨q.pend, hk.slot.trans h.slot, fun hp => ⟨hp, hk.inFlight⟩⟩
  · obtain ⟨q', hq', hx, hu⟩ := hk.slot
    cases Option.some.inj (hq'.symm.trans h.slot)
    exact ⟨none, hu, fun hp => by rw [hp] at hx; cases hx⟩

/-- A record disconnected is bound to its port alone. -/
theorem State.Disconnected.alone (h : s.Disconnected p i r t) (hu : s.UniquePorts) (hport : s.portOf i = some p)
    (j : Idx) (hj : j ≠ i) : t.portOf j ≠ some p := by
  rw [portOf_eq, h.roster, ← portOf_eq]
  exact fun hjp => hj (hu j i p hjp hport)

theorem State.Disconnected.not_fed (h : s.Disconnected p i r t) : i ∉ t.arbiter.feedList := by
  rw [h.arbiter]
  simp

theorem portOf_congr {u : State} (h : u.roster = t.roster) (j : Idx) : u.portOf j = t.portOf j := by
  rw [portOf_eq, h, ← portOf_eq]

/-- Below the fourth fault the record waits, cooling, with its cell back in SENSE (R52). -/
theorem tripLeaves_waiting {q : Record} (h : s.Disconnected p i r t) (hu : s.UniquePorts) (hport : s.portOf i = some p)
    (hq : t.rec? i = some q) (hst : q.st ≠ .waiting) (hp : q.port = some p) :
    s.TripLeaves p i (enteredRec true .waiting t q) (Cell.toSense (t.cells[p])).clearCall
      (joinTail i (enterState true .waiting i t)) := by
  have hoff : (t.cells[p]).drive = .off := (congrArg Cell.drive h.cell :)
  have hcell : (enterState true .waiting i t).cells[p] = Cell.toLevel _ .sense (t.cells[p]) :=
    cell_enterState hq hp hst (by rw [hoff]; exact Drive.noConfusion) true
  have hrec := rec?_enterState hq true (st := .waiting) hst (by decide)
  have hties := ties_enterState true (st := .waiting) (by decide) i t
  have hf := frame_enterState true .waiting i t
  have hros := roster_of_fixed (fixed_of_frame hf)
  generalize enterState true .waiting i t = u at hcell hrec hties hf hros
  have hu' : ∀ j, (joinTail i u).portOf j = t.portOf j := portOf_congr (u := joinTail i u) hros
  exact {
    slot := hrec
    skips := .inr ⟨_, hrec, rfl, rfl⟩
    alone := fun j hj => by rw [hu']; exact h.alone hu hport j hj
    fed := by
      have ha : (joinTail i u).arbiter.feedList = t.arbiter.feedList := (congrArg (fun x => x.arbiter.feedList) hties :)
      rw [ha]; exact h.not_fed
    cell := by
      have hl : Cell.toLevel (q.admitted.getD 0) .sense (t.cells[p]) = Cell.toSense (t.cells[p]) := by
        unfold Cell.toLevel
        rw [if_neg (by rw [hoff]; decide)]
      rw [← hl, ← hcell]
      rfl
    within := (h.within.trans (.of_frame hf (congrArg Ties.cargo hties))).trans (.joinTail u)
    meter := (congrArg Frame.meter hf).trans h.meter
    free := fun he => (inFlight_none_iff _ i).mpr fun e => by
      have hc : (joinTail i u).carries i e = t.carries i e := cargo_carries (congrArg Ties.cargo hties :)
      rw [hc]; exact h.free he e }

/-- At the fourth fault the record is FAULTED, with its cell OFF (R52). -/
theorem tripLeaves_faulted {q : Record} (h : s.Disconnected p i r t) (hu : s.UniquePorts) (hport : s.portOf i = some p)
    (hq : t.rec? i = some q) (hst : q.st ≠ .faulted) (hp : q.port = some p) (hw : i ∉ s.arbiter.queue) :
    s.TripLeaves p i (Record.raise .faulted (enteredRec false .faulted t q).unpended) (t.cells[p]).clearCall
      (raiseFlag i .faulted (enter .faulted i t)) := by
  have hoff : (t.cells[p]).drive = .off := (congrArg Cell.drive h.cell :)
  have hcell : (enter .faulted i t).cells[p] = t.cells[p] := cell_enterState_at (st := .faulted) hq hp hoff false
  have hrec := rec?_enter_faulted hq hst
  obtain ⟨harb, hcargo⟩ := ties_enter_faulted i t
  have hf := frame_enter .faulted i t
  have hros := roster_of_fixed (fixed_of_frame hf)
  generalize enter .faulted i t = u at hcell hrec harb hcargo hf hros
  have hties : (raiseFlag i .faulted u).ties = u.ties := ties_raiseFlag ..
  have hu' : ∀ j, (raiseFlag i .faulted u).portOf j = t.portOf j :=
    portOf_congr ((roster_of_fixed (fixed_raiseFlag ..)).trans hros)
  have ha : (raiseFlag i .faulted u).arbiter = t.arbiter := (congrArg Ties.arbiter hties).trans harb
  exact {
    slot := (rec?_updRec_self ..).trans (congrArg _ hrec)
    skips := .inl (by rw [ha, h.arbiter]; exact hw)
    alone := fun j hj => by rw [hu']; exact h.alone hu hport j hj
    fed := by rw [ha]; exact h.not_fed
    cell := by rw [cell_congr (cells_raiseFlag ..), hcell]
    within := (h.within.trans (.of_frame hf hcargo)).trans (.updRec (Record.raise .faulted) u)
    meter := (congrArg (fun x => x.2.1) (gauges_updRec i (Record.raise .faulted) u)).trans
      ((congrArg Frame.meter hf).trans h.meter)
    free := fun he => (inFlight_none_iff _ i).mpr fun e => by
      rw [cargo_carries ((congrArg Ties.cargo hties).trans hcargo)]; exact h.free he e }

end Sys2Proof.Machine
end

section
/-! The obligation about a trip. -/

namespace Sys2Proof.Machine

open Sys2Proof

variable {s : State} {i : Idx} {p : Port} {r : Record}

/-- A trip is one event. -/
theorem exec_trip (h : s.inReset = false) (n : Nat) : exec (.trip p n) s = .next (event (tripWork p n) s) := by
  show Host.Outcome.next (live _ s) = _
  rw [live_awake h]

/-- A comparator that does not fire leaves the state (R50). -/
theorem exec_trip_unfired {n : Nat} (h : s.inReset = false) (hd : s.agenda.decision = false)
    (hp : s.agenda.pick = false) (hf : s.cells[p].fires n = false) : exec (.trip p n) s = .next s := by
  have hclear : clearNotes s =
      { s with agenda := { s.agenda with decision := s.agenda.decision, pick := s.agenda.pick } } := by
    rw [hd, hp]
    rfl
  replace hclear : clearNotes s = s := hclear
  have hw : tripWork p n (clearNotes s) = s := by rw [hclear]; exact tripWork_unfired hf
  rw [exec_trip h]
  unfold event
  rw [hw, finishEvent_none s s hd hp fun _ => rfl, hclear]

/-- The state as the work of a trip begins, disconnected and the fault counted. -/
def State.tripped (s : State) (p : Port) (i : Idx) : State := countFault p (disconnect p i (clearNotes s))

theorem tripped_disconnected (hr : s.rec? i = some r) : s.Disconnected p i r (s.tripped p i) := by
  obtain ⟨h1, h2, h3, h4, h5, h6, h7⟩ := disconnected (s := clearNotes s) (p := p) hr
  exact ⟨h1, h2, h3, State.Within.trans (.of_frame (frame_clearNotes s) rfl) h4, h5, h6, h7⟩

/-- A trip that fires, by the count of the fault (R52). -/
theorem exec_trip_fired {n : Nat} (h : s.inReset = false) (hf : s.cells[p].fires n = true)
    (hb : s.boundAt p = some i) : exec (.trip p n) s = .next (finishEvent s
      (if ((s.tripped p i).cells[p]).faultCount = 4 then raiseFlag i .faulted (enter .faulted i (s.tripped p i))
        else joinTail i (enterState true .waiting i (s.tripped p i)))) := by
  rw [exec_trip h]
  unfold event
  rw [tripWork_fired (s := clearNotes s) hf hb]
  rfl

/-- What a trip's outcome is, whatever the count of its fault. -/
def State.TripCommon (p : Port) (i : Idx) (r q : Record) (s t : State) : Prop :=
  t.rec? i = some q ∧ q.admitted = none ∧ q.has .trip = true ∧ i ∉ t.arbiter.feedList ∧
    t.cells[p].faultCount = min 4 (s.cells[p].faultCount + 1) ∧ t.cells[p].presence = .unknown ∧
    t.cells[p].trip = none ∧ q.allowance = r.allowance ∧ s.RestKept i t ∧ t.meter = s.meter

/-- The outcome of the exchange that a trip ends, of a request (R51, R125, R131). -/
def State.TripSent (i : Idx) (q : Record) (s : State) : Prop :=
  ∀ e g, s.inFlight i = some e → s.engine e = some g → g.ex.origin = .request →
    q.has .sent = true ∧ q.lastOutcome = some (g.ex.kind, .line)

/-- A trip below the fourth fault: the record waits, cooling, with its pending exchange or an engine that takes it (R52,
R53, R120). -/
theorem trip_waits {d : State} (hdis : s.Disconnected p i r d) (hu : s.UniquePorts) (hport : s.portOf i = some p)
    (hrp : r.port = some p) (hst : r.st = .fed) : ∃ q,
    let t := finishEvent s (joinTail i (enterState true .waiting i d))
    s.TripCommon p i r q t ∧ s.TripSent i q ∧
      (q.st = .waiting ∧ q.cd = ⟨50, 50, false, true⟩ ∧ i ∈ t.arbiter.queue ∧ t.cells[p].drive = .sense) ∧
      (s.OneEngineEach → q.pend = r.pend ∧ t.inFlight i = none ∨ q.pend = none ∧ ∃ e h, t.inFlight i = some e ∧
        t.engine e = some h ∧ r.pend = some h.ex ∧ h.attempts = 1 ∧ h.outcome = none) := by
  obtain ⟨q, hdq, hqr, hsent⟩ := hdis.slot
  have hleaves := tripLeaves_waiting hdis hu hport hdq (by rw [hqr.st, hst]; exact RState.noConfusion)
    (hqr.port.trans hrp)
  have hsense : (Cell.toSense (d.cells[p])).clearCall = { (s.cells[p]).toOff with
      drive := .sense, faultCount := min 4 (s.cells[p].faultCount + 1) } := by
    have hoff : (d.cells[p]).drive = .off := (congrArg Cell.drive hdis.cell :)
    have hto : (Cell.toSense (d.cells[p])).clearCall = { (d.cells[p]).clearCall with
        drive := .sense, presence := .unknown, stamp := none, cand := none, presRun := 0 } := by
      unfold Cell.toSense
      rw [hoff]
      rfl
    rw [hto, hdis.cell]
    rfl
  have hwaits : i ∈ (joinTail i (enterState true .waiting i d)).arbiter.queue := by simp [joinTail, callDecision]
  rw [hsense] at hleaves
  generalize joinTail i (enterState true .waiting i d) = v at hleaves hwaits
  obtain ⟨⟨x, hslot, -⟩, hfeed, hcell, hkept, hmeter⟩ := hleaves.finish hport s
  have hqueue := (finishEvent_parts hleaves.skips hleaves.alone s).1.mpr hwaits
  have hpend : s.OneEngineEach → _ := fun he =>
    finishEvent_pend hleaves.skips hleaves.alone hleaves.slot (hleaves.free he) s
  have hdr : ((finishEvent s v).cells[p]).drive = .sense := (congrArg Cell.drive hcell :)
  refine ⟨_, ⟨hslot, hqr.admitted, hqr.trip, hfeed, congrArg Cell.faultCount hcell, congrArg Cell.presence hcell,
    congrArg Cell.trip hcell, hqr.allowance, hkept, hmeter⟩, hsent, ⟨rfl, rfl, hqueue, hdr⟩, fun he => ?_⟩
  obtain ⟨hs, hfree⟩ | ⟨hs, e, g, hin, hg, hx, hb1, hb2⟩ := hpend he
  · have hp := congrArg Record.pend (Option.some.inj (hslot.symm.trans hs))
    exact .inl ⟨hp.trans hqr.pend, hfree⟩
  · have hp := congrArg Record.pend (Option.some.inj (hslot.symm.trans hs))
    exact .inr ⟨hp, e, g, hin, hg, hqr.pend.symm.trans hx, hb1, hb2⟩

/-- A trip at the fourth fault: the record is FAULTED, with no exchange and its cell OFF (R52). -/
theorem trip_faults {d : State} (hdis : s.Disconnected p i r d) (hu : s.UniquePorts) (hport : s.portOf i = some p)
    (hrp : r.port = some p) (hst : r.st = .fed) (hw : i ∉ s.arbiter.queue) : ∃ q,
    let t := finishEvent s (raiseFlag i .faulted (enter .faulted i d))
    s.TripCommon p i r q t ∧ s.TripSent i q ∧ q.st = .faulted ∧ q.has .faulted = true ∧ q.pend = none ∧
      (s.OneEngineEach → t.inFlight i = none) ∧ t.cells[p].drive = .off := by
  obtain ⟨q, hdq, hqr, hsent⟩ := hdis.slot
  have hleaves := tripLeaves_faulted hdis hu hport hdq (by rw [hqr.st, hst]; exact RState.noConfusion)
    (hqr.port.trans hrp) hw
  rw [hdis.cell] at hleaves
  have hflag := has_raise .faulted (enteredRec false .faulted d q).unpended
  have hkeeps : ∀ f, q.has f = true → (Record.raise .faulted (enteredRec false .faulted d q).unpended).has f = true :=
    fun f h => has_raise_of_has h
  obtain ⟨x, y, hraise⟩ := raise_eq .faulted (enteredRec false .faulted d q).unpended
  rw [hraise] at hleaves hflag hkeeps
  generalize raiseFlag i .faulted (enter .faulted i d) = v at hleaves
  obtain ⟨⟨z, hslot, hnone⟩, hfeed, hcell, hkept, hmeter⟩ := hleaves.finish hport s
  obtain ⟨rfl, hin⟩ := hnone rfl
  have hdr : ((finishEvent s v).cells[p]).drive = .off := (congrArg Cell.drive hcell :)
  exact ⟨_, ⟨hslot, hqr.admitted, hkeeps .trip hqr.trip, hfeed, congrArg Cell.faultCount hcell,
    congrArg Cell.presence hcell, congrArg Cell.trip hcell, hqr.allowance, hkept, hmeter⟩,
    fun e g he hg ho => ⟨hkeeps .sent (hsent e g he hg ho).1, (hsent e g he hg ho).2⟩, rfl, hflag, rfl,
    fun he => hin.trans (hleaves.free he), hdr⟩

/-- Settles O58: the work of a trip up to the count of its fault, then the state that the count gives. -/
theorem trip : Obligations.Trip := by
  intro p n s hlive
  refine ⟨fun hd hp hc => exec_trip_unfired hlive hd hp (fires_eq_false hc), ?_⟩
  intro i r level hb hr hst hdrive htrip hn hq hfl hu
  have hport : s.portOf i = some p := portOf_of_boundAt hb
  have hrp : r.port = some p := by simpa [State.portOf, hr] using hport
  have hexec := exec_trip_fired hlive (fires_eq_true hdrive htrip hn) hb
  have hdis : s.Disconnected p i r (s.tripped p i) := tripped_disconnected hr
  generalize s.tripped p i = d at hexec hdis
  have hcount : (d.cells[p]).faultCount = min 4 (s.cells[p].faultCount + 1) := (congrArg Cell.faultCount hdis.cell :)
  by_cases hlt : s.cells[p].faultCount < 3
  · rw [if_neg (by rw [hcount]; omega)] at hexec
    obtain ⟨q, ⟨h1, h2, h3, h4, h5, h6, h7, h8, h9, h10⟩, hsent, hwaits, hpend⟩ := trip_waits hdis hu hport hrp hst
    exact ⟨_, q, hexec, h1, h2, h3, h4, h5, h6, h7, h8, h9, h10, fun _ => hwaits,
      fun he => ⟨hsent, fun _ => hpend he⟩, fun h => absurd hlt (by omega)⟩
  · rw [if_pos (by rw [hcount]; omega)] at hexec
    have hw : i ∉ s.arbiter.queue := fun hm => by
      have := (hq.2 i).mp hm
      simp [State.stOf, hr, hst] at this
    obtain ⟨q, ⟨h1, h2, h3, h4, h5, h6, h7, h8, h9, h10⟩, hsent, hfault⟩ := trip_faults hdis hu hport hrp hst hw
    exact ⟨_, q, hexec, h1, h2, h3, h4, h5, h6, h7, h8, h9, h10, fun h => absurd h hlt,
      fun _ => ⟨hsent, fun h => absurd h hlt⟩, fun _ => hfault⟩

end Sys2Proof.Machine
end

section
/-! The counts of one sample in the words of R46, and the works that they bring. -/

namespace Sys2Proof.Machine

open Sys2Proof

variable {s : State} {i : Idx} {p : Port} {r : Record}

/-! ### The reading -/

/-- The reading of a sample by its level (R55). -/
theorem readingOf_lineForm (d : Drive) (space bias : Bool) (v : Nat) :
    readingOf (lineForm d (!space)) bias v = sampleReads d space bias v := by
  cases d with
  | off => cases space <;> rfl
  | sense => cases space <;> cases bias <;> rfl
  | ramp => cases space <;> simp [readingOf, lineForm, sampleReads, apply_ite some]
  | feed => cases space <;> simp [readingOf, lineForm, sampleReads, apply_ite some]

/-! ### The counts -/

/-- The presence count leaves the other counts of a cell. -/
theorem readBy_eq (x : Option Reading) (c : Cell) : ∃ y n, c.readBy x = { c with cand := y, presRun := n } := by
  cases x with
  | none => exact ⟨_, _, rfl⟩
  | some x =>
    unfold Cell.readBy presenceStep
    dsimp only
    split
    · exact ⟨_, _, rfl⟩
    · split <;> exact ⟨_, _, rfl⟩

/-- The call detector leaves the rest of a cell. -/
theorem callStep_eq (engaged : Bool) (v : Nat) (c : Cell) :
    ∃ b n x, callStep engaged v c = { c with callBase := b, callRun := n, callHeld := x } := by
  unfold callStep
  split
  · exact ⟨_, _, _, rfl⟩
  · split
    · exact ⟨_, _, _, rfl⟩
    · split
      · split
        · exact ⟨_, _, _, rfl⟩
        · split <;> exact ⟨_, _, _, rfl⟩
      · exact ⟨_, _, _, rfl⟩

/-- What the counts of a level leave of a cell. -/
def Cell.uncounted (c : Cell) : (Option Reading × Nat) × Drive × Option Nat × Nat × Presence × Option Stamp × Nat :=
  ((c.cand, c.presRun), c.drive, c.trip, c.faultCount, c.presence, c.stamp, c.lastScan)

theorem uncounted_countedIn (d : Drive) (engaged : Bool) (n v : Nat) (c : Cell) :
    (c.countedIn d engaged n v).uncounted = c.uncounted := by
  cases d with
  | off => rfl
  | sense =>
    obtain ⟨b, k, x, h⟩ := callStep_eq engaged v c
    show (callStep engaged v c).uncounted = _
    rw [h]
    rfl
  | ramp => rfl
  | feed =>
    show ({ overStep n v c with feedRun := min 600 (c.feedRun + 1) } : Cell).uncounted = _
    unfold overStep
    split <;> rfl

theorem agrees_iff (x : Presence) (y : Reading) :
    x.agrees y = true ↔ x = .present ∧ y = .present ∨ x = .absent ∧ y = .absent := by
  cases x <;> cases y <;> simp [Presence.agrees]

/-- The debounce of a reading (R57). -/
theorem presenceStep_counts (y : Reading) (c : Cell) :
    (c.presence.agrees y = true → (presenceStep y c).cand = none ∧ (presenceStep y c).presRun = 0) ∧
      (c.presence.agrees y = false → c.cand = some y →
        (presenceStep y c).cand = some y ∧ (presenceStep y c).presRun = min 3 (c.presRun + 1)) ∧
      (c.presence.agrees y = false → c.cand ≠ some y →
        (presenceStep y c).cand = some y ∧ (presenceStep y c).presRun = 1) := by
  refine ⟨fun h => ?_, fun h hc => ?_, fun h hc => ?_⟩ <;> unfold presenceStep
  · rw [if_pos h]; exact ⟨rfl, rfl⟩
  · rw [h, if_neg Bool.false_ne_true, if_pos hc]; exact ⟨hc, rfl⟩
  · rw [h, if_neg Bool.false_ne_true, if_neg hc]; exact ⟨rfl, rfl⟩

/-- The call detector of a port that no engine is engaged on (R60, R61). -/
theorem callStep_counts (v : Nat) (c : Cell) :
    (c.callBase = none → callStep false v c = { c with callBase := some v }) ∧ ∀ b, c.callBase = some b →
      (v < b + 4 → callStep false v c = { c with callBase := some v, callRun := 0, callHeld := false }) ∧
      (b + 4 ≤ v → (c.callHeld = true → callStep false v c = c) ∧
        (c.callHeld = false → c.callRun = 0 → callStep false v c = { c with callRun := 1 }) ∧
        (c.callHeld = false → 0 < c.callRun → callStep false v c = { c with callRun := 0, callHeld := true })) := by
  unfold callStep
  rw [if_neg Bool.false_ne_true]
  refine ⟨fun h => by rw [h], fun b hb => ?_⟩
  rw [hb]
  dsimp only
  refine ⟨fun h => if_neg (Nat.not_le.mpr h), fun h => ?_⟩
  rw [if_pos h]
  refine ⟨fun hh => if_pos hh, fun hh hrun => ?_, fun hh hrun => ?_⟩
  · rw [hh, if_neg Bool.false_ne_true, if_neg (by omega)]
  · rw [hh, if_neg Bool.false_ne_true, if_pos (show 1 ≤ c.callRun from hrun)]

/-- The counts of a sample by its drive level, in the words of R46. -/
def Cell.CountsIn (c : Cell) (engaged : Bool) (n v : Nat) (d : Cell) : Prop :=
  (c.drive ≠ .sense → d.callBase = c.callBase ∧ d.callRun = c.callRun ∧ d.callHeld = c.callHeld) ∧
  (c.drive = .sense →
    (engaged = true → d.callBase = none ∧ d.callRun = 0 ∧ d.callHeld = false) ∧
    (engaged = false →
      (c.callBase = none → d.callBase = some v ∧ d.callRun = c.callRun ∧ d.callHeld = c.callHeld) ∧
      ∀ b, c.callBase = some b →
        (v < b + 4 → d.callBase = some v ∧ d.callRun = 0 ∧ d.callHeld = false) ∧
        (b + 4 ≤ v → d.callBase = some b ∧
          (c.callHeld = true → d.callRun = c.callRun ∧ d.callHeld = true) ∧
          (c.callHeld = false → c.callRun = 0 → d.callRun = 1 ∧ d.callHeld = false) ∧
          (c.callHeld = false → 0 < c.callRun → d.callRun = 0 ∧ d.callHeld = true)))) ∧
  (c.drive = .ramp → d.rampCount = c.rampCount - 1) ∧ (c.drive ≠ .ramp → d.rampCount = c.rampCount) ∧
  (c.drive = .feed → d.feedRun = min 600 (c.feedRun + 1) ∧
    d.overRun = if n < v then min 3 (c.overRun + 1) else 0) ∧
  (c.drive ≠ .feed → d.feedRun = c.feedRun ∧ d.overRun = c.overRun)

/-- The counts under the bias are those of the call detector (R60, R61). -/
theorem countsIn_sense {c : Cell} (h : c.drive = .sense) (engaged : Bool) (n v : Nat) :
    c.CountsIn engaged n v (callStep engaged v c) := by
  obtain ⟨x, k, y, hstep⟩ := callStep_eq engaged v c
  refine ⟨fun hn => absurd h hn, fun _ => ⟨?_, ?_⟩, fun hd => ?_, fun _ => ?_, fun hd => ?_, fun _ => ?_⟩
  · rintro rfl
    exact ⟨rfl, rfl, rfl⟩
  · rintro rfl
    obtain ⟨hnone, hsome⟩ := callStep_counts v c
    refine ⟨fun hb => by rw [hnone hb]; exact ⟨rfl, rfl, rfl⟩, fun b hb => ?_⟩
    obtain ⟨hlow, hhigh⟩ := hsome b hb
    refine ⟨fun hv => by rw [hlow hv]; exact ⟨rfl, rfl, rfl⟩, fun hv => ?_⟩
    obtain ⟨hheld, hfirst, hsecond⟩ := hhigh hv
    refine ⟨?_, fun hc => ?_, fun hc hr => ?_, fun hc hr => ?_⟩
    · cases hc : c.callHeld with
      | true => rw [hheld hc]; exact hb
      | false =>
        rcases Nat.eq_zero_or_pos c.callRun with hr | hr
        · rw [hfirst hc hr]; exact hb
        · rw [hsecond hc hr]; exact hb
    · rw [hheld hc]; exact ⟨rfl, hc⟩
    · rw [hfirst hc hr]; exact ⟨rfl, hc⟩
    · rw [hsecond hc hr]; exact ⟨rfl, rfl⟩
  · rw [h] at hd; cases hd
  · rw [hstep]
  · rw [h] at hd; cases hd
  · rw [hstep]; exact ⟨rfl, rfl⟩

theorem countsIn_countedIn (c : Cell) (engaged : Bool) (n v : Nat) :
    c.CountsIn engaged n v (c.countedIn c.drive engaged n v) := by
  cases hd : c.drive with
  | off => simp [Cell.CountsIn, Cell.countedIn, hd]
  | sense => exact countsIn_sense hd engaged n v
  | ramp => simp [Cell.CountsIn, Cell.countedIn, hd]
  | feed =>
    have hover : overStep n v c = { c with overRun := if n < v then min 3 (c.overRun + 1) else 0 } := by
      unfold overStep
      split <;> rfl
    simp [Cell.CountsIn, Cell.countedIn, hd, hover]

/-- The counts of a sample, in the words of R46. -/
theorem counts_sampledCell (c : Cell) (x : Option Reading) (engaged : Bool) (n v : Nat) :
    c.Counts x engaged n v (sampledCell c.drive x engaged n v { c with lastScan := v }) := by
  have hpres : ∀ z, x = some z → Cell.readBy x { c with lastScan := v } = presenceStep z { c with lastScan := v } :=
    fun z hz => by rw [hz]; rfl
  have hnone : x = none → Cell.readBy x { c with lastScan := v } = { c with lastScan := v } := fun hz => by rw [hz]; rfl
  obtain ⟨y, k, hread⟩ := readBy_eq x { c with lastScan := v }
  have hkept := uncounted_countedIn c.drive engaged n v (Cell.readBy x { c with lastScan := v })
  have hlevel := countsIn_countedIn (Cell.readBy x { c with lastScan := v }) engaged n v
  rw [sampledCell_eq]
  have hdr : (Cell.readBy x { c with lastScan := v }).drive = c.drive := by rw [hread]
  rw [hdr] at hlevel
  generalize Cell.countedIn c.drive engaged n v (Cell.readBy x { c with lastScan := v }) = d at hkept hlevel ⊢
  simp only [Cell.uncounted, Prod.mk.injEq] at hkept
  obtain ⟨⟨hcand, hrun⟩, hdrive, htrip, hfault, hp, hstamp, hscan⟩ := hkept
  refine ⟨⟨hdrive.trans hdr, ?_⟩, fun hx => ?_, fun z hx => ?_, ?_⟩
  · rw [hread] at htrip hfault hp hstamp hscan
    exact ⟨htrip, hfault, hp, hstamp, hscan⟩
  · rw [hcand, hrun, hnone hx]
    exact ⟨rfl, rfl⟩
  · rw [hcand, hrun, hpres z hx]
    have hz := presenceStep_counts z { c with lastScan := v }
    rw [← Bool.not_eq_true, agrees_iff] at hz
    exact hz
  · rw [hread] at hlevel
    exact hlevel

/-! ### The part's sample -/

/-- The sample of a bound port's cell in the words of R46. -/
theorem counts_sampled (hb : s.boundAt p = some i) (hr : s.rec? i = some r) {c : Cell} {v : Nat}
    (hc : s.cells[p] = { c with lastScan := v }) :
    c.Counts (sampleReads c.drive (decide (p ∈ s.tick.spaces)) s.tick.bias[p] v) (s.engineOn p).isSome
      (r.admitted.getD 0) v (s.sampled p) := by
  have ha : s.admittedOf i = r.admitted.getD 0 := by unfold State.admittedOf; rw [hr]
  have hd : s.sampled p = sampledCell c.drive (sampleReads c.drive (decide (p ∈ s.tick.spaces)) s.tick.bias[p] v)
      (s.engineOn p).isSome (r.admitted.getD 0) v { c with lastScan := v } := by
    unfold State.sampled State.sampleLevel
    rw [hb]
    dsimp only
    rw [hc, ha, readingOf_lineForm, List.contains_eq_mem]
  rw [hd]
  exact counts_sampledCell ..

/-- The works of a sample are those of its counts, and of a call that the tick found (R46, R172). -/
theorem brings_iff {c : Cell} {v : Nat} (hc : s.cells[p] = { c with lastScan := v }) (hn : s.callInQ1 p = false) :
    cellWorks.any (s.brings p) = true ↔ c.Brings (s.sampled p) := by
  unfold Cell.Brings
  simp only [cellWorks, List.any_cons, List.any_nil, State.brings, State.recognises, hn, hc, Bool.or_false,
    Bool.or_eq_true, Bool.and_eq_true, Bool.not_eq_true', decide_eq_true_eq]

end Sys2Proof.Machine
end

section
/-! A sample's cell, engagement and record through the part of a tick ahead of the samples (R46, R65, R66). -/

namespace Sys2Proof.Machine

open Sys2Proof

variable {s t u : State} {i j : Idx} {p q : Port} {r : Record} {sc : Scan}

/-! ### What a sample reads of its port -/

/-- The port's cell, its engagement and its due sample are as they were. -/
structure State.SameSpot (p : Port) (s t : State) : Prop where
  cell : t.cells[p] = s.cells[p]
  engaged : t.engagedOn p = s.engagedOn p
  due : t.isDue (.sample p) = s.isDue (.sample p)

namespace State.SameSpot

theorem refl (p : Port) (s : State) : s.SameSpot p s := ⟨rfl, rfl, rfl⟩

theorem trans (h : s.SameSpot p t) (k : t.SameSpot p u) : s.SameSpot p u :=
  ⟨k.cell.trans h.cell, k.engaged.trans h.engaged, k.due.trans h.due⟩

theorem engineOn (h : s.SameSpot p t) : t.engineOn p = s.engineOn p := by
  unfold State.engineOn
  rw [h.engaged]

end State.SameSpot

theorem ofTick_sample (p : Port) : (Event.sample p).ofTick := fun _ h => by cases h

/-- An engine is engaged on a port by the port of its cargo. -/
theorem engagedOn_eq (s : State) (p : Port) (e : Engine) :
    s.engagedOn p e = decide ((s.ties.cargo e).bind (fun c => c.2.1) = some p) := by
  rcases h : s.engine e with _ | g <;> simp [State.engagedOn, State.ties, Engagement.cargo, h]

theorem engagedOn_congr (h : t.ties.cargo = s.ties.cargo) (p : Port) : t.engagedOn p = s.engagedOn p :=
  funext fun e => by rw [engagedOn_eq, engagedOn_eq, h]

/-! ### A lapse on another port -/

theorem cargo_leaveLapsed (j : Idx) (s : State) : (leaveLapsed j s).ties.cargo = s.ties.cargo := by
  have he : ∀ {st : RState}, st ≠ .faulted → (enter st j s).ties.cargo = s.ties.cargo := fun h =>
    congrArg Ties.cargo (ties_enter h j s)
  unfold leaveLapsed
  split
  · rfl
  · split
    · split
      · exact he (st := .waiting) (by decide)
      · split
        · exact he (st := .waiting) (by decide)
        · exact he (st := .carrying) (by decide)
      · rfl
      · rfl
    · rfl

theorem cargo_topUp (j : Idx) (s : State) : (topUp j s).ties.cargo = s.ties.cargo := by
  unfold topUp
  split
  · rfl
  · dsimp only
    split
    · rfl
    · split
      · rfl
      · unfold grantTo
        split
        · rfl
        · rw [cargo_leaveLapsed, ties_updRec]
          rfl

theorem cargo_lapse (j : Idx) (s : State) : (lapse j s).ties.cargo = s.ties.cargo := by
  unfold lapse
  rw [cargo_topUp, ties_raiseFlag, ties_enter (by decide), (ties_leaveService ..).1]

theorem cargo_debitPort (sc : Scan) (s : State) (q : Port) : (debitPort sc s q).ties.cargo = s.ties.cargo := by
  unfold debitPort
  split
  · rfl
  · split
    · dsimp only
      split
      · rw [cargo_lapse, ties_updRec]
      · rw [ties_updRec]
    · rfl

/-- Work on a record that the port is not bound to leaves the port's sample. -/
theorem State.Spares.sameSpot (h : s.Spares j t) (hc : t.ties.cargo = s.ties.cargo) (hp : s.portOf j ≠ some p) :
    s.SameSpot p t :=
  ⟨h.cells p hp, engagedOn_congr hc p, h.due _ (ofTick_sample p) fun he => by cases he⟩

/-! ### The end of an event -/

/-- The pick of another record leaves the port's sample. -/
theorem sameSpot_pickFor (hpend : (s.rec? i).bind (·.pend) = none) (hp : ∀ j, j ≠ i → s.portOf j ≠ some p) (e : Engine) :
    s.SameSpot p (pickFor e s) := by
  obtain h | ⟨j, r, x, he, hr, hx, -, -, ht⟩ := pickFor_parts e s
  · rw [h]; exact .refl p s
  have hij : j ≠ i := fun hij => by rw [hij] at hr; rw [hr, Option.bind_some, hx] at hpend; cases hpend
  have hport : r.port ≠ some p := by
    have := hp j hij
    rwa [State.portOf, hr] at this
  refine ⟨?_, funext fun f => ?_, ?_⟩
  · obtain h | ⟨k, -, -, h⟩ := pickFor_cases e s
    · rw [h]
    · obtain hs | ⟨r', x', hr', hx', hs⟩ := engage_cases e k s
      · rw [h, hs]
      · have hki : k ≠ i := fun hki => by rw [hki] at hr'; rw [hr', Option.bind_some, hx'] at hpend; cases hpend
        have hport' : r'.port ≠ some p := by
          have := hp k hki
          rwa [State.portOf, hr'] at this
        have hcells : (engage e k s).cells = (restartCall r'.port (dropPending k s)).cells := by
          rw [hs]
          exact (cells_takeBaseline ..).trans (setEngine_cells ..)
        rw [h, cell_congr hcells]
        cases hr'p : r'.port with
        | none => exact cell_congr (cells_dropPending k s) p
        | some q =>
          have hpq : p ≠ q := fun h => hport' (by rw [hr'p, h])
          show (updCell q Cell.clearCall (dropPending k s)).cells[p] = _
          rw [cells_updCell, if_neg hpq, cell_congr (cells_dropPending k s)]
  · have hc : (pickFor e s).ties.cargo = _ := congrArg Ties.cargo ht
    rw [engagedOn_eq, engagedOn_eq, hc]
    by_cases hf : f = e
    · subst hf
      simp [he, hport]
    · simp [hf]
  · obtain h | ⟨k, -, -, h⟩ := pickFor_cases e s
    · rw [h]
    · rw [h]; exact isDue_engage ..

/-- The end of an event passes by a record that has nothing pending and does not wait, and its port. -/
theorem sameSpot_finishEvent (hq : i ∉ t.arbiter.queue) (hpend : (t.rec? i).bind (·.pend) = none)
    (hp : ∀ j, j ≠ i → t.portOf j ≠ some p) (b : State) : t.SameSpot p (finishEvent b t) := by
  have hd := bypassed_decided (.inl hq) hp
  have hdue : (finishEvent b t).isDue (.sample p) = t.isDue (.sample p) :=
    isDue_finishEvent (ofTick_sample p) (fun _ _ _ he => by cases he) b
  obtain he | he := finishEvent_cases b t
  · rw [he] at hdue ⊢
    exact ⟨hd.cell, engagedOn_congr (t := clearNotes (decided t)) hd.cargo p, hdue⟩
  · have hros : (decided t).roster = t.roster := by
      refine roster_of_fixed (fixed_of_frame ?_)
      unfold decided
      split
      · exact frame_decideAdmission t
      · rfl
    have hport : ∀ {v : State}, v.roster = t.roster → ∀ j, j ≠ i → v.portOf j ≠ some p := fun h j hj => by
      rw [portOf_congr h]; exact hp j hj
    have ha := sameSpot_pickFor (by rw [hd.slot]; exact hpend) (hport hros) .a
    have hua := untouched_pickFor (s := decided t) (i := i) (by rw [hd.slot]; exact hpend) .a
    have hb := sameSpot_pickFor (s := pickFor .a (decided t)) (by rw [hua.slot, hd.slot]; exact hpend)
      (hport ((roster_of_fixed (fixed_of_frame (frame_pickFor ..))).trans hros)) .b
    have hab := ha.trans hb
    rw [he] at hdue ⊢
    exact ⟨hab.cell.trans hd.cell, (hab.engaged.trans (engagedOn_congr hd.cargo p) :), hdue⟩

end Sys2Proof.Machine
end

section
/-! The sample event at its agenda: its works make no sample due, and the row of a work that it brings takes it (R46, log
entry 21). -/

namespace Sys2Proof.Machine

open Sys2Proof

variable {s t : State} {i : Idx} {p q : Port} {r : Record}

/-! ### What is due of the samples -/

theorem isDue_enter_sample (q : Port) (st : RState) (i : Idx) (s : State) :
    (enter st i s).isDue (.sample q) = s.isDue (.sample q) :=
  isDue_enterState_other (ofTick_sample q) (fun he => by cases he) false st s

theorem isDue_abortInFlight {ev : Event} (h : ev.ofTick) (o : ExOutcome) (i : Idx) (s : State) :
    (abortInFlight o i s).isDue ev = s.isDue ev := by
  have hcut : ∀ e : Engine, (cutLine e s).isDue ev = s.isDue ev := fun e => by
    have hsend : (sendPart e s).isDue ev = s.isDue ev := by
      obtain h | ⟨g, n, -, -, -, h⟩ := sendPart_cases e s
      · rw [h]
      · rw [h]; exact isDue_setEngine ..
    unfold cutLine
    dsimp only
    split
    · split
      · exact (isDue_of_due (congrArg Agenda.due (setLine_agenda ..)) ev).trans hsend
      · exact hsend
    · exact hsend
  have hfree : ∀ (e : Engine) (u : State), (freeEngine e u).isDue ev = u.isDue ev := fun e u => by
    unfold freeEngine
    split
    · rfl
    · next g _ =>
      have hr : ∀ v : State, (callPick (restartCall g.port v)).isDue ev = v.isDue ev := fun v => by
        cases g.port <;> rfl
      rw [hr, isDue_dropDue_other (h e), isDue_setEngine]
  unfold abortInFlight
  split
  · rfl
  · next e _ =>
    unfold abortEngine
    split
    · rfl
    · unfold noteSent
      split
      · rw [isDue_updRec, hfree, hcut]
      · rw [hfree, hcut]

theorem isDue_leaveService (ev : Event) (i : Idx) (s : State) : (leaveService i s).isDue ev = s.isDue ev := by
  unfold leaveService
  split
  · exact isDue_updRec i (fun r => { r with admitted := none }) ev s
  · rfl
  · rfl

theorem isDue_wantFeed (q : Port) (i : Idx) (s : State) : (wantFeed i s).isDue (.sample q) = s.isDue (.sample q) := by
  unfold wantFeed
  split
  · rfl
  · split
    · exact isDue_enter_sample q .waiting i s
    · exact (State.Spares.lapse s).due _ (ofTick_sample q) fun he => by cases he

theorem isDue_presenceLoss (q : Port) (i : Idx) (s : State) :
    (presenceLoss i s).isDue (.sample q) = s.isDue (.sample q) := by
  have htest : ∀ u : State, (abandonTest i u).isDue (.sample q) = u.isDue (.sample q) := fun u => by
    unfold abandonTest
    split
    · exact isDue_updRec ..
    · rfl
  have hlost : ∀ u : State, (presenceLoss.lost i u).isDue (.sample q) = u.isDue (.sample q) := fun u => by
    unfold presenceLoss.lost
    rw [isDue_enter_sample, htest, isDue_leaveService, isDue_dropPending, isDue_abortInFlight (ofTick_sample q)]
  have hr : (raiseFlag i .presence s).isDue (.sample q) = s.isDue (.sample q) := isDue_updRec ..
  unfold presenceLoss
  dsimp only
  split
  · rw [hlost, hr]
  · rw [hlost, hr]
  · rw [hlost, hr]
  · rw [hlost, hr]
  · rw [hlost, hr]
  · rw [hlost, hr]
  · exact hr

theorem isDue_presenceGain (q : Port) (i : Idx) (s : State) :
    (presenceGain i s).isDue (.sample q) = s.isDue (.sample q) := by
  have hr : (seenNow i (raiseFlag i .presence s)).isDue (.sample q) = s.isDue (.sample q) :=
    (isDue_updRec ..).trans (isDue_updRec ..)
  unfold presenceGain
  dsimp only
  split
  · rw [isDue_enter_sample, isDue_ask, hr]
  · exact hr

theorem isDue_callEffect (q : Port) (i : Idx) (s : State) : (callEffect i s).isDue (.sample q) = s.isDue (.sample q) := by
  have hr : (raiseFlag i .call s).isDue (.sample q) = s.isDue (.sample q) := isDue_updRec ..
  have ha : ∀ u : State, (abandonForCall i u).isDue (.sample q) = u.isDue (.sample q) := fun u => by
    have ht : (setTested i .abandoned u).isDue (.sample q) = u.isDue (.sample q) := isDue_updRec ..
    unfold abandonForCall
    rw [isDue_wantFeed]
    split
    · split
      · rw [isDue_dropPending, ht]
      · exact ht
    · exact ht
  unfold callEffect
  dsimp only
  split
  · rw [isDue_ask, isDue_enter_sample, hr]
  · rw [isDue_ask, hr]
  · rw [isDue_ask, hr]
  · rw [isDue_ask, hr]
  · rw [isDue_ask, isDue_enter_sample, hr]
  · split
    · rw [ha, hr]
    · exact hr
  · exact hr

/-- No work of a sample makes a sample due. -/
theorem isDue_cellWork (q p : Port) (w : CellWork) (s : State) :
    (cellWork p w s).isDue (.sample q) = s.isDue (.sample q) := by
  cases w with
  | settle =>
    show (settleWork p s).isDue _ = _
    unfold settleWork
    dsimp only
    split
    · rfl
    · split
      · split
        · next x _ j _ =>
          unfold settleEffect
          split
          · exact isDue_presenceLoss q j _
          · exact isDue_presenceLoss q j _
          · exact isDue_presenceGain q j _
          · exact isDue_updRec ..
          · rfl
          · rfl
        · rfl
      · rfl
  | call =>
    show (callWork p s).isDue _ = _
    unfold callWork
    split
    · rfl
    · exact isDue_callEffect q _ s
  | overCeiling =>
    show (overWork p s).isDue _ = _
    unfold overWork
    dsimp only
    split
    · split
      · rfl
      · split
        · rfl
        · split
          · rfl
          · exact isDue_ask ..
    · rfl
  | rampEnd =>
    show (rampWork p s).isDue _ = _
    unfold rampWork
    dsimp only
    split
    · split
      · exact isDue_orderLevel (ofTick_sample q) ..
      · rfl
    · rfl
  | feedRun =>
    show (feedRunWork p s).isDue _ = _
    unfold feedRunWork
    dsimp only
    split <;> rfl

theorem isDue_sampleWork (q p : Port) (s : State) : (sampleWork p s).isDue (.sample q) = s.isDue (.sample q) := by
  unfold sampleWork
  exact foldl_keeps (Q := fun t => t.isDue (.sample q) = s.isDue (.sample q))
    (fun t w ht => (isDue_cellWork q p w t).trans ht) _ rfl

/-! ### The event -/

/-- The state in which the work of a sample runs: its own event is off the agenda. -/
def sampling (p : Port) (s : State) : State := dropDue (.sample p) (clearNotes s)

theorem takeEvent_sample (h : s.isDue (.sample p) = true) :
    takeEvent (.sample p) s = finishEvent s (sampleWork p (sampling p s)) := takeEvent_due _ _ h

/-- A sample taken is due no more. -/
theorem isDue_takeEvent_sample (h : s.isDue (.sample p) = true) :
    (takeEvent (.sample p) s).isDue (.sample p) = false := by
  rw [takeEvent_sample h]
  refine isDue_finishEvent_false (ofTick_sample p) ?_ s
  rw [isDue_sampleWork]
  exact isDue_dropDue_self ..

/-- The row of a work that the sample brings takes the sample. -/
theorem takeSample_brings {w : CellWork} (hb : s.brings p w = true) (h : s.isDue (.sample p) = true) :
    takeSample w p s = finishEvent s (sampleWork p (sampling p s)) := by
  unfold takeSample
  rw [if_pos hb, takeEvent_sample h]

/-- The works of a sample, one behind the other. -/
theorem sampleWork_eq (p : Port) (s : State) : sampleWork p (sampling p s) =
    (cellWorks.filter (s.brings p)).foldl (fun t w => cellWork p w t) (updCell p (fun _ => s.sampled p) (sampling p s)) :=
  rfl

end Sys2Proof.Machine
end

section
/-! A tick from one port: the cell, the engagement and the record that its sample meets, and what the tick makes of the
sample (R46, R65, R66, log entry 21). -/

namespace Sys2Proof.Machine

open Sys2Proof

variable {s t u : State} {i j : Idx} {p q : Port} {r : Record} {sc : Scan}

/-! ### The beginning of the tick -/

theorem eq_withScan {c d : Cell} (h : c.unscanned = d.unscanned) : c = { d with lastScan := c.lastScan } := by
  have := congrArg (fun x : Cell => { x with lastScan := c.lastScan }) h
  exact this

/-- The link through the scan and the countdowns. -/
theorem link_tickStart (sc : Scan) (s : State) : (tickStart sc s).link = s.link := by
  obtain ⟨⟨c, hc⟩, -, -⟩ := storeScan_spec sc (tickClock s)
  obtain ⟨-, hl, -⟩ := fixed_tickClock s
  have hcount : ∀ v : State, (countDown v).link = v.link := fun v => by
    unfold countDown
    generalize allIdx = l
    refine foldl_keeps (Q := fun t => t.link = v.link) (fun t i ht => ?_) l rfl
    unfold countRecord
    split
    · exact ht
    · dsimp only
      split <;> exact ht
  have hscan : (tickScanned sc s).link = s.link := by
    unfold tickScanned
    rw [hc]
    exact hl
  have hc := hcount (tickScanned sc s)
  rw [tickStart_eq]
  generalize countDown (tickScanned sc s) = w at hc
  obtain ⟨d, ha⟩ := markAppointments_parts w
  obtain ⟨⟨e, hm⟩, -⟩ := markSamples_spec (markAppointments w)
  rw [hm, ha]
  exact hc.trans hscan

/-- The sample of each bound port is due (R46). -/
theorem isDue_markSamples (hb : (s.boundAt p).isSome = true) : (markSamples s).isDue (.sample p) = true := by
  have hm : p ∈ allPorts.filter fun p => (s.boundAt p).isSome := List.mem_filter.mpr ⟨List.mem_finRange p, hb⟩
  unfold markSamples
  dsimp only
  generalize (allPorts.filter fun p => (s.boundAt p).isSome) = l at hm
  refine foldl_each (P := fun q (t : State) => t.isDue (.sample q) = true) (fun t q => ?_) (fun t q q' hq => ?_) l _ p hm
  · rw [isDue_makeDue]; simp
  · rw [isDue_makeDue, hq, Bool.true_or]

/-- A port as the debit pass meets it: its code is stored, its sample is due, and a call kept is that of a test window. -/
theorem tickStart_port (hb : s.boundAt p = some i) (hr : s.rec? i = some r) (sc : Scan) :
    (tickStart sc s).cells[p] = { s.cells[p] with lastScan := sc.codes[p].toNat } ∧
      (tickStart sc s).isDue (.sample p) = true ∧
      (p ∈ (tickStart sc s).tick.calls → ∃ x, r.test = some x ∧ x.phase = .window) := by
  obtain ⟨hslots, -, -, -, -, hunscanned⟩ := tickScanned_keeps sc s
  have hcell : (tickScanned sc s).cells[p] = { s.cells[p] with lastScan := sc.codes[p].toNat } := by
    obtain ⟨-, hscan, -⟩ := storeScan_spec sc (tickClock s)
    have := eq_withScan (hunscanned p)
    rw [show (tickScanned sc s).cells[p].lastScan = _ from hscan p] at this
    exact this
  have hk := (countDown_keeps (tickScanned sc s)).1
  have hrec := (countDown_at (s := tickScanned sc s) ((rec?_congr hslots i).trans hr)).1
  have hros : (tickStart sc s).roster = s.roster := by
    obtain ⟨k, hk⟩ := fixed_tickStart sc s
    generalize tickStart sc s = w at hk
    exact (congrArg Fixed.roster hk :)
  have hbt := boundAt_of_roster hros p
  rw [tickStart_eq] at hbt ⊢
  generalize countDown (tickScanned sc s) = w at *
  obtain ⟨d, ha⟩ := markAppointments_parts w
  have hmark : (markAppointments w).slots = w.slots := by rw [ha]
  have hcells : (markAppointments w).cells = w.cells := by rw [ha]
  generalize markAppointments w = v at *
  obtain ⟨⟨e, hm⟩, -⟩ := markSamples_spec v
  have hrm : (markSamples v).roster = v.roster := by
    rw [hm]
    rfl
  have hbv : v.boundAt p = some i := by rw [← boundAt_of_roster hrm p, hbt, hb]
  refine ⟨?_, isDue_markSamples (by rw [hbv]; rfl), ?_⟩
  · rw [hm]
    show v.cells[p] = _
    rw [hcells, hk, hcell]
  · rw [hm]
    intro hp
    have hin := (List.mem_filter.mp hp).2
    unfold State.callInWindow at hin
    rw [hbv, Option.any_some, Bool.and_eq_true] at hin
    have hw := hin.2
    unfold State.testInWindow at hw
    rw [rec?_congr hmark, hrec, Option.bind_some] at hw
    revert hw
    cases hx : r.test with
    | none => simp
    | some x => simp

/-! ### The debit pass -/

/-- A record whose allowance outlasts the code through the debit pass, and its port (R67, R68). -/
theorem debitPass_spot (hb : s.boundAt p = some i) (hr : s.rec? i = some r) (hq : i ∉ s.arbiter.queue)
    (hn : r.st = .fed → sc.codes[p].toNat < r.allowance) :
    s.SameSpot p (debitPass sc s) ∧ i ∉ (debitPass sc s).arbiter.queue ∧
      ∃ a, (debitPass sc s).rec? i = some { r with allowance := a } := by
  have hl : allPorts.Nodup := List.nodup_finRange 48
  have hm : p ∈ allPorts := List.mem_finRange p
  have hother : ∀ (t : State) (q : Port), q ≠ p → t.portOf i = some p → debitPort sc t q = t ∨
      ∃ j, j ≠ i ∧ t.portOf j ≠ some p ∧ t.Spares j (debitPort sc t q) := fun t q hq hp => by
    obtain h | ⟨j, hj, -, h⟩ := debitPort_spares sc t q
    · exact .inl h
    · have hjq : t.portOf j = some q := portOf_of_boundAt hj
      exact .inr ⟨j, fun hji => hq (Option.some.inj (hjq.symm.trans (hji ▸ hp))),
        fun hjp => hq (Option.some.inj (hjq.symm.trans hjp)), h⟩
  -- the record's own debit does not lapse it
  have hown : ∀ t : State, t.boundAt p = some i → t.rec? i = some r → debitPort sc t p = t ∨
      debitPort sc t p = updRec i (Record.debited sc.codes[p].toNat) t := fun t htb htr => by
    unfold debitPort
    rw [htb]
    dsimp only
    split
    · next hc =>
      have hst : r.st = .fed := by
        have := (Bool.and_eq_true_iff.mp hc).1
        simpa [State.isIn, State.stOf, htr] using this
      have hu : (updRec i (Record.debited sc.codes[p].toNat) t).rec? i = some (r.debited sc.codes[p].toNat) := by
        rw [rec?_updRec_self, htr]; rfl
      have hpos : ¬(r.debited sc.codes[p].toNat).allowance = 0 := Nat.sub_ne_zero_of_lt (hn hst)
      refine .inr (if_neg ?_)
      show ¬((updRec i (Record.debited sc.codes[p].toNat) t).rec? i).any _ = true
      rw [hu, Option.any_some, decide_eq_false hpos]
      decide
    · exact .inl rfl
  unfold debitPass
  generalize allPorts = l at hl hm
  refine foldl_through
    (Q := fun t => t.boundAt p = some i ∧ t.rec? i = some r ∧ s.SameSpot p t ∧ i ∉ t.arbiter.queue)
    (R := fun t => s.SameSpot p t ∧ i ∉ t.arbiter.queue ∧ ∃ a, t.rec? i = some { r with allowance := a })
    (fun t q hqp ⟨htb, htr, hts, htq⟩ => ?_) (fun t ⟨htb, htr, hts, htq⟩ => ?_)
    (fun t q hqp ⟨hts, htq, a, hta⟩ => ?_) hl hm ⟨hb, hr, .refl p s, hq⟩
  · obtain h | ⟨j, hji, hjp, h⟩ := hother t q hqp (portOf_of_boundAt htb)
    · rw [h]; exact ⟨htb, htr, hts, htq⟩
    · exact ⟨(h.boundAt p).trans htb, (h.slot i hji.symm).trans htr, hts.trans (h.sameSpot (cargo_debitPort ..) hjp),
        h.waits i hji.symm htq⟩
  · obtain h | h := hown t htb htr
    · rw [h]; exact ⟨hts, htq, r.allowance, htr⟩
    · have hq' : (updRec i (Record.debited sc.codes[p].toNat) t).arbiter = t.arbiter := by
        unfold updRec
        split <;> rfl
      rw [h]
      refine ⟨hts.trans ⟨cell_congr (cells_updRec ..) p, engagedOn_congr (by rw [ties_updRec]) p, isDue_updRec ..⟩,
        by rw [hq']; exact htq, _, (rec?_updRec_self ..).trans (congrArg _ htr)⟩
  · have hp : t.portOf i = some p := by
      have := portOf_of_boundAt hb
      rw [State.portOf, hr] at this
      rw [State.portOf, hta]
      exact this
    obtain h | ⟨j, hji, hjp, h⟩ := hother t q hqp hp
    · rw [h]; exact ⟨hts, htq, a, hta⟩
    · exact ⟨hts.trans (h.sameSpot (cargo_debitPort ..) hjp), h.waits i hji.symm htq, a, (h.slot i hji.symm).trans hta⟩

end Sys2Proof.Machine
end

section
/-! What a tick makes of a bound port's sample (R46, log entry 21). -/

namespace Sys2Proof.Machine

open Sys2Proof

variable {s t u : State} {i : Idx} {p q : Port} {r : Record} {sc : Scan}

/-! ### The samples of a tick -/

/-- What a sample brings is read off its port, the slots and the facts of the tick. -/
theorem sample_congr (h : s.SameSpot p t) (hs : t.slots = s.slots) (ht : t.tick = s.tick) :
    t.sampled p = s.sampled p ∧ t.brings p = s.brings p := by
  have hrec : t.rec? = s.rec? := funext fun i => rec?_congr hs i
  have hb : t.boundAt p = s.boundAt p := by
    have : t.bindsPort p = s.bindsPort p := funext fun i => by unfold State.bindsPort State.portOf; rw [hrec]
    unfold State.boundAt
    rw [this]
  have ha : t.admittedOf = s.admittedOf := funext fun i => by unfold State.admittedOf; rw [hrec]
  have hd : t.sampled p = s.sampled p := by
    unfold State.sampled State.sampleLevel
    rw [hb, h.cell, h.engineOn, ha, ht]
  refine ⟨hd, funext fun w => ?_⟩
  cases w with
  | settle => simp only [State.brings, h.cell, hd]
  | call => simp only [State.brings, State.recognises, State.callInQ1, h.cell, hd, hb, hrec, ht]
  | overCeiling => simp only [State.brings, h.cell, hd]
  | rampEnd => simp only [State.brings, h.cell, hd]
  | feedRun => simp only [State.brings, h.cell, hd]

/-- A sample of another port leaves the port's sample. -/
theorem sameSpot_lateSample (h : q ≠ p) (late : List Port) (s : State) : s.SameSpot p (lateSample late s q) := by
  obtain he | he := lateSample_counts late s q
  · rw [he]; exact .refl p s
  · rw [he]
    refine ⟨?_, rfl, ?_⟩
    · rw [cells_updCell, if_neg h.symm]
      rfl
    · exact isDue_dropDue_other (fun he => h (Event.sample.inj he).symm) _

theorem slots_lateSample (late : List Port) (s : State) (q : Port) :
    (lateSample late s q).slots = s.slots ∧ (lateSample late s q).tick = s.tick := by
  obtain he | he := lateSample_counts late s q
  · rw [he]; exact ⟨rfl, rfl⟩
  · rw [he]; exact ⟨rfl, rfl⟩

/-- A tick takes a sample that brings no work, and leaves one that does due (log entry 21). -/
theorem late_sample (hd : s.isDue (.sample p) = true) :
    let t := allPorts.foldl (lateSample []) s
    (t.isDue (.sample p) = true ↔ cellWorks.any (s.brings p) = true) ∧
      t.cells[p] = if cellWorks.any (s.brings p) = true then s.cells[p] else s.sampled p := by
  have hl : allPorts.Nodup := List.nodup_finRange 48
  have hm : p ∈ allPorts := List.mem_finRange p
  generalize allPorts = l at hl hm
  refine foldl_through
    (Q := fun t => s.SameSpot p t ∧ t.slots = s.slots ∧ t.tick = s.tick)
    (R := fun t => (t.isDue (.sample p) = true ↔ cellWorks.any (s.brings p) = true) ∧
      t.cells[p] = if cellWorks.any (s.brings p) = true then s.cells[p] else s.sampled p)
    (fun t q hq ⟨h1, h2, h3⟩ => ?_) (fun t ⟨h1, h2, h3⟩ => ?_) (fun t q hq ⟨h1, h2⟩ => ?_) hl hm ⟨.refl p s, rfl, rfl⟩
  · obtain ⟨k2, k3⟩ := slots_lateSample [] t q
    exact ⟨h1.trans (sameSpot_lateSample hq [] t), k2.trans h2, k3.trans h3⟩
  · obtain ⟨hsam, hbr⟩ := sample_congr h1 h2 h3
    have hdt : t.isDue (.sample p) = true := h1.due.trans hd
    have hlate : lateSample [] t p = if cellWorks.any (s.brings p) then t else takeEvent (.sample p) t := by
      unfold lateSample
      rw [hbr]
      rfl
    by_cases hb : cellWorks.any (s.brings p) = true
    · rw [hlate, if_pos hb, if_pos hb]
      exact ⟨iff_of_true hdt hb, h1.cell⟩
    · rw [if_neg hb] at hlate ⊢
      have hgone := isDue_takeEvent_sample hdt
      rw [← hlate] at hgone
      refine ⟨iff_of_false (by rw [hgone]; decide) hb, ?_⟩
      obtain he | he := lateSample_counts [] t p
      · rw [he, hdt] at hgone; cases hgone
      · rw [he, cells_updCell, if_pos rfl, hsam]
  · have hk := sameSpot_lateSample hq [] t
    rw [hk.due, hk.cell]
    exact ⟨h1, h2⟩

/-! ### The tick -/

/-- The part that the samples of a tick meet, of a tick whose order names no event and that stays in its mode. -/
def tickSupplied (sc : Scan) (s : State) : State :=
  finishEvent (tickBilled sc s) (supplyCounts sc (clearNotes (tickBilled sc s)))

theorem exec_tick_plain (hawake : s.inReset = false) (hs : s.agenda.due = [])
    (h : exec (.tick sc {}) s = .next t) (hmode : t.supply.mode = s.supply.mode) :
    t = orderAgenda (allPorts.foldl (lateSample []) (tickSupplied sc s)) := by
  have hu := charged_tickCharged sc {} s
  have hexec : exec (.tick sc {}) s = .next (orderAgenda (allPorts.foldl (lateSample [])
      (finishEvent (tickCharged sc {} s) (supplyTick sc (clearNotes (tickCharged sc {} s)))))) := by
    show Host.Outcome.next (live (tickWork sc {}) s) = _
    rw [live_awake hawake, tickWork_quiet hs]
    rfl
  have ht := Host.Outcome.next.inj (h.symm.trans hexec)
  rw [tickCharged_plain rfl rfl] at ht hu
  unfold tickSupplied
  generalize tickBilled sc s = u at ht hu ⊢
  obtain ⟨hsup, -, -⟩ := charged_supply hs hu
  have hset := settled [] u (supplyTick sc (clearNotes u))
  rw [← ht] at hset
  obtain hc | ⟨m, hm, hne, hc⟩ := supplyTick_cases sc (clearNotes u)
  · rw [ht, hc]
  · rw [settled_supply hset, hc, supply_enterMode hm] at hmode
    rw [hsup] at hne
    exact absurd hmode hne

/-- The sample as the end of a tick meets it: the port as the debit pass met it, and the record but for its countdown and
its allowance. -/
theorem tickSupplied_spot (hs : s.agenda.due = []) (hu : s.UniquePorts) (hb : s.boundAt p = some i)
    (hr : s.rec? i = some r) (hq : i ∉ s.arbiter.queue) (hpend : r.pend = none)
    (hn : r.st = .fed → sc.codes[p].toNat < r.allowance) :
    (tickStart sc s).SameSpot p (tickSupplied sc s) ∧ (tickSupplied sc s).roster = s.roster ∧
      (∃ c a, (tickSupplied sc s).rec? i = some { r with cd := c, allowance := a }) ∧
      (tickSupplied sc s).tick = (tickStart sc s).tick := by
  have hport : ∀ {v : State}, v.roster = s.roster → ∀ j, j ≠ i → v.portOf j ≠ some p := fun hv j hj hjp =>
    hj (hu j i p ((portOf_congr hv j).symm.trans hjp) (portOf_of_boundAt hb))
  obtain ⟨hrec, -⟩ := tickStart_rec hs hr sc
  have harb := (tickStart_keeps sc s).1
  have hros : (tickStart sc s).roster = s.roster := by
    obtain ⟨k, hk⟩ := fixed_tickStart sc s
    generalize tickStart sc s = w at hk
    exact (congrArg Fixed.roster hk :)
  unfold tickSupplied tickBilled
  generalize tickStart sc s = w at *
  -- the debit pass and its end
  have hbw : (clearNotes w).boundAt p = some i := (boundAt_of_roster hros p).trans hb
  obtain ⟨hspot, hqd, a, hrd⟩ := debitPass_spot (sc := sc) (s := clearNotes w) hbw hrec
    (by rw [show (clearNotes w).arbiter = _ from harb]; exact hq) hn
  have hfd := fixed_debitPass sc (clearNotes w)
  generalize debitPass sc (clearNotes w) = d at *
  have hrosd : d.roster = s.roster := (roster_of_fixed (t := d) (s := w) hfd).trans hros
  have hpd : (d.rec? i).bind (·.pend) = none := by rw [hrd]; exact hpend
  have hclear : w.SameSpot p (clearNotes w) := ⟨rfl, rfl, rfl⟩
  have hspot1 := (hclear.trans hspot).trans (sameSpot_finishEvent hqd hpd (hport hrosd) w)
  have hun1 := untouched_finishEvent (t := d) (i := i) (fun _ => .inl hqd) hpd w
  have hf1 : (finishEvent w d).fixed = w.fixed := (fixed_finishEvent w d).trans hfd
  generalize finishEvent w d = u at *
  -- the counts of the supply controller and their end
  obtain ⟨e, he⟩ := supplyCounts_parts sc (clearNotes u)
  have hspotc : u.SameSpot p (supplyCounts sc (clearNotes u)) := by
    refine ⟨?_, ?_, ?_⟩
    · rw [he]; rfl
    · rw [he]; rfl
    · rw [Bool.eq_iff_iff, isDue_supplyCounts]
      exact or_iff_left id
  have hrecc : (supplyCounts sc (clearNotes u)).rec? i = u.rec? i := by rw [he]; rfl
  have hqc : i ∉ (supplyCounts sc (clearNotes u)).arbiter.queue := by rw [he]; exact hun1.waits hqd
  have hrosc : (supplyCounts sc (clearNotes u)).roster = s.roster := by
    have : (supplyCounts sc (clearNotes u)).roster = u.roster := by rw [he]; rfl
    rw [this, roster_of_fixed hf1, hros]
  have htickc : (supplyCounts sc (clearNotes u)).tick = w.tick := by
    rw [he]
    exact (congrArg Fixed.facts hf1 :)
  generalize supplyCounts sc (clearNotes u) = v at *
  have hpv : (v.rec? i).bind (·.pend) = none := by rw [hrecc, hun1.slot]; exact hpd
  have hun2 := untouched_finishEvent (t := v) (i := i) (fun _ => .inl hqc) hpv u
  have hf2 := fixed_finishEvent u v
  refine ⟨(hspot1.trans hspotc).trans (sameSpot_finishEvent hqc hpv (hport hrosc) u),
    (roster_of_fixed hf2).trans hrosc, ⟨r.cd.counted, a, ?_⟩, ?_⟩
  · rw [hun2.slot, hrecc, hun1.slot, hrd]
  · exact (congrArg Fixed.facts hf2 :).trans htickc

/-- A bound port's sample in a tick whose order names no event, where the record is not one of those that the tick lapses,
admits or takes for an exchange. -/
theorem tick_sample (hawake : s.inReset = false) (hs : s.agenda.due = []) (hu : s.UniquePorts) (hb : s.boundAt p = some i)
    (hr : s.rec? i = some r) (hq : i ∉ s.arbiter.queue) (hpend : r.pend = none)
    (hn : r.st = .fed → sc.codes[p].toNat < r.allowance) (h : exec (.tick sc {}) s = .next t)
    (hmode : t.supply.mode = s.supply.mode) :
    let c := s.cells[p]
    let v := sc.codes[p].toNat
    ∃ d, c.Counts (sampleReads c.drive (decide (p ∈ t.tick.spaces)) sc.bias[p] v) (s.engineOn p).isSome
        (r.admitted.getD 0) v d ∧
      (t.isDue (.sample p) = true ↔ c.Brings d) ∧ (¬c.Brings d → t.cells[p] = d) ∧
      (c.Brings d → t.cells[p] = { c with lastScan := v }) := by
  intro c v
  obtain ⟨hcell, hdue, hcalls⟩ := tickStart_port hb hr sc
  have heng : (tickStart sc s).engineOn p = s.engineOn p := by
    have hl := link_tickStart sc s
    have : (tickStart sc s).engagedOn p = s.engagedOn p := funext fun e => by
      unfold State.engagedOn State.engine
      rw [hl]
    unfold State.engineOn
    rw [this]
  obtain ⟨k, hk⟩ := fixed_tickStart sc s
  have htick : (tickStart sc s).tick = ⟨sc.bias, allPorts.filter (s.spaceOn sc), k⟩ := by
    generalize tickStart sc s = w at hk
    exact (congrArg Fixed.facts hk :)
  obtain ⟨hspot, hros, ⟨cd, a, hrec⟩, hfacts⟩ := tickSupplied_spot hs hu hb hr hq hpend hn
  have ht := exec_tick_plain hawake hs h hmode
  generalize tickStart sc s = w at *
  generalize tickSupplied sc s = z at *
  have hzb : z.boundAt p = some i := (boundAt_of_roster hros p).trans hb
  have hzc : z.cells[p] = { c with lastScan := v } := hspot.cell.trans hcell
  have hcounts := counts_sampled hzb hrec hzc
  have hno : z.callInQ1 p = false := by
    unfold State.callInQ1
    rw [hzb, Option.bind_some, hrec, hfacts]
    by_cases hp : p ∈ w.tick.calls
    · obtain ⟨x, hx, hph⟩ := hcalls hp
      simp [hx, hph]
    · simp [hp]
  have hbr := brings_iff hzc hno
  obtain ⟨h1, h2⟩ := late_sample (hspot.due.trans hdue)
  have hlt : (allPorts.foldl (lateSample []) z).tick = z.tick :=
    foldl_keeps (Q := fun t : State => t.tick = z.tick) (fun t q ht => (slots_lateSample [] t q).2.trans ht) _ rfl
  generalize allPorts.foldl (lateSample []) z = y at *
  have htd : t.isDue (.sample p) = true ↔ y.isDue (.sample p) = true := by
    rw [ht, isDue_orderAgenda]
    exact or_iff_left fun he => by cases he.1
  have htc : t.cells[p] = y.cells[p] := by rw [ht]; rfl
  have htt : t.tick = z.tick := by rw [ht]; exact hlt
  rw [hspot.engineOn, heng] at hcounts
  rw [htt, htd, htc, h1, h2]
  have hbias : z.tick.bias = sc.bias := by rw [hfacts, htick]
  rw [hbias] at hcounts
  refine ⟨z.sampled p, hcounts, hbr, fun hn => ?_, fun hy => ?_⟩
  · rw [if_neg (mt hbr.mp hn)]
  · rw [if_pos (hbr.mpr hy), hzc]

end Sys2Proof.Machine
end

section
/-! The sample event by the one work that it brings: RAMP_END, FEED_RUN_COMPLETE and OVER_CEILING_SHED (R49, R54, R63). -/

namespace Sys2Proof.Machine

open Sys2Proof

variable {s t v : State} {i : Idx} {p : Port} {r : Record}

/-! ### The works that a sample does not bring -/

section NoWork

variable {x : Option Reading} {e : Bool} {a n : Nat}

/-- A run below 2 does not settle at its next sample (R57). -/
theorem Cell.Counts.presRun_ne {c d : Cell} (h : c.Counts x e a n d) (hc : c.presRun < 2) : d.presRun ≠ 3 := by
  obtain ⟨-, hnone, hsome, -⟩ := h
  cases x with
  | none => rw [(hnone rfl).2]; omega
  | some y =>
    obtain ⟨h1, h2, h3⟩ := hsome y rfl
    by_cases hy : c.presence = .present ∧ y = .present ∨ c.presence = .absent ∧ y = .absent
    · rw [(h1 hy).2]; omega
    · by_cases hcand : c.cand = some y
      · rw [(h2 hy hcand).2]; omega
      · rw [(h3 hy hcand).2]; omega

theorem brings_settle (h : (s.cells[p]).Counts x e a n (s.sampled p)) (hc : (s.cells[p]).presRun < 2) :
    s.brings p .settle = false := by
  simp [State.brings, h.presRun_ne hc]

theorem brings_call (h : (s.cells[p]).Counts x e a n (s.sampled p)) (hd : (s.cells[p]).drive ≠ .sense)
    (hp : p ∉ s.tick.calls) : s.brings p .call = false := by
  obtain ⟨-, -, -, hcall, -⟩ := h
  obtain ⟨-, -, hheld⟩ := hcall hd
  simp [State.brings, State.recognises, State.callInQ1, hheld, hp]

theorem brings_overCeiling (h : (s.cells[p]).Counts x e a n (s.sampled p)) (hd : (s.cells[p]).drive ≠ .feed) :
    s.brings p .overCeiling = false := by
  obtain ⟨-, -, -, -, -, -, -, -, hfeed⟩ := h
  simp only [State.brings, (hfeed hd).2, decide_eq_false_iff_not]
  omega

theorem brings_feedRun (h : (s.cells[p]).Counts x e a n (s.sampled p)) (hd : (s.cells[p]).drive ≠ .feed) :
    s.brings p .feedRun = false := by
  obtain ⟨-, -, -, -, -, -, -, -, hfeed⟩ := h
  simp only [State.brings, (hfeed hd).1, decide_eq_false_iff_not]
  omega

theorem brings_rampEnd (hd : (s.cells[p]).drive ≠ .ramp) : s.brings p .rampEnd = false :=
  decide_eq_false fun h => hd h.1

end NoWork

/-! ### A due sample -/

/-- The sample of a bound port is due. -/
structure State.DueSample (p : Port) (i : Idx) (r : Record) (s : State) : Prop where
  awake : s.inReset = false
  bound : s.boundAt p = some i
  slot : s.rec? i = some r
  due : s.isDue (.sample p) = true

/-- The state behind the counts of a due sample, ahead of its works. -/
def counted (p : Port) (s : State) : State := updCell p (fun _ => s.sampled p) (sampling p s)

theorem cells_counted (p : Port) (s : State) : (counted p s).cells = s.cells.set p (s.sampled p) := rfl

theorem cell_counted (p : Port) (s : State) : (counted p s).cells[p] = s.sampled p := by
  unfold counted
  rw [cells_updCell, if_pos rfl]

/-- The event of a due sample, by the works that it brings. -/
theorem sample_event (p : Port) (s : State) {l : List CellWork} (hl : cellWorks.filter (s.brings p) = l) :
    finishEvent s (sampleWork p (sampling p s)) = finishEvent s (l.foldl (fun t w => cellWork p w t) (counted p s)) := by
  rw [sampleWork_eq, hl]
  rfl

theorem State.DueSample.counts (h : s.DueSample p i r) : (s.cells[p]).Counts
    (sampleReads (s.cells[p]).drive (decide (p ∈ s.tick.spaces)) s.tick.bias[p] (s.cells[p]).lastScan)
    (s.engineOn p).isSome (r.admitted.getD 0) (s.cells[p]).lastScan (s.sampled p) :=
  counts_sampled h.bound h.slot rfl

/-! ### The end of an event that calls for nothing -/

/-- An event that leaves the slots and what is due, and calls for no decision and no pick, ends with neither. -/
theorem finishEvent_calm (hd : t.agenda.decision = false) (hp : t.agenda.pick = false) (hs : t.slots = s.slots)
    (ho : t.outer = s.outer) (he : ∀ ev : Event, ev.ofTick → (∀ q, ev ≠ .sample q) → t.isDue ev = s.isDue ev) :
    finishEvent s t = clearNotes t := by
  simp only [State.outer, Prod.mk.injEq] at ho
  obtain ⟨hsup, hclock, hsch, -⟩ := ho
  have hrec : ∀ j, t.rec? j = s.rec? j := rec?_congr hs
  have hros : t.roster = s.roster := funext fun j => by unfold State.roster; rw [hrec]
  exact finishEvent_none s t hd hp fun j => held_congr (hrec j) hsup (he _ (ofTick_expiry j) fun _ h => by cases h)
    (he _ ofTick_appointments fun _ h => by cases h) (queryBooked_congr hros hsup hclock hsch j)

theorem isDue_counted {ev : Event} (h : ∀ q, ev ≠ .sample q) (p : Port) (s : State) :
    (counted p s).isDue ev = s.isDue ev := isDue_dropDue_other (h p) _

/-! ### RAMP_END -/

/-- A drive order calls for no pick. -/
theorem pick_orderLevel (p : Port) (n : Nat) (l : Drive) (s : State) :
    (orderLevel p n l s).agenda.pick = s.agenda.pick := by
  have hsend : (sendPartOn p s).agenda.pick = s.agenda.pick := by
    unfold sendPartOn
    split
    · next e _ =>
      obtain h | ⟨g, n, -, -, -, h⟩ := sendPart_cases e s
      · rw [h]
      · rw [h]; exact congrArg Agenda.pick (setEngine_agenda ..)
    · rfl
  have hfail : ∀ (e : Engine) (o : ExOutcome) (u : State),
      (failAttempt e o u).agenda.pick = u.agenda.pick := fun e o u => by
    unfold failAttempt
    split
    · split
      · exact congrArg Agenda.pick (setEngine_agenda ..)
      · show (setEngine e _ u).agenda.pick = _
        rw [setEngine_agenda]
    · rfl
  have hbase : ∀ (e : Engine) (u : State), (takeBaseline e u).agenda.pick = u.agenda.pick := fun e u => by
    unfold takeBaseline
    split
    · exact congrArg Agenda.pick (setEngine_agenda ..)
    · rfl
  unfold orderLevel
  split
  · rfl
  · unfold linkAtLevelChange
    split
    · exact hsend
    · split
      · exact hsend
      · dsimp only
        split
        · rw [hfail, hbase]; exact hsend
        · rw [hbase]; exact hsend

/-- A RAMP count that the sample brings to 0 takes the cell to FEED (R49). -/
theorem sample_rampEnd (h : s.DueSample p i r) (hrun : (s.cells[p]).presRun < 2) (hcalls : p ∉ s.tick.calls)
    (hd : (s.cells[p]).drive = .ramp) (hc : (s.cells[p]).rampCount ≤ 1) {a : Nat} (ha : r.admitted = some a) :
    ∃ t, exec (.rampEnd p) s = .next t ∧ t.slots = s.slots ∧
      t.cells = s.cells.set p (Cell.toFeed a (s.sampled p)) := by
  have hcounts := h.counts
  obtain ⟨⟨hdrive, -⟩, -, -, -, -, hramp, -⟩ := id hcounts
  have hzero : (s.sampled p).rampCount = 0 := by rw [hramp hd]; omega
  have hbr : s.brings p .rampEnd = true := decide_eq_true ⟨hd, hzero⟩
  have hl : cellWorks.filter (s.brings p) = [.rampEnd] := by
    simp [cellWorks, List.filter, brings_settle hcounts hrun, brings_call hcounts (by rw [hd]; decide) hcalls,
      brings_overCeiling hcounts (by rw [hd]; decide), brings_feedRun hcounts (by rw [hd]; decide), hbr]
  have hadm : (counted p s).admittedOf i = a := by
    show (match s.rec? i with | some r => r.admitted.getD 0 | none => 0) = a
    rw [h.slot]
    simp [ha]
  have hwork : rampWork p (counted p s) = orderLevel p a .feed (counted p s) := by
    unfold rampWork
    rw [cell_counted, if_pos ⟨hdrive.trans hd, hzero⟩, show (counted p s).boundAt p = some i from h.bound]
    dsimp only
    rw [hadm]
  have hcells : (orderLevel p a .feed (counted p s)).cells = s.cells.set p (Cell.toFeed a (s.sampled p)) := by
    have hcd : (counted p s).cells[p].drive ≠ .feed := by rw [cell_counted, hdrive, hd]; decide
    have hsend : (updCell p (Cell.toLevel a .feed) (sendPartOn p (counted p s))).cells =
        (s.cells.set p (s.sampled p)).set p (Cell.toLevel a .feed (s.sampled p)) := by
      show (sendPartOn p (counted p s)).cells.set p _ = _
      rw [cells_sendPartOn, cell_counted]
      rfl
    unfold orderLevel
    rw [if_neg hcd, cells_linkAtLevelChange, hsend, Vector.set_set]
    unfold Cell.toLevel
    rw [if_neg (by rw [hdrive, hd]; decide)]
  have hcalm := finishEvent_calm (s := s) (t := orderLevel p a .feed (counted p s))
    ((congrArg Ties.decision (ties_orderLevel p a .feed (counted p s)) :)) (pick_orderLevel ..) (slots_orderLevel ..)
    (outer_orderLevel ..) fun ev he hs => (isDue_orderLevel he ..).trans (isDue_counted hs p s)
  refine ⟨clearNotes (orderLevel p a .feed (counted p s)), ?_, slots_orderLevel p a .feed (counted p s), hcells⟩
  show Host.Outcome.next (live _ s) = _
  rw [live_awake h.awake, takeSample_brings hbr h.due, sample_event p s hl, ← hcalm, ← hwork]
  rfl

/-! ### FEED_RUN_COMPLETE -/

theorem feedRunWork_cases (p : Port) (s : State) :
    feedRunWork p s = s ∨ feedRunWork p s = updCell p (fun c => { c with faultCount := 0 }) s := by
  unfold feedRunWork
  dsimp only
  split
  · exact .inr rfl
  · exact .inl rfl

/-- A FEED run that the sample brings to 600 zeroes the fault count (R54). -/
theorem sample_feedRun (h : s.DueSample p i r) (hrun : (s.cells[p]).presRun < 2) (hcalls : p ∉ s.tick.calls)
    (hd : (s.cells[p]).drive = .feed) (hc : (s.cells[p]).feedRun = 599)
    (ho : (s.cells[p]).overRun ≠ 2 ∨ (s.cells[p]).lastScan ≤ r.admitted.getD 0) :
    ∃ t, exec (.feedRunComplete p) s = .next t ∧ t.slots = s.slots ∧
      t.cells = s.cells.set p { s.sampled p with faultCount := 0 } := by
  have hcounts := h.counts
  obtain ⟨⟨hdrive, -⟩, -, -, -, -, -, -, hfeed, -⟩ := id hcounts
  obtain ⟨hfull, hover⟩ := hfeed hd
  have hfull : (s.sampled p).feedRun = 600 := by rw [hfull, hc]; rfl
  have hbr : s.brings p .feedRun = true := decide_eq_true ⟨by rw [hc]; decide, hfull⟩
  have hno : s.brings p .overCeiling = false := by
    simp only [State.brings, decide_eq_false_iff_not, hover]
    split
    · omega
    · omega
  have hl : cellWorks.filter (s.brings p) = [.feedRun] := by
    simp [cellWorks, List.filter, brings_settle hcounts hrun, brings_call hcounts (by rw [hd]; decide) hcalls,
      hno, brings_rampEnd (s := s) (p := p) (by rw [hd]; decide), hbr]
  have hwork : feedRunWork p (counted p s) = updCell p (fun c => { c with faultCount := 0 }) (counted p s) := by
    unfold feedRunWork
    rw [cell_counted, if_pos ⟨hfull, hdrive.trans hd⟩]
  have hcalm := finishEvent_calm (s := s) (t := updCell p (fun c => { c with faultCount := 0 }) (counted p s))
    rfl rfl rfl rfl fun ev he hs => isDue_counted hs p s
  refine ⟨clearNotes (updCell p (fun c => { c with faultCount := 0 }) (counted p s)), ?_, rfl, ?_⟩
  · show Host.Outcome.next (live _ s) = _
    rw [live_awake h.awake, takeSample_brings hbr h.due, sample_event p s hl, ← hcalm, ← hwork]
    rfl
  · show ((counted p s).cells.set p { (counted p s).cells[p] with faultCount := 0 }) = _
    rw [cell_counted, cells_counted, Vector.set_set]

/-! ### OVER_CEILING_SHED -/

theorem State.Within.counted (p : Port) (i : Idx) (s : State) : s.Within i {p} (Machine.counted p s) := by
  have hs : s.Within i {p} (sampling p s) := State.Within.of_frame (frame_dropDue (by rfl) _) rfl
  exact hs.trans (.updCell (Set.mem_singleton p) _ _)

/-- What is kept of the rest of the part where a sample's works stay with the record and its port. -/
theorem State.DueSample.restKept (h : s.DueSample p i r) (hv : (Machine.counted p s).Within i {p} v) :
    s.RestKept i (finishEvent s v) := by
  have hport := portOf_of_boundAt h.bound
  exact restKept_of_frame (frame_finishEvent s v) (((State.Within.counted p i s).trans hv).restKept fun x hx => .inl (by
    rwa [Set.mem_singleton_iff.mp hx]))

/-- An over-ceiling run of 3 asks for a SHED, unless the load level is 3 (R63). A FEED run of the same sample zeroes the
fault count behind it. -/
theorem sample_overCeiling (h : s.DueSample p i r) (hrun : (s.cells[p]).presRun < 2) (hcalls : p ∉ s.tick.calls)
    (hd : (s.cells[p]).drive = .feed) (hc : (s.cells[p]).overRun = 2) (ho : r.admitted.getD 0 < (s.cells[p]).lastScan) :
    ∃ t, exec (.overCeilingShed p) s = .next t ∧ s.RestKept i t ∧ (r.load = some 3 → t.slots = s.slots) ∧
      (r.load ≠ some 3 → t.Holds i .shed (min 3 (max (r.load.getD 0) (s.cfg.policy r.cls).shedLevel + 1))) := by
  have hcounts := h.counts
  obtain ⟨⟨hdrive, -⟩, -, -, -, -, -, -, hfeed, -⟩ := id hcounts
  obtain ⟨-, hover⟩ := hfeed hd
  have hover : (s.sampled p).overRun = 3 := by rw [hover, if_pos ho, hc]; rfl
  have hbr : s.brings p .overCeiling = true := decide_eq_true ⟨by rw [hc]; decide, hover⟩
  have hl : ∃ l : List CellWork, (∀ w ∈ l, w = .feedRun) ∧ cellWorks.filter (s.brings p) = .overCeiling :: l := by
    refine ⟨[CellWork.feedRun].filter (s.brings p), fun w hw => List.mem_singleton.mp (List.mem_of_mem_filter hw), ?_⟩
    simp [cellWorks, List.filter, brings_settle hcounts hrun, brings_call hcounts (by rw [hd]; decide) hcalls,
      brings_rampEnd (s := s) (p := p) (by rw [hd]; decide), hbr]
  obtain ⟨l, hfeeds, hl⟩ := hl
  have hbound : (counted p s).boundAt p = some i := h.bound
  have hrec : (counted p s).rec? i = some r := h.slot
  have hwork : overWork p (counted p s) = if r.load = some 3 then counted p s
      else ask i ⟨.shed, overShedLevel r.load (s.cfg.policy r.cls).shedLevel, .policy⟩ (counted p s) := by
    unfold overWork
    rw [cell_counted, if_pos ⟨hover, hdrive.trans hd⟩, hbound]
    dsimp only
    rw [hrec]
    rfl
  have hexec : exec (.overCeilingShed p) s = .next (finishEvent s (l.foldl (fun t w => cellWork p w t)
      (overWork p (counted p s)))) := by
    show Host.Outcome.next (live _ s) = _
    rw [live_awake h.awake, takeSample_brings hbr h.due, sample_event p s hl]
    rfl
  -- the FEED run behind the SHED touches the cell alone
  have hrest : ∀ u : State, ∃ c, l.foldl (fun t w => cellWork p w t) u = { u with cells := c } ∧
      u.Within i {p} (l.foldl (fun t w => cellWork p w t) u) := fun u => by
    refine List.foldlRecOn (motive := fun t => ∃ c, t = { u with cells := c } ∧ u.Within i {p} t) l _
      ⟨u.cells, rfl, .refl i _ u⟩ fun t ⟨c, ht, hw⟩ w hmem => ?_
    have hfw : cellWork p w t = feedRunWork p t := by rw [hfeeds w hmem]; rfl
    rw [hfw]
    obtain hf | hf := feedRunWork_cases p t
    · rw [hf]; exact ⟨c, ht, hw⟩
    · rw [hf]; exact ⟨_, by rw [ht]; rfl, hw.trans (.updCell (Set.mem_singleton p) _ _)⟩
  refine ⟨_, hexec, ?_, fun hload => ?_, fun hload => ?_⟩
  · obtain ⟨c, -, hw⟩ := hrest (overWork p (counted p s))
    refine h.restKept (State.Within.trans ?_ hw)
    rw [hwork]
    split
    · exact .refl i _ _
    · exact .ask _ _
  · rw [hwork, if_pos hload]
    obtain ⟨c, hu, -⟩ := hrest (counted p s)
    rw [hu]
    rw [finishEvent_calm (s := s) (t := { counted p s with cells := c }) rfl rfl rfl rfl
      fun ev _ hs => isDue_counted hs p s]
    rfl
  · rw [hwork, if_neg hload]
    have hholds := holds_ask hrec (x := ⟨.shed, overShedLevel r.load (s.cfg.policy r.cls).shedLevel, .policy⟩)
      (by exact ExKind.noConfusion)
    have hdec : (ask i ⟨.shed, overShedLevel r.load (s.cfg.policy r.cls).shedLevel, .policy⟩
        (counted p s)).agenda.decision = false := by
      obtain ht | ht := ties_ask i ⟨.shed, overShedLevel r.load (s.cfg.policy r.cls).shedLevel, .policy⟩ (counted p s)
      · exact (congrArg Ties.decision ht :)
      · exact (congrArg Ties.decision ht :)
    generalize ask i _ (counted p s) = v at hholds hdec
    obtain ⟨c, hu, -⟩ := hrest v
    rw [hu]
    have hno : ∀ {P : Prop}, ({ v with cells := c } : State).agenda.decision = true → P := fun hd' => by
      rw [show ({ v with cells := c } : State).agenda = v.agenda from rfl, hdec] at hd'
      cases hd'
    exact (steady_finishEvent hno s).holds _ _ hholds

end Sys2Proof.Machine
end

section
/-! CALL_PULSE: a recognised call on a record that holds no test in its window (R61, R62, R172). -/

namespace Sys2Proof.Machine

open Sys2Proof

variable {s t v : State} {i : Idx} {p : Port} {r : Record}

/-! ### The works of a sample under the bias -/

/-- A raised sample behind a raised one recognises a call (R61). -/
theorem recognises_call (h : s.DueSample p i r) (hd : (s.cells[p]).drive = .sense) (he : s.engineOn p = none)
    (hh : (s.cells[p]).callHeld = false) (hc : 0 < (s.cells[p]).callRun) {b : Nat} (hb : (s.cells[p]).callBase = some b)
    (hv : b + 4 ≤ (s.cells[p]).lastScan) : (s.sampled p).callHeld = true ∧ s.brings p .call = true := by
  obtain ⟨-, -, -, -, hsense, -⟩ := h.counts
  obtain ⟨-, hfree⟩ := hsense hd
  obtain ⟨-, hbase⟩ := hfree (by rw [he]; rfl)
  obtain ⟨-, hraised⟩ := hbase b hb
  obtain ⟨-, -, -, hcall⟩ := hraised hv
  have hheld := (hcall hh hc).2
  refine ⟨hheld, ?_⟩
  simp only [State.brings, State.recognises, hheld, Bool.and_true, Bool.or_eq_true, Bool.not_eq_true']
  exact .inl hh

/-- A call under the bias that comes with no settle is the one work of its sample. -/
theorem exec_callPulse (h : s.DueSample p i r) (hd : (s.cells[p]).drive = .sense) (hrun : (s.cells[p]).presRun < 2)
    (hbr : s.brings p .call = true) :
    exec (.callPulse p) s = .next (finishEvent s (callEffect i (counted p s))) := by
  have hcounts := h.counts
  have hl : cellWorks.filter (s.brings p) = [.call] := by
    simp [cellWorks, List.filter, brings_settle hcounts hrun, brings_overCeiling hcounts (by rw [hd]; decide),
      brings_rampEnd (s := s) (p := p) (by rw [hd]; decide), brings_feedRun hcounts (by rw [hd]; decide), hbr]
  have hwork : callWork p (counted p s) = callEffect i (counted p s) := by
    unfold callWork
    rw [show (counted p s).boundAt p = some i from h.bound]
  show Host.Outcome.next (live _ s) = _
  rw [live_awake h.awake, takeSample_brings hbr h.due, sample_event p s hl, ← hwork]
  rfl

/-! ### The record of a call -/

/-- CALL is set, and is a repeat where it was set before (R25, R62). -/
def Record.Called (r q : Record) : Prop := q.has .call = true ∧ (r.has .call = true → q.rep = true)

theorem called_raise (r : Record) : r.Called (r.raise .call) := by
  refine ⟨has_raise .call r, fun h => ?_⟩
  unfold Record.raise
  rw [if_pos h]

theorem Record.Called.congr {q q' : Record} (h : r.Called q) (hf : q'.flags = q.flags) (hr : q'.rep = q.rep) :
    r.Called q' := by
  unfold Record.Called Record.has at h ⊢
  rw [hf, hr]
  exact h

theorem rep_raise {f : RecFlag} (h : r.rep = true) : (r.raise f).rep = true := by
  unfold Record.raise
  split
  · rfl
  · exact h

theorem Record.Called.raise {q : Record} (h : r.Called q) (f : RecFlag) : r.Called (q.raise f) :=
  ⟨has_raise_of_has h.1, fun hr => rep_raise (h.2 hr)⟩

/-- What a call does to the record, by its state (R62), a test in its window apart. -/
structure State.Calls (i : Idx) (r q : Record) (t : State) : Prop where
  called : r.Called q
  resting : r.st = .resting → q.st = .carrying ∧ t.HoldsQuery i
  serving : r.st = .carrying ∨ r.st = .waiting ∨ r.st = .lapsed → q.st = r.st ∧ t.HoldsQuery i
  silent : r.st = .silent → q.st = .waking ∧ t.Holds i .wake 0
  waking : r.st = .waking → q.st = .waking
  testing : r.st = .testing → q.st = .testing ∧ q.test = r.test ∧ q.cd = r.cd

/-- The end of an event keeps that. -/
theorem State.Calls.finish {q : Record} (h : t.Calls i r q) (hq : t.rec? i = some q) (hd : t.agenda.decision = false)
    (b : State) : ∃ q', (finishEvent b t).rec? i = some q' ∧ (finishEvent b t).Calls i r q' := by
  have hsteady := steady_finishEvent (t := t) (i := i) (fun hd' => by rw [hd] at hd'; cases hd') b
  obtain ⟨q', hq', hu⟩ := hsteady.record hq
  have hst : q'.st = q.st := (congrArg Record.st hu :)
  have htest : q'.test = q.test := (congrArg Record.test hu :)
  have hcd : q'.cd = q.cd := (congrArg Record.cd hu :)
  refine ⟨q', hq', h.called.congr (congrArg Record.flags hu :) (congrArg Record.rep hu :), fun hr => ?_, fun hr => ?_,
    fun hr => ?_, fun hr => ?_, fun hr => ?_⟩
  · exact ⟨hst.trans (h.resting hr).1, hsteady.holdsQuery (h.resting hr).2⟩
  · exact ⟨hst.trans (h.serving hr).1, hsteady.holdsQuery (h.serving hr).2⟩
  · exact ⟨hst.trans (h.silent hr).1, hsteady.holds _ _ (h.silent hr).2⟩
  · exact hst.trans (h.waking hr)
  · rw [hst, htest, hcd]; exact h.testing hr

/-! ### The effect -/

theorem decision_enter {st : RState} (h : st ≠ .faulted) (i : Idx) (s : State) :
    (enter st i s).agenda.decision = s.agenda.decision := (congrArg Ties.decision (ties_enter h i s) :)

theorem decision_raiseFlag (i : Idx) (f : RecFlag) (s : State) :
    (raiseFlag i f s).agenda.decision = s.agenda.decision := (congrArg Ties.decision (ties_raiseFlag i f s) :)

/-- A call, but for a test in its window (R62). -/
theorem callEffect_calls (hr : s.rec? i = some r) (ht : r.st = .testing → s.testInWindow i = false) (P : Set Port) :
    ∃ q, (callEffect i s).rec? i = some q ∧ (callEffect i s).Calls i r q ∧
      (callEffect i s).agenda.decision = s.agenda.decision ∧ s.Within i P (callEffect i s) := by
  have hu : (raiseFlag i .call s).rec? i = some (r.raise .call) := (rec?_updRec_self ..).trans (congrArg _ hr)
  have hwin : (raiseFlag i .call s).testInWindow i = s.testInWindow i := by
    obtain ⟨x, y, he⟩ := raise_eq .call r
    unfold State.testInWindow
    rw [hu, hr, he]
    rfl
  have hcalled := called_raise r
  have hd := decision_raiseFlag i .call s
  have hw : s.Within i P (raiseFlag i .call s) := .updRec (Record.raise .call) s
  obtain ⟨x, y, he⟩ := raise_eq .call r
  rw [he] at hu hcalled
  have hst : (raiseFlag i .call s).stOf i = some r.st := (stOf_rec hu :)
  unfold callEffect
  dsimp only
  generalize raiseFlag i .call s = u at *
  rw [hst]
  -- a QUERY asked for of a record that the call has already moved, or that it leaves where it is
  have query : ∀ w : State, ∀ q, w.rec? i = some q →
      ∃ z, (ask i ⟨.query, 0, .policy⟩ w).rec? i = some { q with pend := z } ∧
      (ask i ⟨.query, 0, .policy⟩ w).HoldsQuery i := fun w q hq => by
    obtain ⟨z, hz⟩ := rec?_ask hq ⟨.query, 0, .policy⟩
    exact ⟨z, hz, holdsQuery_ask hq⟩
  have stays : ∀ {x : RState}, r.st = x → (x = .carrying ∨ x = .waiting ∨ x = .lapsed) →
      ∃ q, (ask i ⟨.query, 0, .policy⟩ u).rec? i = some q ∧ (ask i ⟨.query, 0, .policy⟩ u).Calls i r q ∧
        (ask i ⟨.query, 0, .policy⟩ u).agenda.decision = s.agenda.decision ∧
        s.Within i P (ask i ⟨.query, 0, .policy⟩ u) := fun {x} hrst hx => by
    obtain ⟨z, hz, hq⟩ := query u _ hu
    refine ⟨_, hz, ⟨hcalled.congr rfl rfl, ?_, fun _ => ⟨rfl, hq⟩, ?_, ?_, ?_⟩, (decision_ask ..).trans hd,
      hw.trans (.ask _ u)⟩
    all_goals rcases hx with rfl | rfl | rfl <;> simp [hrst]
  have only : ∀ {x : RState}, r.st = x → (x = .idle ∨ x = .fed ∨ x = .faulted) → ∃ q, u.rec? i = some q ∧
      u.Calls i r q ∧ u.agenda.decision = s.agenda.decision ∧ s.Within i P u := fun {x} hrst hx => by
    refine ⟨_, hu, ⟨hcalled, ?_, ?_, ?_, ?_, ?_⟩, hd, hw⟩
    all_goals rcases hx with rfl | rfl | rfl <;> simp [hrst]
  cases hrst : r.st with
  | carrying => exact stays hrst (by decide)
  | waiting => exact stays hrst (by decide)
  | lapsed => exact stays hrst (by decide)
  | resting =>
    have hne : r.st ≠ .carrying := by rw [hrst]; decide
    obtain ⟨z, hz, hq⟩ := query _ _ (rec?_enterState hu false (st := .carrying) hne (by decide))
    exact ⟨_, hz, ⟨hcalled.congr rfl rfl, fun _ => ⟨rfl, hq⟩, by simp [hrst], by simp [hrst], by simp [hrst],
      by simp [hrst]⟩, ((decision_ask ..).trans (decision_enter (by decide) i u)).trans hd,
      (hw.trans (.enter (by decide) u)).trans (.ask _ _)⟩
  | silent =>
    have hne : r.st ≠ .waking := by rw [hrst]; decide
    have hwk := rec?_enterState hu false (st := .waking) hne (by decide)
    obtain ⟨z, hz⟩ := rec?_ask hwk ⟨.wake, 0, .policy⟩
    have hh := holds_ask hwk (x := ⟨.wake, 0, .policy⟩) (by decide)
    exact ⟨_, hz, ⟨hcalled.congr rfl rfl, by simp [hrst], by simp [hrst], fun _ => ⟨rfl, hh⟩, by simp [hrst],
      by simp [hrst]⟩, ((decision_ask ..).trans (decision_enter (by decide) i u)).trans hd,
      (hw.trans (.enter (by decide) u)).trans (.ask _ _)⟩
  | testing =>
    dsimp only
    rw [hwin, ht hrst, if_neg Bool.false_ne_true]
    exact ⟨_, hu, ⟨hcalled, by simp [hrst], by simp [hrst], by simp [hrst], by simp [hrst],
      fun _ => ⟨hrst, rfl, rfl⟩⟩, hd, hw⟩
  | waking =>
    exact ⟨_, hu, ⟨hcalled, by simp [hrst], by simp [hrst], by simp [hrst], fun _ => hrst, by simp [hrst]⟩, hd, hw⟩
  | idle => exact only hrst (by decide)
  | fed => exact only hrst (by decide)
  | faulted => exact only hrst (by decide)

/-- CALL_PULSE on a record that holds no test in its window. -/
theorem sample_call (h : s.DueSample p i r) (hd : (s.cells[p]).drive = .sense) (hrun : (s.cells[p]).presRun < 2)
    (hbr : s.brings p .call = true) (ht : r.st = .testing → s.testInWindow i = false) :
    ∃ t q, exec (.callPulse p) s = .next t ∧ t.rec? i = some q ∧ t.Calls i r q ∧ s.RestKept i t := by
  obtain ⟨q, hq, hc, hdec, hw⟩ := callEffect_calls (s := counted p s) (r := r) h.slot ht {p}
  obtain ⟨q', hq', hc'⟩ := hc.finish hq (hdec.trans rfl) s
  exact ⟨_, q', exec_callPulse h hd hrun hbr, hq', hc', h.restKept hw⟩

end Sys2Proof.Machine
end

section
/-! CALL_PULSE on a record in a test window: the test is abandoned and the record wants feed again (R62, R170). -/

namespace Sys2Proof.Machine

open Sys2Proof

variable {s t v : State} {i j : Idx} {p : Port} {r : Record}

/-! ### The record through the abandonment -/

/-- CALL is set, and TESTED with the outcome ABANDONED (R26, R62). -/
def Record.Abandoned (r q : Record) : Prop :=
  r.Called q ∧ q.has .tested = true ∧ q.testOutcome = some .abandoned

theorem Record.Abandoned.congr {q q' : Record} (h : r.Abandoned q) (hf : q'.flags = q.flags) (hr : q'.rep = q.rep)
    (ho : q'.testOutcome = q.testOutcome) : r.Abandoned q' := by
  obtain ⟨h1, h2, h3⟩ := h
  refine ⟨h1.congr hf hr, ?_, ho.trans h3⟩
  unfold Record.has at h2 ⊢
  rw [hf]
  exact h2

theorem Record.Abandoned.raise {q : Record} (h : r.Abandoned q) (f : RecFlag) : r.Abandoned (q.raise f) := by
  obtain ⟨h1, h2, h3⟩ := h
  refine ⟨h1.raise f, has_raise_of_has h2, ?_⟩
  obtain ⟨x, y, he⟩ := raise_eq f q
  rw [he]
  exact h3

theorem Record.Called.tested {q : Record} (h : r.Called q) : r.Abandoned (q.tested .abandoned) :=
  ⟨(h.raise .tested).congr rfl rfl, has_raise .tested q, rfl⟩

/-- The record's test is abandoned, and it has left its state. -/
def State.Left (i : Idx) (r : Record) (s : State) : Prop :=
  ∃ q, s.rec? i = some q ∧ r.Abandoned q ∧ q.st ≠ .testing

namespace State.Left

/-- An entry into another state. -/
theorem enter {q : Record} (hq : s.rec? i = some q) (h : r.Abandoned q) {st : RState} (hf : st ≠ .faulted)
    (ht : st ≠ .testing) : (Machine.enter st i s).Left i r := by
  by_cases hst : q.st = st
  · have he : Machine.enter st i s = s := by
      unfold Machine.enter enterState
      rw [hq]
      exact if_pos hst
    rw [he]
    exact ⟨q, hq, h, by rw [hst]; exact ht⟩
  · exact ⟨_, rec?_enterState hq false hst hf, h.congr rfl rfl rfl, ht⟩

theorem reenter (h : s.Left i r) {st : RState} (hf : st ≠ .faulted) (ht : st ≠ .testing) :
    (Machine.enter st i s).Left i r := by
  obtain ⟨q, hq, ha, -⟩ := h
  exact enter hq ha hf ht

theorem leaveLapsed (h : s.Left i r) : (Machine.leaveLapsed i s).Left i r := by
  unfold Machine.leaveLapsed
  split
  · exact h
  · split
    · split
      · exact h.reenter (st := .waiting) (by decide) (by decide)
      · split
        · exact h.reenter (st := .waiting) (by decide) (by decide)
        · exact h.reenter (by decide) (by decide)
      · exact h
      · exact h
    · exact h

/-- A grant, with the state that it takes a LAPSED record to (R72). -/
theorem grantTo (h : s.Left i r) (n : Nat) : (Machine.grantTo i n s).Left i r := by
  obtain ⟨q, hq, ha, hst⟩ := h
  unfold Machine.grantTo
  rw [hq]
  refine leaveLapsed ⟨{ q with allowance := q.allowance + grantMoves q s.meter.pool n }, ?_, ha.congr rfl rfl rfl, hst⟩
  exact (rec?_updRec_self ..).trans (congrArg _ hq)

theorem topUp (h : s.Left i r) : (Machine.topUp i s).Left i r := by
  unfold Machine.topUp
  split
  · exact h
  · dsimp only
    split
    · exact h
    · split
      · exact h
      · exact h.grantTo _

theorem lapse {q : Record} (hq : s.rec? i = some q) (h : r.Abandoned q) (hst : q.st = .testing) :
    (Machine.lapse i s).Left i r := by
  have hl : Machine.leaveService i s = s := by
    unfold Machine.leaveService
    rw [stOf_rec hq, hst]
  unfold Machine.lapse
  rw [hl]
  obtain ⟨q', hq', ha, hne⟩ := enter hq h (st := .lapsed) (by decide) (by decide)
  refine topUp ⟨q'.raise .lapsed, (rec?_updRec_self ..).trans (congrArg _ hq'), ha.raise .lapsed, ?_⟩
  obtain ⟨x, y, he⟩ := raise_eq .lapsed q'
  rw [he]
  exact hne

theorem wantFeed {q : Record} (hq : s.rec? i = some q) (h : r.Abandoned q) (hst : q.st = .testing) :
    (Machine.wantFeed i s).Left i r := by
  unfold Machine.wantFeed
  rw [hq]
  dsimp only
  split
  · exact enter hq h (st := .waiting) (by decide) (by decide)
  · exact lapse hq h hst

/-- The abandonment of a test for a call (R170). -/
theorem abandonForCall {q : Record} (hq : s.rec? i = some q) (h : r.Called q) (hst : q.st = .testing) :
    (Machine.abandonForCall i s).Left i r := by
  have hu : (setTested i .abandoned s).rec? i = some (q.tested .abandoned) := (rec?_updRec_self ..).trans (congrArg _ hq)
  have ht : (q.tested .abandoned).st = .testing := by
    obtain ⟨x, y, he⟩ := raise_eq .tested q
    unfold Record.tested
    rw [he]
    exact hst
  unfold Machine.abandonForCall
  dsimp only
  generalize setTested i .abandoned s = u at hu ⊢
  split
  · split
    · exact wantFeed (rec?_dropPending hu) (h.tested.congr rfl rfl rfl) ht
    · exact wantFeed hu h.tested ht
  · exact wantFeed hu h.tested ht

end State.Left

/-! ### The end of the event -/

/-- An admission takes its member out of any other state. -/
theorem stOf_admitMember {x : RState} (hx : x ≠ .fed) (h : s.stOf i ≠ some x) (j : Idx) :
    (admitMember j s).stOf i ≠ some x := by
  by_cases hij : i = j
  · subst hij
    obtain ⟨-, he⟩ | ⟨r, hr, hc⟩ := admitMember_cases i s
    · rw [he]; exact h
    · have hslot : (admitSlot i s).rec? i = some { r with admitted := some r.ceiling } :=
        (rec?_updRec_self i (fun r => { r with admitted := some r.ceiling }) _).trans (congrArg _ hr)
      have hen : ∃ q, (enter .fed i (admitSlot i s)).rec? i = some q ∧ q.st = .fed := by
        by_cases hst : r.st = .fed
        · have he : enter .fed i (admitSlot i s) = admitSlot i s := by
            unfold enter enterState
            rw [hslot]
            exact if_pos hst
          exact ⟨{ r with admitted := some r.ceiling }, by rw [he]; exact hslot, hst⟩
        · exact ⟨_, rec?_enterState hslot false hst (by decide), rfl⟩
      obtain ⟨q, hq, hst⟩ := hen
      have hne : ∀ {u : State} {q' : Record}, u.rec? i = some q' → q'.st = .fed → u.stOf i ≠ some x := fun hu hf => by
        rw [stOf_rec hu, hf]
        exact fun he => hx (Option.some.inj he).symm
      obtain he | ⟨y, -, he⟩ := hc
      · rw [he]; exact hne hq hst
      · obtain ⟨z, hz⟩ := rec?_ask hq y
        rw [he]
        exact hne hz hst
  · unfold State.stOf
    rw [rec?_admitMember_other hij]
    exact h

theorem stOf_finishEvent {x : RState} (hx : x ≠ .fed) (h : t.stOf i ≠ some x) (b : State) :
    (finishEvent b t).stOf i ≠ some x := by
  have hd : (decided t).stOf i ≠ some x :=
    decided_keeps (Q := fun u => u.stOf i ≠ some x) (fun u j _ hu => stOf_admitMember hx hu j) h
  have hp : (pickBoth (decided t)).stOf i = (decided t).stOf i := by
    have hs := congrArg (Option.map Record.st) (steady_pickBoth i (decided t)).slot
    rw [Option.map_map, Option.map_map] at hs
    exact hs
  obtain he | he := finishEvent_cases b t
  · rw [he]; exact hd
  · rw [he]
    show (pickBoth (decided t)).stOf i ≠ some x
    rw [hp]; exact hd

theorem State.Left.finish (h : t.Left i r) (b : State) : (finishEvent b t).Left i r := by
  obtain ⟨q, hq, ha, hst⟩ := h
  obtain ⟨q', hq', ht⟩ := terms_finishEvent hq b
  have hne := stOf_finishEvent (i := i) (t := t) (x := .testing) (by decide)
    (by rw [stOf_rec hq]; exact fun he => hst (Option.some.inj he)) b
  rw [stOf_rec hq'] at hne
  exact ⟨q', hq', ha.congr (congrArg Record.flags ht :) (congrArg Record.rep ht :) (congrArg Record.testOutcome ht :),
    fun he => hne (congrArg some he)⟩

/-! ### What it leaves of the rest -/

theorem State.Within.wantFeed {P : Set Port} (s : State) : s.Within i P (Machine.wantFeed i s) := by
  unfold Machine.wantFeed
  split
  · exact .refl i P s
  · split
    · exact (State.Within.enter (by decide) s).trans (.joinTail _)
    · exact .lapse s

theorem State.Within.abandonForCall {P : Set Port} (s : State) : s.Within i P (Machine.abandonForCall i s) := by
  have ht : s.Within i P (setTested i .abandoned s) := .updRec (Record.tested .abandoned) s
  unfold Machine.abandonForCall
  dsimp only
  split
  · split
    · exact (ht.trans (.dropPending _)).trans (.wantFeed _)
    · exact ht.trans (.wantFeed _)
  · exact ht.trans (.wantFeed _)

/-- CALL_PULSE on a record in a test window (R62, R170). -/
theorem sample_call_window (h : s.DueSample p i r) (hd : (s.cells[p]).drive = .sense) (hrun : (s.cells[p]).presRun < 2)
    (hbr : s.brings p .call = true) (hst : r.st = .testing) (hwin : s.testInWindow i = true) :
    ∃ t, exec (.callPulse p) s = .next t ∧ t.Left i r ∧ s.RestKept i t := by
  have hu : (raiseFlag i .call (counted p s)).rec? i = some (r.raise .call) :=
    (rec?_updRec_self ..).trans (congrArg _ h.slot)
  have hw : (counted p s).Within i {p} (raiseFlag i .call (counted p s)) := .updRec (Record.raise .call) _
  obtain ⟨x, y, he⟩ := raise_eq .call r
  have hcalled := called_raise r
  rw [he] at hu hcalled
  have heff : callEffect i (counted p s) = abandonForCall i (raiseFlag i .call (counted p s)) := by
    have hin : (raiseFlag i .call (counted p s)).testInWindow i = true := by
      unfold State.testInWindow at hwin ⊢
      rw [h.slot] at hwin
      rw [hu]
      exact hwin
    have hs : (raiseFlag i .call (counted p s)).stOf i = some .testing := (stOf_rec hu).trans (congrArg some hst)
    unfold callEffect
    dsimp only
    rw [hs]
    exact if_pos hin
  refine ⟨_, exec_callPulse h hd hrun hbr, ?_, h.restKept ?_⟩
  · rw [heff]
    exact (State.Left.abandonForCall hu hcalled hst).finish s
  · rw [heff]
    exact hw.trans (.abandonForCall _)

end Sys2Proof.Machine
end

section
/-! A gain and a call of one sample, and the obligation on the sample of a cell. -/

namespace Sys2Proof.Machine

open Sys2Proof

variable {s t v : State} {i : Idx} {p : Port} {r : Record}

/-! ### A gain behind which a call follows -/

/-- What a record holds is read off its pending exchange and the cargo of the engines. -/
theorem holds_congr {k : ExKind} {n : Nat} (hp : (t.rec? i).bind (·.pend) = (s.rec? i).bind (·.pend))
    (hc : t.ties.cargo = s.ties.cargo) (h : s.Holds i k n) : t.Holds i k n := by
  rw [holds_iff] at h ⊢
  rwa [hp, hc]

/-- A gain on a SILENT record that wakes (R59). -/
theorem presenceGain_wakes (hr : s.rec? i = some r) (hst : r.st = .silent)
    (hm : s.supply.mode = .critical → r.cls = .lifeline) :
    ∃ q, (presenceGain i s).rec? i = some q ∧ q.st = .waking ∧ q.has .presence = true ∧
      (presenceGain i s).Holds i .wake 0 ∧ (presenceGain i s).agenda.decision = s.agenda.decision := by
  have hu : (seenNow i (raiseFlag i .presence s)).rec? i =
      some { r.raise .presence with lastSeen := some (raiseFlag i .presence s).clock } :=
    (rec?_updRec_self ..).trans (congrArg _ ((rec?_updRec_self ..).trans (congrArg _ hr)))
  have hsup : (seenNow i (raiseFlag i .presence s)).supply = s.supply := by
    have ho : (seenNow i (raiseFlag i .presence s)).outer = s.outer := by
      show (updRec i _ (updRec i _ s)).outer = _
      rw [outer_updRec, outer_updRec]
    simp only [State.outer, Prod.mk.injEq] at ho
    exact ho.1
  have hd : (seenNow i (raiseFlag i .presence s)).agenda.decision = s.agenda.decision := by
    have ht : (seenNow i (raiseFlag i .presence s)).ties = s.ties := by
      show (updRec i _ (updRec i _ s)).ties = _
      rw [ties_updRec, ties_updRec]
    exact (congrArg Ties.decision ht :)
  have hflag := has_raise .presence r
  obtain ⟨x, y, he⟩ := raise_eq .presence r
  rw [he] at hu hflag
  unfold presenceGain
  dsimp only
  generalize seenNow i (raiseFlag i .presence s) = u at hu hsup hd ⊢
  have hcond : (u.isIn .silent i && !(decide (u.supply.mode = .critical) && !u.lifeline i)) = true := by
    have hl : u.lifeline i = decide (r.cls = .lifeline) := by
      unfold State.lifeline State.ofClass
      rw [hu]
      simp
    have hi : u.isIn .silent i = true := decide_eq_true ((stOf_rec hu).trans (congrArg some hst))
    rw [hi, hl, hsup]
    by_cases hc : s.supply.mode = .critical
    · simp [hm hc]
    · simp [hc]
  rw [if_pos hcond]
  have hheld := holds_ask hu (x := ⟨.wake, 0, .policy⟩) (by decide)
  obtain ⟨z, hz⟩ := rec?_ask hu ⟨.wake, 0, .policy⟩
  have hda := decision_ask i ⟨.wake, 0, .policy⟩ u
  generalize ask i ⟨.wake, 0, .policy⟩ u = a at *
  have hne : r.st ≠ .waking := by rw [hst]; decide
  have hw := rec?_enterState hz false (st := .waking) hne (by decide)
  refine ⟨_, hw, rfl, hflag, holds_congr ?_ (congrArg Ties.cargo (ties_enter (by decide) i a)) hheld,
    (decision_enter (by decide) i a).trans (hda.trans hd)⟩
  rw [show (enter .waking i a).rec? i = _ from hw, hz]
  rfl

/-- A call on a WAKING record sets CALL alone (R62). -/
theorem callEffect_waking (hr : s.rec? i = some r) (hst : r.st = .waking) : callEffect i s = raiseFlag i .call s := by
  have hu : (raiseFlag i .call s).rec? i = some (r.raise .call) := (rec?_updRec_self ..).trans (congrArg _ hr)
  have hs : (raiseFlag i .call s).stOf i = some .waking := by
    obtain ⟨x, y, he⟩ := raise_eq .call r
    rw [stOf_rec hu, he]
    exact congrArg some hst
  unfold callEffect
  dsimp only
  rw [hs]

/-- A presence gain and a call of one sample, the gain first (R46, R59, R62). -/
theorem sample_gain_call (h : s.DueSample p i r) (hd : (s.cells[p]).drive = .sense) (hbr : s.brings p .call = true)
    (hpres : (s.cells[p]).presence = .absent) (hcand : (s.cells[p]).cand = some .present)
    (hrun : (s.cells[p]).presRun = 2) (hbias : s.tick.bias[p] = true) (hspace : p ∉ s.tick.spaces) (hst : r.st = .silent)
    (hm : s.supply.mode = .critical → r.cls = .lifeline) :
    ∃ t q, exec (.callPulse p) s = .next t ∧ t.rec? i = some q ∧ q.st = .waking ∧ q.has .presence = true ∧
      q.has .call = true ∧ t.Holds i .wake 0 := by
  have hcounts := h.counts
  have hreads : sampleReads (s.cells[p]).drive (decide (p ∈ s.tick.spaces)) s.tick.bias[p] (s.cells[p]).lastScan =
      some .present := by
    rw [hd, decide_eq_false hspace, hbias]
    rfl
  obtain ⟨⟨-, -, -, hsp, -⟩, -, hread, -⟩ := id hcounts
  obtain ⟨-, hagain, -⟩ := hread _ hreads
  obtain ⟨hc, hr3⟩ := hagain (by rw [hpres]; decide) hcand
  have hr3 : (s.sampled p).presRun = 3 := by rw [hr3, hrun]; rfl
  have hset : s.brings p .settle = true := decide_eq_true ⟨by rw [hrun]; decide, hr3⟩
  have hl : cellWorks.filter (s.brings p) = [.settle, .call] := by
    simp [cellWorks, List.filter, hset, brings_overCeiling hcounts (by rw [hd]; decide),
      brings_rampEnd (s := s) (p := p) (by rw [hd]; decide), brings_feedRun hcounts (by rw [hd]; decide), hbr]
  -- the settle is a gain
  have hgain : ∃ u : State, settleWork p (counted p s) = presenceGain i u ∧ u.rec? i = some r ∧ u.supply = s.supply ∧
      u.agenda.decision = false ∧ u.roster = s.roster := by
    unfold settleWork
    rw [cell_counted]
    dsimp only
    rw [hc]
    dsimp only
    rw [if_pos hr3, show ∀ f, (updCell p f (counted p s)).boundAt p = some i from fun _ => h.bound, hsp, hpres]
    exact ⟨_, rfl, h.slot, rfl, rfl, rfl⟩
  obtain ⟨u, hu, hurec, husup, hudec, huros⟩ := hgain
  obtain ⟨q, hq, hqst, hqp, hheld, hdec⟩ := presenceGain_wakes hurec hst (by rw [husup]; exact hm)
  have hros : (presenceGain i u).roster = s.roster := by
    have hf : (presenceGain i u).fixed = u.fixed := fixed_settleEffect .absent .present i u
    exact (roster_of_fixed hf).trans huros
  have hwork : callWork p (settleWork p (counted p s)) = raiseFlag i .call (presenceGain i u) := by
    unfold callWork
    rw [hu, boundAt_of_roster hros p, h.bound]
    exact callEffect_waking hq hqst
  have hexec : exec (.callPulse p) s = .next (finishEvent s (raiseFlag i .call (presenceGain i u))) := by
    show Host.Outcome.next (live _ s) = _
    rw [live_awake h.awake, takeSample_brings hbr h.due, sample_event p s hl, ← hwork]
    rfl
  generalize presenceGain i u = w at *
  have hv : (raiseFlag i .call w).rec? i = some (q.raise .call) := (rec?_updRec_self ..).trans (congrArg _ hq)
  have hflag := has_raise .call q
  have hpflag : (q.raise .call).has .presence = true := has_raise_of_has hqp
  have hvheld : (raiseFlag i .call w).Holds i .wake 0 := by
    refine holds_congr ?_ (by rw [ties_raiseFlag]) hheld
    obtain ⟨x, y, he⟩ := raise_eq .call q
    rw [hv, hq, he]
    rfl
  have hvdec : (raiseFlag i .call w).agenda.decision = false := (decision_raiseFlag i .call w).trans (hdec.trans hudec)
  have hsteady := steady_finishEvent (t := raiseFlag i .call w) (i := i) (fun hd' => by rw [hvdec] at hd'; cases hd') s
  obtain ⟨q', hq', hun⟩ := hsteady.record hv
  obtain ⟨x, y, he⟩ := raise_eq .call q
  rw [he] at hun hflag hpflag
  have hflags : q'.flags = x := (congrArg Record.flags hun :)
  refine ⟨_, q', hexec, hq', (congrArg Record.st hun :).trans hqst, ?_, ?_, hsteady.holds _ _ hvheld⟩
  · unfold Record.has at hpflag ⊢
    rw [hflags]; exact hpflag
  · unfold Record.has at hflag ⊢
    rw [hflags]; exact hflag

/-! ### The obligation -/

/-- The event of a due sample, taken by the row of any work that it brings (log entry 21). -/
theorem sample_taken (h : s.DueSample p i r) : ∃ t, t.isDue (.sample p) = false ∧
    ((s.cells[p]).presRun < 3 → (s.sampled p).presRun = 3 → exec (.presenceSettle p) s = .next t) ∧
    ((s.cells[p]).callHeld = false → (s.sampled p).callHeld = true → exec (.callPulse p) s = .next t) ∧
    ((s.cells[p]).overRun < 3 → (s.sampled p).overRun = 3 → exec (.overCeilingShed p) s = .next t) ∧
    ((s.cells[p]).drive = .ramp → (s.sampled p).rampCount = 0 → exec (.rampEnd p) s = .next t) ∧
    ((s.cells[p]).feedRun < 600 → (s.sampled p).feedRun = 600 → exec (.feedRunComplete p) s = .next t) := by
  have htaken : ∀ w, s.brings p w = true →
      Host.Outcome.next (live (takeSample w p) s) = (.next (takeEvent (.sample p) s) : Host.Outcome State Fault Refusal) :=
    fun w hw => by rw [live_awake h.awake, takeSample_brings hw h.due, takeEvent_sample h.due]
  refine ⟨takeEvent (.sample p) s, isDue_takeEvent_sample h.due, fun h1 h2 => htaken .settle (decide_eq_true ⟨h1, h2⟩),
    fun h1 h2 => htaken .call ?_, fun h1 h2 => htaken .overCeiling (decide_eq_true ⟨h1, h2⟩),
    fun h1 h2 => htaken .rampEnd (decide_eq_true ⟨h1, h2⟩), fun h1 h2 => htaken .feedRun (decide_eq_true ⟨h1, h2⟩)⟩
  simp only [State.brings, State.recognises, h2, Bool.and_true, Bool.or_eq_true, Bool.not_eq_true']
  exact .inl h1

theorem testInWindow_iff (hr : s.rec? i = some r) :
    s.testInWindow i = true ↔ ∃ x, r.test = some x ∧ x.phase = .window := by
  unfold State.testInWindow
  rw [hr, Option.bind_some]
  cases r.test <;> simp

/-- Settles O56: the tick up to a port's sample, and the sample's event by the works that it brings. -/
theorem cellEvents : Obligations.CellEvents := by
  refine ⟨fun sc p i r s t hawake hagenda hu hq hr hport hpend hst hn hexec hmode => ?_,
    fun p i r s hawake hb hr hdue => ?_⟩
  · have hw : i ∉ s.arbiter.queue := fun hm => by
      have := (hq.2 i).mp hm
      rw [stOf_rec hr] at this
      exact hst (Option.some.inj this)
    have hbound : s.boundAt p = some i := boundAt_eq hu (by rw [State.portOf, hr]; exact hport)
    exact tick_sample hawake (congrArg Agenda.due hagenda) hu hbound hr hw hpend hn hexec hmode
  intro c d v calls alone
  have h : s.DueSample p i r := ⟨hawake, hb, hr, hdue⟩
  refine ⟨h.counts, sample_taken h, ?_, ?_, ?_, ?_, ?_, ?_⟩
  · exact fun a ⟨hrun, hcalls⟩ hd hc ha => sample_rampEnd h hrun hcalls hd hc ha
  · exact fun ⟨hrun, hcalls⟩ hd hc ho => sample_feedRun h hrun hcalls hd hc ho
  · exact fun ⟨hrun, hcalls⟩ hd hc ho => sample_overCeiling h hrun hcalls hd hc ho
  · rintro ⟨hd, he, hh, hc, b, hbase, hv⟩ hrun
    obtain ⟨-, hbr⟩ := recognises_call h hd he hh hc hbase hv
    by_cases hwin : r.st = .testing ∧ s.testInWindow i = true
    · obtain ⟨hst, hwin⟩ := hwin
      obtain ⟨t, hexec, ⟨q, hq, ⟨hcalled, htested, hout⟩, hne⟩, hkept⟩ := sample_call_window h hd hrun hbr hst hwin
      obtain ⟨x, hx, hphase⟩ := (testInWindow_iff hr).mp hwin
      refine ⟨t, q, hexec, hq, hcalled.1, hcalled.2, hkept, by simp [hst], by simp [hst], by simp [hst], by simp [hst],
        fun _ _ _ _ => ⟨hne, htested, hout⟩, fun y m _ hy => ?_⟩
      rcases hy with hy | hy <;> · rw [hy] at hx; cases hx; cases hphase
    · have hno : r.st = .testing → s.testInWindow i = false := fun hst => by
        cases hw : s.testInWindow i with
        | false => rfl
        | true => exact absurd ⟨hst, hw⟩ hwin
      obtain ⟨t, q, hexec, hq, hc, hkept⟩ := sample_call h hd hrun hbr hno
      refine ⟨t, q, hexec, hq, hc.called.1, hc.called.2, hkept, hc.resting, hc.serving, hc.silent, hc.waking,
        fun x m hst hx => ?_, fun _ _ hst _ => (hc.testing hst).1⟩
      exact absurd ⟨hst, (testInWindow_iff hr).mpr ⟨_, hx, rfl⟩⟩ hwin
  · rintro ⟨hd, he, hh, hc, b, hbase, hv⟩ hpres hcand hrun hbias hspace hst hm
    exact sample_gain_call h hd (recognises_call h hd he hh hc hbase hv).2 hpres hcand hrun hbias hspace hst hm
  · intro x m hcalls hrun hd hst htest
    have hbr : s.brings p .call = true := by
      simp [State.brings, State.callInQ1, hcalls, hb, hr, htest]
    have hno : r.st = .testing → s.testInWindow i = false := fun _ => by
      refine Bool.eq_false_iff.mpr fun hw => ?_
      obtain ⟨y, hy, hphase⟩ := (testInWindow_iff hr).mp hw
      rw [htest] at hy
      cases hy
      cases hphase
    obtain ⟨t, q, hexec, hq, hc, -⟩ := sample_call h hd hrun hbr hno
    obtain ⟨h1, h2, h3⟩ := hc.testing hst
    exact ⟨t, q, hexec, hq, h1, h2, hc.called.1, h3⟩

end Sys2Proof.Machine
end
